-- ==== Sys2Proof/Word.lean ====
section
/-! DEFINITION. The words, bytes, texts and ticks that every other file names, and their plainest arithmetic. -/
namespace Sys2Proof

/-- A register word: registers are 32 bits wide (R7). -/
abbrev Word := BitVec 32

/-- One byte of a record, a datagram or a stored file. -/
abbrev Byte := BitVec 8

/-- A count of ticks of the 250 MHz timebase: one tick is 4 ns. -/
abbrev Tick := Nat

/-- A Thotor text: one character for each byte of a line. -/
abbrev Text := List Char

/-- Objects of the engine by their number (Table Scope.4). -/
abbrev LaneId := Fin 64
abbrev PortId := Fin 6
abbrev CciId := Fin 4
abbrev CorrId := Fin 4096
abbrev RingId := Fin 256
abbrev TenantId := Fin 64
abbrev MasterId := Fin 96

/-- The number of an aligned word of BAR0, 16 MiB long (R7). -/
abbrev RegWord := BitVec 22
abbrev AnvilId := Fin 8
abbrev ChanId := Fin 24
abbrev LedId := Fin 8
abbrev SessionId := Fin 16
abbrev CtxId := Fin 62
abbrev DomainId := Fin 6
abbrev SourceId := Fin 1024

/-- Smallest and largest value of a clamped quantity. -/
def clamp (lo hi x : Nat) : Nat := if x < lo then lo else if hi < x then hi else x

/-- The same on signed values. -/
def clampI (lo hi x : Int) : Int := if x < lo then lo else if hi < x then hi else x

/-- Ceiling of a division of naturals. -/
def ceilDiv (a b : Nat) : Nat := (a + b - 1) / b

/-- Bit `i` of a natural. -/
def bit (x i : Nat) : Bool := x.testBit i

/-- Bits `[lsb + w - 1 : lsb]` of a natural. -/
def bits (x lsb w : Nat) : Nat := (x >>> lsb) % 2 ^ w

/-- 1 for true, 0 for false. -/
def b2n (b : Bool) : Nat := if b then 1 else 0

/-- Two's complement reading of the low `w` bits of `x`. -/
def toSigned (w x : Nat) : Int :=
  let y := x % 2 ^ w
  if 2 * y < 2 ^ w then (y : Int) else (y : Int) - (2 ^ w : Nat)

/-- Two's complement writing of `x` in `w` bits. -/
def ofSigned (w : Nat) (x : Int) : Nat := (x % ((2 ^ w : Nat) : Int)).toNat

/-- Absolute difference of two naturals. -/
def absDiff (a b : Nat) : Nat := if a ≤ b then b - a else a - b

/-- Little-endian bytes of a natural. -/
def leBytes : Nat → Nat → List Byte
  | 0, _ => []
  | n + 1, x => BitVec.ofNat 8 (x % 256) :: leBytes n (x / 256)

/-- The natural that little-endian bytes spell. -/
def ofLeBytes : List Byte → Nat
  | [] => 0
  | b :: bs => b.toNat + 256 * ofLeBytes bs

/-- `n` copies of byte zero. -/
def zeros (n : Nat) : List Byte := List.replicate n 0

/-- The list `0, 1, …, n - 1`. -/
def upto (n : Nat) : List Nat := List.range n

end Sys2Proof
end

