-- ==== Sys2Proof/Machine/Kv.lean ====
section
/-! DEFINITION. Sparse data by a numeric key, in one canonical form: keys strictly rising, and no entry equal to what an
unlisted key reads as. -/
namespace Sys2Proof.Machine

/-- Sparse data: a list of (key, value) pairs. -/
abbrev Kv (α : Type) := List (Nat × α)

/-- The value of a key; an unlisted key reads `d`. -/
def kvGet {α : Type} (d : α) : Kv α → Nat → α
  | [], _ => d
  | (k, v) :: m, q => if q = k then v else kvGet d m q

/-- Remove a key. -/
def kvDel {α : Type} (m : Kv α) (q : Nat) : Kv α := m.filter (fun e => e.1 != q)

/-- Put an entry before the first larger key. -/
def kvInsert {α : Type} : Kv α → Nat → α → Kv α
  | [], q, x => [(q, x)]
  | (k, v) :: m, q, x => if q < k then (q, x) :: (k, v) :: m else (k, v) :: kvInsert m q x

/-- Put an entry at its place. -/
def kvPut {α : Type} (m : Kv α) (q : Nat) (x : α) : Kv α := kvInsert (kvDel m q) q x

/-- Write a key: writing what an unlisted key reads as removes the entry. -/
def kvSet {α : Type} [DecidableEq α] (d : α) (m : Kv α) (q : Nat) (x : α) : Kv α :=
  if x = d then kvDel m q else kvPut m q x

/-- Change the value of a key. -/
def kvMod {α : Type} [DecidableEq α] (d : α) (m : Kv α) (q : Nat) (f : α → α) : Kv α :=
  kvSet d m q (f (kvGet d m q))

/-- Keep the entries whose key satisfies `p`. -/
def kvKeep {α : Type} (p : Nat → Bool) (m : Kv α) : Kv α := m.filter (fun e => p e.1)

/-- The canonical form: keys strictly rising, no entry equal to `d`. -/
def kvWf {α : Type} [DecidableEq α] (d : α) : Kv α → Bool
  | [] => true
  | [(_, v)] => v != d
  | (k, v) :: (k', v') :: m => (v != d) && decide (k < k') && kvWf d ((k', v') :: m)

end Sys2Proof.Machine
end

