-- ==== Sys2Proof/Machine/TypesCore.lean ====
section
/-! DEFINITION. The internal state of the Bell, the Door, the Gradebook, the journal and the capture lanes, as plain data:
what the registers do not show. -/
namespace Sys2Proof.Machine

/-! ### Bell and Door -/

/-- The Bell's own state, R15 to R26. -/
structure BellSt where
  /-- tick of the last BELL_IN edge of any kind, R20 -/
  lastEdge : Option Nat := none
  /-- tick of the last valid edge, R21 -/
  lastValid : Option Nat := none
  /-- valid edges in a row in holdover, R22 -/
  inRow : Nat := 0
  /-- edges whose Bell is still held, oldest first; true marks the edge that left holdover, R22 -/
  held : List (Nat × Bool) := []
  /-- catch-up after a held edge, R22 -/
  catchUp : Bool := false
  /-- a change of source that waits, with the new source and its B, R25 -/
  srcPend : Option (Nat × Nat) := none
  /-- a nominal Period that waits, R26 -/
  periodPend : Option Nat := none
  /-- a withdrawn Period change: admission resumes at the next Bell, R26 -/
  resumeNext : Bool := false
  /-- the reserve in force, R29 -/
  reserveAct : Nat := 10
  /-- start tick and width of the last BELL_OUT pulse, R24 -/
  outPulse : Option (Nat × Nat) := none
  /-- lock has returned: the next Bell lies at least the nominal Period after the last, R23 -/
  afterLock : Bool := false
  /-- instant of the first holdover Bell, until it has sounded, R21 -/
  holdFirst : Option Nat := none
  /-- tick at which each IEEE 1588 port last gained lock, R23 and R25 -/
  lockAt : Kv Nat := []
  /-- level at which the current Period is costed after a Temper change, R55 -/
  rowLevel : Nat := 5
  deriving DecidableEq, Repr

/-- The job types in the order of Table Bell.2 (R51). -/
inductive JobType where
  | pipe | finder | decode | delivery | sfeCal | strobe | trim | gap
  deriving DecidableEq, Repr

/-- A job that runs past its cost: its lane, if it has one, and the cycles past it (R51). -/
structure Overrun where
  lane : Option LaneId
  cycles : Word
  deriving DecidableEq, Repr

/-- How far a placed job is, R48 to R52. -/
inductive JobStage where
  | waiting | ready | running | done
  deriving DecidableEq, Repr

/-- One job placed in a row of the ledger, R34 and R42. -/
structure TJob where
  ty : JobType
  /-- unit index of Table Bell.1 -/
  unit : Nat
  /-- Period of its row -/
  row : Nat
  cost : Nat
  /-- first and last row its bounds allow, R42 -/
  lo : Nat
  hi : Nat
  /-- Door ordinal of its Billet -/
  ordinal : Nat
  stripe : Nat
  deadline : Nat
  stage : JobStage := .waiting
  /-- tick at which it began to run, R50 -/
  since : Nat := 0
  /-- 0 for placed work; otherwise its place in the order of R28 among what draws on the reserve -/
  prio : Nat := 0
  deriving DecidableEq, Repr

/-- Demand and budget of one Bell, on the units of rationing: PIPE, the pooled Finders, CORES, DELIVERY (R59, R60). -/
structure RationBell where
  demand : List Rat
  budget : List Nat
  deriving DecidableEq, Repr

/-- Rationing, R59 to R62. -/
structure RationSt where
  /-- the last 8 Bells, latest first -/
  hist : List RationBell := []
  /-- consecutive Bells at which no unit was over its budget -/
  calm : Nat := 0
  /-- the scale S, R61 -/
  scale : Rat := 1
  deriving DecidableEq, Repr

/-! ### Records and the Gradebook -/

/-- The record kinds of Table Accepted.1. -/
inductive RecKind where
  | symbol | status | gap | job | evicted
  deriving DecidableEq, Repr

/-- A record: its 64-byte header and what follows it are kept as bytes, without the sequence number. -/
structure Rec where
  ordinal : Nat
  /-- candidate number; none marks a terminal record or a record that stands alone -/
  cand : Option Nat
  kind : RecKind
  endCode : Nat
  /-- sequence number, 0 until it is assigned (R99) -/
  seq : Nat := 0
  lane : Nat
  frame : Nat
  /-- Period of the decision -/
  period : Nat
  stamp : Nat
  flags : Nat
  /-- bytes 34 onward of the header: the kind area -/
  area : List Byte := []
  /-- the 64-byte summary, empty without one -/
  summary : List Byte := []
  payload : List Byte := []
  deriving DecidableEq, Repr

/-- What a Billet's terminal record tells of it: SYMBOL records, stripes, capture mark and LATE (R78, R79). -/
structure EndSeen where
  symbols : Nat := 0
  stripes : Nat := 0
  mark : Nat := 0
  late : Bool := false
  deriving DecidableEq, Repr

/-- What one correspondent is owed for one Door decision, R72. -/
structure Owed where
  ordinal : Nat
  lane : Nat
  frame : Nat
  /-- 0 for a Billet's records, otherwise the reason of a gap notice; 9 stands for an EVICTED record -/
  reason : Nat
  /-- frames a gap notice stands for, R73 -/
  count : Nat := 1
  period : Nat
  stamp : Nat
  /-- job code of a gap notice for a Thotor job -/
  jobCode : Nat := 0
  /-- the first decision that a gap notice stands for, when it has absorbed others, R73 -/
  first : Option Nat := none
  /-- its symbology mask at the decision, R70 -/
  sym : Nat := 0x3FFF
  /-- what the terminal record of its Billet told, once the Billet has ended -/
  final : Option EndSeen := none
  /-- the rest of the decision was given up by an eviction, R120 -/
  cut : Bool := false
  /-- records committed and not yet taken into a batch or a send, lowest candidate first, the terminal one last -/
  recs : List Rec := []
  /-- candidate numbers of the records already taken, and their sizes together, R521 -/
  taken : List Nat := []
  takenBytes : Nat := 0
  deriving DecidableEq, Repr

/-- A batch in flight on a ring, R101. -/
structure Batch where
  ring : Nat
  epoch : Nat
  corr : Nat
  s0 : Nat
  n0 : Nat
  n1 : Nat
  recs : List Rec
  /-- INTENT is durable and the slots are written -/
  written : Bool := false
  /-- the flush read has returned; the COMPLETE entry is on its way -/
  flushed : Bool := false
  /-- it was in flight at a disarm by link-down or reset, R550 -/
  open_ : Bool := false
  deriving DecidableEq, Repr

/-- One correspondent, beside its registers. The applied settings are those of R514. -/
structure CorrSt where
  tenant : Nat := 0
  kind : Nat := 0
  route : Nat := 0
  lanes : Nat := 0
  symMask : Nat := 0x3FFF
  quota : Nat := 64
  noticeCap : Nat := 256
  jxCode : Nat := 0
  /-- decisions owed and not fully released, in Door-ordinal order -/
  owed : List Owed := []
  /-- records whose SENT entry is not durable yet (Ethernet and Thotor routes) -/
  sending : List Rec := []
  /-- records sent and not acknowledged, by sequence number (Ethernet and Thotor routes) -/
  sent : List Rec := []
  /-- Door ordinal of the last fully visible decision -/
  lastVisible : Nat := 0
  /-- highest sequence number acknowledged -/
  acked : Nat := 0
  /-- an acknowledgement that waits for its entry, and the tick of the last ACKED entry, R545 -/
  ackWant : Option Nat := none
  ackAt : Option Nat := none
  /-- tick at which the current stall began, R523 -/
  stallSince : Option Nat := none
  /-- E0642 has been raised for the current stall, R524 -/
  stallTold : Bool := false
  /-- the next record carries RESYNC, R113 -/
  resync : Bool := false
  /-- an eviction waits for the batch in flight or for its entry, R86 and R120 -/
  evicting : Bool := false
  deriving DecidableEq, Repr

/-! ### The journal -/

/-- The body of a journal entry, one constructor for each type of Table Accepted.5. -/
inductive JBody where
  | accept (stalled : Bool) (ordinal period lane anvil dMinusA frame : Nat)
  | refuse (ordinal period lane reason frame : Nat)
  | job (refused : Bool) (ordinal period session reason dMinusA corr code : Nat)
  | ended (ordinal endCode symbols stripes : Nat)
  | returned (ordinal left taken epoch : Nat)
  | intent (ring epoch corr s0 count n0 n1 : Nat)
  | complete (visible : Bool) (ring epoch corr last n1 ordinal : Nat)
  | sent (visible : Bool) (route session corr s0 count ordinal : Nat)
  | acked (corr seq : Nat)
  | subscribe (ordinal corr tenant action lanes symMask : Nat)
  | stall (ordinal corr state : Nat)
  | evict (ordinal corr tenant seq count : Nat)
  | settings (corr kind route quota noticeCap resume stallTimeout jxCode : Nat)
  | fence (unit epoch : Nat)
  | arm (ring epoch function : Nat)
  | checkpoint (slot ordinal period : Nat)
  | seal (cause result stamp flushUs : Nat)
  | boot (kind issued bootCount : Nat)
  deriving DecidableEq, Repr

/-- A journal entry: its serial and its body. -/
structure JEntry where
  serial : Nat
  body : JBody
  deriving DecidableEq, Repr

/-- The settings that a SETTINGS entry carries, R110. -/
structure Settings where
  kind : Nat
  route : Nat
  quota : Nat
  noticeCap : Nat
  resume : Nat
  stallTimeout : Nat
  jxCode : Nat
  deriving DecidableEq, Repr

/-- A log position: the entry, and whether its stored CRC holds. -/
structure JCell where
  entry : JEntry
  crcOk : Bool := true
  deriving DecidableEq, Repr

/-- The correspondent record of a checkpoint, R95. -/
structure CkCorr where
  nextSeq : Nat
  lastVisible : Nat
  state : Nat
  tenant : Nat
  route : Nat
  lanes : Nat
  symMask : Nat
  acked : Nat
  kind : Nat
  resume : Nat
  quota : Nat
  noticeCap : Nat
  stallTimeout : Nat
  jxCode : Nat
  deriving DecidableEq, Repr

/-- A checkpoint slot, R95. Only what differs from a free correspondent, ring, lane or unit is listed. -/
structure Ckpt where
  serial : Nat
  period : Nat
  ordinal : Nat
  bootCount : Nat
  consoleAuto : Nat
  corrs : Kv CkCorr := []
  /-- ring: epoch, producer index, consumer index -/
  rings : Kv (Nat × Nat × Nat) := []
  /-- lane: last frame number and last Door ordinal -/
  lanes : Kv (Nat × Nat) := []
  /-- unit: epoch -/
  units : Kv Nat := []
  /-- log position that follows the CHECKPOINT entry -/
  next : Nat := 0
  crcOk : Bool := true
  deriving DecidableEq, Repr

/-- The header of the journal memory, R825 and Table Accepted.3. -/
structure JHeader where
  /-- format version and part identity -/
  version : Nat := 0
  part : Nat := 0
  slot : Nat
  head : Nat
  tail : Nat
  bootCount : Nat
  consoleAuto : Nat
  crcOk : Bool := true
  deriving DecidableEq, Repr

/-- The journal: requests not yet durable, the staging buffer, and the journal memory. -/
structure JournalSt where
  /-- entries requested and not yet durable, oldest first -/
  requests : List JBody := []
  /-- the staging buffer -/
  staging : List JEntry := []
  /-- the log by position; an unlisted position is free -/
  log : Kv JCell := []
  /-- position of the next entry -/
  tail : Nat := 0
  header : Option JHeader := none
  slotA : Option Ckpt := none
  slotB : Option Ckpt := none
  /-- serial of the CHECKPOINT entry in force, and the log position after it -/
  ckptSerial : Nat := 0
  ckptNext : Nat := 0
  /-- a checkpoint cause remembered, R94 -/
  ckptDue : Bool := false
  /-- Bells since the last checkpoint took effect, or since the BOOT entry -/
  bellsSince : Nat := 0
  /-- a checkpoint is being written, R94 -/
  writing : Bool := false
  /-- tick of the last append, R89 -/
  lastAppend : Nat := 0
  /-- tick at which the sequence of R116 began -/
  failAt : Nat := 0
  deriving DecidableEq, Repr

/-- The sequence after PWR_FAIL, R116 and R117. -/
inductive PowerFail where
  | off | draining | sealed
  deriving DecidableEq, Repr

/-! ### Capture -/

/-- The open capture of a lane, R154 to R159. -/
structure Capture where
  /-- Door ordinal of its Billet; none for a refused frame (R157) -/
  ordinal : Option Nat
  frame : Nat
  /-- rows filled -/
  rows : Nat := 0
  mark : Nat := 0
  /-- tick at which the last row was filled -/
  lastRow : Nat := 0
  /-- frame number of the frame-start packet -/
  sensorFn : Nat := 0
  /-- embedded-data packets of the frame, oldest first, at most 4 (R133) -/
  embedded : List (List Byte) := []
  /-- the first line of pixel data has ended, so a tag can no longer arrive (R149) -/
  firstLineDone : Bool := false
  /-- LANE_POLICY as it stood at the frame start (R180) -/
  errClass : Nat := 0x1705
  onError : Bool := false
  badLine : Bool := false
  policy : Bool := false
  probClean : Nat := 2
  deriving DecidableEq, Repr

/-- The frame of a merge partner that a lane is receiving or holds, R228. -/
structure PartnerFrame where
  exposure : Nat
  tag : Option Nat
  stamp : Nat
  /-- rows stored, and lines that have filled a row, stored or not -/
  rows : List (List Nat) := []
  count : Nat := 0
  /-- tick at which the last row was filled -/
  lastRow : Nat := 0
  /-- BAD_LINE as it stood at its frame start (R161, R180) -/
  badLine : Bool := false
  /-- its capture has closed -/
  closed : Bool := false
  firstLineDone : Bool := false
  embedded : List (List Byte) := []
  /-- the Billet it is matched to -/
  ordinal : Option Nat := none
  /-- lane frame number of the frame it partners, accepted or refused -/
  frame : Option Nat := none
  /-- its capture mark -/
  mark : Nat := 0
  /-- it is not stored: its frame was refused or has ended, or it partners none -/
  dropped : Bool := false
  /-- its exposure is missing in its Billet: its lines count in PARTNER_LATE (R230) -/
  late : Bool := false
  deriving DecidableEq, Repr

/-- One capture port beside its registers. -/
structure PortSt where
  /-- tick of the last valid header or bus frame start, R134 and R141 -/
  lastSeen : Nat := 0
  /-- bus line about to be numbered, R137 -/
  busLine : Nat := 0
  /-- parallel lanes whose frame has started in the bus frame in progress, R150 -/
  started : List Nat := []
  /-- line number of the last trailer, R145 -/
  lastTrailer : Option Nat := none
  /-- F of the last timing code, R140 -/
  lastF : Option Nat := none
  /-- a timing code with V = 1 has come since the bus frame started, R138 -/
  blank : Bool := false
  /-- the last timing code started active video: H = 0 and V = 0, R138 -/
  active : Bool := false
  /-- lines since the active edge of VSYNC, R137 -/
  vLine : Nat := 0
  /-- an injected loss of the link holds it down until this tick, R724 -/
  downUntil : Nat := 0
  deriving DecidableEq, Repr

/-- A camera control transaction, R169 and R170. -/
structure CciTx where
  tag : Nat
  lane : Nat
  trig : Nat
  dataBytes : Nat
  regBytes : Nat
  read : Bool
  dev : Nat
  reg : Nat
  data : Nat
  /-- the loop write it is (R256): lane, what it writes (0 exposure, 1 red gain, 2 blue gain), and the value before -/
  loop : Option (Nat × Nat × Nat) := none
  /-- the Thotor session that waits for it, R621 -/
  session : Option Nat := none
  deriving DecidableEq, Repr

/-- A camera control result, R172. -/
structure CciResult where
  tag : Nat
  status : Nat
  rdata : Nat
  deriving DecidableEq, Repr

/-- What a camera control master puts on SCL and SDA, R169 and R173. -/
inductive CciWire where
  | start | restart | stop
  /-- a device address with its read bit, a register address byte, or a data byte -/
  | byte (b : Nat)
  /-- SCL clocks that free a stuck SDA -/
  | clocks (n : Nat)
  deriving DecidableEq, Repr

/-- One camera control master beside its registers. -/
structure CciSt where
  queue : List CciTx := []
  /-- the transaction on the bus -/
  active : Option CciTx := none
  /-- the head transaction's trigger has come -/
  triggered : Bool := false
  /-- what the last transaction put on the bus, oldest first -/
  wire : List CciWire := []
  results : List CciResult := []
  deriving DecidableEq, Repr

end Sys2Proof.Machine
end

