-- ==== Sys2Proof/Machine/TypesPipe.lean ====
section
/-! DEFINITION. The state of the pixel pipeline, the statistics, the output streams and the Slate continuity, as plain
data: what the registers do not show. -/
namespace Sys2Proof.Machine

/-! ### Pipe -/

/-- What the latch settled for a frame's reference compare, R216 to R221 and R232. -/
structure RefPlan where
  /-- 0 off, 1 compare with a slot, 2 compare with the previous frame, 3 fill a slot, 4 no reference -/
  kind : Nat := 0
  slot : Nat := 0
  /-- half compared with, and half written -/
  cmp : Nat := 0
  fill : Nat := 0
  deriving DecidableEq, Repr

/-- Optical-black sums of one phase, R204 and R205. -/
structure ObSum where
  sum : Nat := 0
  n : Nat := 0
  full : Nat := 0
  deriving DecidableEq, Repr

/-- A Billet's part in the Pipe. -/
structure PipeB where
  /-- Pipe mark, R227 -/
  mark : Nat := 0
  /-- exposures missing, with the stripe each is missing from, R229 -/
  missFrom : List (Nat × Nat) := []
  /-- mask of missing exposures, R230 -/
  missing : Nat := 0
  /-- frame tag of exposure 0, R149 -/
  tag : Option Nat := none
  /-- stripes processed -/
  done : Nat := 0
  /-- a stripe of it runs on the Pipe -/
  busy : Bool := false
  /-- the Pipe runs none of its later stripes, R233 and R235 -/
  skip : Bool := false
  /-- rows of the decode view so far, R192 -/
  view : List (List Nat) := []
  /-- rows of the corrected plane so far; on a YUV422 lane the raw words -/
  plane : List (List Nat) := []
  ref : RefPlan := {}
  /-- verdict, DIFF_COUNT and SAD, R218 and R219 -/
  verdict : Nat := 0
  formed : Bool := false
  diffCount : Nat := 0
  sad : Nat := 0
  /-- a stripe found no reference to compare with, R232 -/
  noRef : Bool := false
  /-- dynamic replacements, R209 -/
  dynCount : Nat := 0
  /-- optical-black sums of the four phases -/
  ob : List ObSum := [{}, {}, {}, {}]
  deriving DecidableEq, Repr

/-- What a latch takes of a lane's shadow set (R194, R291): LATCH_HOLD, the shadow fields, and the symbology words; and the
tick before whose writes it stood. -/
structure ShadowCopy where
  tick : Nat
  hold : Nat
  ws : Kv Nat
  sym : List (Nat × Nat × Nat)
  deriving DecidableEq, Repr

/-- One stripe of a decode view in a reference half: its rows, the geometry of the view, and the frame it is of. -/
structure RefPart where
  rows : List (List Nat)
  width : Nat
  height : Nat
  lane : Nat
  frame : Nat
  deriving DecidableEq, Repr

/-- One half of a reference slot, R215: the geometry and the source of the frame written last, and the map of the stripes
written into it. A stripe keeps its content until it is written again (R221). -/
structure RefHalf where
  width : Nat := 0
  height : Nat := 0
  lane : Nat := 0
  frame : Nat := 0
  parts : Kv RefPart := []
  deriving DecidableEq, Repr

/-- A reference slot beside its registers. -/
structure RefSlot where
  half0 : RefHalf := {}
  half1 : RefHalf := {}
  /-- the lane that owns it in PREVIOUS mode, R221 -/
  owner : Option Nat := none
  deriving DecidableEq, Repr

/-- The Pipe: the stripe it runs, and the Billet whose stripe it ran last, R189 and R190. -/
structure PipeSt where
  running : Option (Nat × Nat) := none
  lastBillet : Option Nat := none
  deriving DecidableEq, Repr

/-! ### Statistics and output streams -/

/-- One frame's part of an output stream, R261 to R271. -/
structure StreamB where
  /-- the stream takes this frame -/
  live : Bool := false
  fmt : Nat := 0
  nx : Nat := 64
  ny : Nat := 64
  cx : Nat := 0
  cy : Nat := 0
  cw : Nat := 0
  ch : Nat := 0
  wOut : Nat := 0
  hOut : Nat := 0
  /-- the first frame after an enable or a change of shadow fields -/
  start : Bool := false
  /-- slot chosen when the first line was due -/
  slot : Option Nat := none
  /-- output lines written -/
  lines : Nat := 0
  /-- bytes of the user-defined packets kept under PASS, R264 -/
  pass : List Byte := []
  passOverflow : Bool := false
  deriving DecidableEq, Repr

/-- A Billet's statistics, R241 to R247. -/
structure StatB where
  enabled : Bool := false
  /-- the window in force and WINDOW_HELD, R242 -/
  x0 : Nat := 0
  y0 : Nat := 0
  w : Nat := 0
  h : Nat := 0
  held : Bool := false
  /-- histogram by bin, zone sums and counts by (row × 16 + column) × 4 + channel -/
  hist : Kv Nat := []
  sum : Kv Nat := []
  cnt : Kv Nat := []
  /-- RAW_SAT, CLIP_HI and CLIP_LO by channel: key 4 × count + channel, R247 -/
  clip : Kv Nat := []
  stripes : Nat := 0
  /-- the accumulation was lost, R268 -/
  lost : Bool := false
  /-- the block has been posted -/
  posted : Bool := false
  /-- the four output streams -/
  streams : List StreamB := [{}, {}, {}, {}]
  deriving DecidableEq, Repr

/-- One output stream of a lane beside its registers. -/
structure StreamSt where
  /-- the next frame it takes carries START, R263 -/
  start : Bool := true
  /-- shadow fields of the last latch that gave it a frame -/
  last : Option (List Nat) := none
  /-- EN as the last latch took it, R258 -/
  enLatched : Bool := false
  /-- frames not made visible since the previous slot -/
  missed : Nat := 0
  /-- slots made visible -/
  seq : Nat := 0
  deriving DecidableEq, Repr

/-- A write of the engine to host memory, R251 and R263 and the rings. -/
structure HostWrite where
  /-- function, 0 for the PF -/
  fn : Nat
  addr : Nat
  bytes : List Byte
  deriving DecidableEq, Repr

/-! ### Slate continuity and latency -/

/-- A Slate tag decoded in a Billet, R332. -/
structure SlateTag where
  cand : Nat
  sid : Nat
  flags : Nat
  counter : Nat
  deriving DecidableEq, Repr

/-- A Billet's part in continuity. -/
structure SlateB where
  tags : List SlateTag := []
  examined : Bool := false
  /-- bytes 32 to 63 of the summary, Table Slate.6 -/
  summary : List Byte := []
  deriving DecidableEq, Repr

/-- A pending hole of a tracker, R333. -/
structure Hole where
  counter : Nat
  examined : Bool
  deriving DecidableEq, Repr

/-- One tracker of a lane, R333. -/
structure Tracker where
  sid : Nat
  high : Nat
  run : Nat := 0
  holes : List Hole := []
  /-- DROPS of this tracker, Table Slate.6 -/
  drops : Nat := 0
  deriving DecidableEq, Repr

/-- A latency unit beside its registers, R341 to R343. -/
structure LatSt where
  /-- stamps and counters of the marks that wait, oldest first -/
  marks : List (Nat × Nat) := []
  /-- stamps of the edges that wait, oldest first -/
  edges : List Nat := []
  /-- stamp and value of the last sample -/
  prev : Option (Nat × Int) := none
  armed : Bool := true
  deriving DecidableEq, Repr

end Sys2Proof.Machine
end

