-- ==== Sys2Proof/Machine/TypesBillet.lean ====
section
/-! DEFINITION. Billets, candidates and Anvils, as plain data: what the registers do not show. -/
namespace Sys2Proof.Machine

/-- A point in 1/16 px. -/
structure Pt where
  x : Int
  y : Int
  deriving DecidableEq, Repr

/-- The tracks that a Finder job leaves open, other than the candidates it tells, and those it did not open because 256 were
open (R289). -/
structure OpenTracks where
  left : Nat
  refused : Nat
  deriving DecidableEq, Repr

/-- A candidate as the Finder's search sees it when it closes. The search and the families' standards are not in the spec: what
they alone give is held here; what the spec defines on the decode view (contrast, corner angles, sides, bands, the samples of
a Slate tag) is taken from the view itself. -/
structure Found where
  /-- family bit of Table Decode.2 -/
  family : Nat
  /-- record code of Table Decode.2 -/
  code : Nat
  /-- corners 0 to 3 in frame coordinates, 1/16 px -/
  corners : List Pt
  /-- orientation in 1/64 degree -/
  orientation : Nat
  /-- module size in 1/16 px -/
  moduleSize : Nat
  /-- bar or row height in 1/16 px -/
  barHeight : Nat
  /-- smallest edge step, in grey levels -/
  minEdge : Nat
  /-- blur in 1/16 px -/
  blur : Nat
  /-- for linear families the bar edges' departure from parallel in 1/64 degree, and the larger over the smaller X of the two
  ends in 1/100 -/
  skew : Nat
  ratio : Nat
  /-- of each side the family needs quiet: how far its band holds no edge of SC / 2, in 1/100 module (R283) -/
  quiet : List Nat
  /-- the family's structure is seen (Table Decode.2); for a Slate tag, the class's module count across each side (R326) -/
  structureOk : Bool
  /-- light symbol on a dark ground -/
  inverted : Bool
  /-- order in which it opened -/
  opened : Nat
  deriving DecidableEq, Repr

/-- Where a released candidate is. -/
inductive CandStage where
  | queued
  /-- on a core of an Anvil, since a tick -/
  | decoding (anvil core since : Nat)
  | resolved
  deriving DecidableEq, Repr

/-- A released candidate of a Billet, R287. -/
structure Cand where
  num : Nat
  found : Found
  stage : CandStage := .queued
  /-- it goes back to the front of the queue after a fence, R306 -/
  front : Bool := false
  /-- it was resolved before a recomputation released it again, R118 -/
  again : Bool := false
  deriving DecidableEq, Repr

/-- What a core saw of a Slate candidate: the samples of the N × N grid in row order, and of the quiet zone. -/
structure SlateView where
  samples : List Nat
  quiet : List Nat
  deriving DecidableEq, Repr

/-- One element of decoded data: a byte, an ECI designator, or an FNC1 separator (R293, R294). -/
inductive Datum where
  | byte (b : Byte)
  | eci (n : Nat)
  | sep
  deriving DecidableEq, Repr

/-- What a family's standard makes of a candidate. The standards are not in the spec. -/
structure SymbolOut where
  /-- data characters, for the length test of Table Decode.11 -/
  chars : Nat
  /-- FNC1 stands in first position -/
  fnc1First : Bool := false
  data : List Datum
  /-- bytes 0 to 4 of Table Decode.7 -/
  size1 : Nat := 0
  size2 : Nat := 0
  ecc : Nat := 0
  corrected : Nat := 0
  erased : Nat := 0
  mirrored : Bool := false
  /-- structured append: position, total − 1, and identifier byte -/
  sa : Option (Nat × Nat × Nat) := none
  deriving DecidableEq, Repr

/-- What grading measures of a symbol (R296, R297). -/
structure GradeOut where
  /-- the 10 scan grades of a linear symbol, × 10 -/
  scans : List Nat := []
  /-- the eight parameter grades of Table Decode.7, × 10 -/
  params : List Nat := []
  deriving DecidableEq, Repr

/-- The outcome of a decode attempt. -/
inductive DecodeOut where
  /-- the samples of a Slate tag are read (R327 to R330) -/
  | slate
  | symbol (x : SymbolOut)
  /-- a failure reason of R290, as its code minus 1 -/
  | failed (r : Fin 5)
  deriving DecidableEq, Repr

/-- The job of a Thotor command that became a Billet, R68 and chapter 14. -/
structure JobInfo where
  session : Nat
  corr : Nat
  code : Nat
  /-- arguments of the verb -/
  args : List Nat
  /-- Periods of work left -/
  work : Nat
  deriving DecidableEq, Repr

/-- An open Billet. -/
structure Billet where
  ordinal : Nat
  /-- lane, or 0xFF for a Thotor job -/
  lane : Nat
  job : Option JobInfo := none
  /-- acceptance Period A -/
  period : Nat
  /-- F, T, K and D of R40 and R41 -/
  span : Nat
  tail : Nat
  kdec : Nat
  deadline : Nat
  /-- M and t_max at acceptance, R37 -/
  maxSym : Nat
  tMax : Nat
  anvil : Nat
  frame : Nat
  stamp : Nat
  /-- the binding in force at acceptance and the working set of the latch, by lane key (R191, R198) -/
  bind : Kv Nat := []
  ws : Kv Nat := []
  /-- words of the lane's symbology set at the latch, by family: (MAX_LEN, MIN_LEN, OPT) (R291) -/
  symset : List (Nat × Nat × Nat) := []
  /-- correspondents to whom its records are owed, R71 -/
  corrs : List Nat := []
  /-- some entitled correspondent received STALL -/
  stalled : Bool := false
  /-- its acceptance entry is durable, R44 -/
  durable : Bool := false
  late : Bool := false
  captureOpen : Bool := true
  mark : Nat := 0
  /-- rows of exposure 0 stored so far, in order, R154 -/
  rows : List (List Nat) := []
  /-- why it cannot end RESULT or NO_READ -/
  truncated : Bool := false
  dataLost : Bool := false
  /-- a RETURN entry is not durable yet, R118 -/
  waitReturn : Bool := false
  /-- candidates that the recomputation under way has released again, R118 -/
  refound : Option Nat := none
  /-- Candidates closed in an earlier pass of the Finder: they are not counted in the lane's counters again. -/
  seen : Nat := 0
  /-- a lane reset: no later Finder job runs, R309 -/
  reset : Bool := false
  pipe : PipeB := {}
  stat : StatB := {}
  /-- next Finder stripe, and whether its job runs -/
  finderNext : Nat := 0
  finderBusy : Option Nat := none
  cands : List Cand := []
  closed : Nat := 0
  extra : Nat := 0
  /-- the candidates that closed as extra ones, R285 -/
  extras : List Found := []
  candLost : Bool := false
  openCands : Nat := 0
  /-- failures by reason FORMAT, ECC, CHECK, LENGTH, TIMEOUT -/
  fails : List Nat := [0, 0, 0, 0, 0]
  /-- SYMBOL results formed, those committed as records counted -/
  symbols : Nat := 0
  /-- candidate numbers of the records committed, R97 -/
  keys : List Nat := []
  /-- the result of candidate M − 1, held until the end, R77 -/
  heldRec : Option Rec := none
  /-- candidates abandoned, byte 27 of the summary -/
  abandoned : Nat := 0
  slate : SlateB := {}
  deriving DecidableEq, Repr

/-- One Anvil beside its registers. -/
structure AnvilSt where
  /-- Billet and stripe of the Finder job it runs -/
  job : Option (Nat × Nat) := none
  /-- candidate each of the 4 cores decodes: Door ordinal and candidate number -/
  cores : Kv (Nat × Nat) := []
  /-- ticks of its faults in the last 10 s, R729 -/
  faultTimes : List Nat := []
  /-- it is in its reset and SRAM test -/
  testing : Bool := false
  /-- it stays fenced until a block or domain reset, R729 -/
  condemned : Bool := false
  deriving DecidableEq, Repr

end Sys2Proof.Machine
end

