-- ==== Sys2Proof/Machine/TypesEvt.lean ====
section
/-! DEFINITION. The state of the event system and of the access rules, as plain data: what the registers do not show. -/
namespace Sys2Proof.Machine

/-- An entry of a tenant queue, R713. -/
structure EvEntry where
  src : Nat
  stamp : Nat
  a0 : Nat
  a1 : Nat
  injected : Bool := false
  lost : Bool := false
  deriving DecidableEq, Repr

/-- A rate limit in one source and scope, R714 and R715. -/
structure Limit where
  /-- index of the Period of the last delivered raise -/
  last : Option Nat := none
  /-- detections since the last delivered raise -/
  since : Nat := 0
  deriving DecidableEq, Repr

/-- A full injection that waits for its opportunity, R724. -/
structure Armed where
  a0 : Nat
  a1 : Nat
  deriving DecidableEq, Repr

/-- The event system beside its registers. -/
structure EvtSt where
  limits : Kv Limit := []
  /-- tenant: its queue, oldest first, R718 -/
  queues : Kv (List EvEntry) := []
  /-- tenants whose next entry carries LOST -/
  lostNext : List Nat := []
  /-- vectors with a pending message, R717 -/
  msixPending : List Nat := []
  /-- MSI-X messages sent, as (function, vector), latest first -/
  msixSent : List (Nat × Nat) := []
  /-- armed full injections by source, R724 -/
  armed : Kv Armed := []
  /-- sources whose next entry carries INJECTED, R725 -/
  injecting : List Nat := []
  /-- entries that have entered a tenant's queue in this step, for its event lines, R591 -/
  fresh : List (Nat × EvEntry) := []
  /-- the tenants and entries that found a full queue, and whether the tenant's next entry was to carry LOST: those of the
  present tick still enter when an entry is popped on it, R747 -/
  refused : List (Nat × EvEntry × Bool) := []
  /-- the level of the pins EVT_0 to EVT_3, bit i for EVT_i, R720 -/
  pins : Nat := 0
  deriving DecidableEq, Repr

/-- A master's holding register for values read as pairs, R658. -/
structure Holding where
  /-- target, word index and held high word -/
  held : Option (Nat × Nat × Nat) := none
  fresh : Bool := false
  stale : Bool := false
  deriving DecidableEq, Repr

/-- A master's SFE holding register, R465. -/
structure SfeHolding where
  /-- channel and the words RESULT_1 to RESULT_3 of its sample -/
  held : Option (Nat × Nat × Nat × Nat) := none
  /-- words already read since the hold, by number 1 to 3 -/
  seen : List Nat := []
  stale : Bool := false
  deriving DecidableEq, Repr

/-- What the writes of a tick to access tables, bindings and owners have replaced: register keys with their values, and the
owners of correspondents (R660). -/
structure TablesBefore where
  tick : Nat
  regs : Kv Nat := []
  owners : Kv Nat := []
  deriving DecidableEq, Repr

/-- What an access answered: the last word read by each master. -/
structure AccessSt where
  /-- what the last tick with a write of tables, bindings or owners began with, R660 -/
  before : Option TablesBefore := none
  holding : Kv Holding := []
  sfeHolding : Kv SfeHolding := []
  /-- master: the word its last read returned -/
  lastRead : Kv Nat := []
  deriving DecidableEq, Repr

end Sys2Proof.Machine
end

