-- ==== Sys2Proof/Machine/TypesIo.lean ====
section
/-! DEFINITION. The state of Bellows, the sensor front end, calibration and the flicker lock, as plain data: what the
registers do not show. -/
namespace Sys2Proof.Machine

/-! ### Bellows -/

/-- Why an output is off after a fault, R379. -/
inductive OffState where
  | clear
  /-- the latch holds until it is written -/
  | held
  /-- the 100 ms retry wait, with the tick it ends at -/
  | waiting (until_ : Nat)
  /-- the wait is over: the next trigger is a retry -/
  | retryDue
  deriving DecidableEq, Repr

/-- A pulse that is scheduled, R357. -/
structure Sched where
  start : Nat
  width : Nat
  deriving DecidableEq, Repr

/-- A pulse in progress: its setpoint, and whether it is a retry. -/
structure ActivePulse where
  start : Nat
  stop : Nat
  /-- I of R362 in mA -/
  current : Nat
  retry : Bool
  /-- an injected short of R724 strikes this pulse -/
  forced : Bool := false
  deriving DecidableEq, Repr

/-- One trim flash, R495 to R497. -/
structure Flash where
  start : Nat
  /-- setpoint I_T in mA -/
  current : Nat
  /-- grid slot it lies in -/
  slot : Nat
  deriving DecidableEq, Repr

/-- A converted pair (R439 to R441), and what the trim measurement asks of it (R497). -/
structure PairVal where
  slot : Nat
  c : Int
  u : Int
  modulator : Nat
  /-- a pulse or a flash overlapped its slot -/
  lit : Bool := false
  /-- it belongs to a sample that carries OVERRANGE, IMPEDANCE or TONE -/
  bad : Bool := false
  deriving DecidableEq, Repr

/-- One LED sink beside its registers. -/
structure LedSt where
  /-- the settings in force since a Bell, by field key of LED_0 (R358, R385) -/
  force : Kv Nat := []
  pend : List Sched := []
  active : Option ActivePulse := none
  /-- end of the previous pulse -/
  lastEnd : Option Nat := none
  /-- starts of the pulses scheduled, for the rate limit -/
  starts : List Nat := []
  off : OffState := .clear
  /-- quench counts, R376 -/
  up : Nat := 0
  dn : Nat := 0
  good : Nat := 0
  /-- stamp of the last sample of QCHAN -/
  lastSample : Nat := 0
  /-- latest reference stamp, R495 -/
  lastRef : Option Nat := none
  /-- the Period at which the next flash falls due -/
  flashDue : Option Nat := none
  flash : Option Flash := none
  /-- the last flash, until its measurement has been taken -/
  measure : Option Flash := none
  /-- sum and number of valid measurements, R498 -/
  avgSum : Int := 0
  avgCount : Nat := 0
  capture : Bool := false
  deriving DecidableEq, Repr

/-- One high-side output beside its registers. -/
structure DoutSt where
  /-- the switch conducts -/
  on : Bool := false
  /-- the settings in force since a Bell, by field key of DOUT_0 (R385) -/
  force : Kv Nat := []
  /-- held by its pad bank, it turned off in limit, R686 -/
  heldOver : Bool := false
  pend : List Sched := []
  active : Option Sched := none
  off : OffState := .clear
  /-- the present attempt is a retry -/
  retrying : Bool := false
  /-- tick since which it has been off -/
  offSince : Nat := 0
  /-- consecutive samples with readback 1 while off, and with reverse current while on -/
  high : Nat := 0
  reverse : Nat := 0
  /-- a probe holds it off -/
  probed : Bool := false
  deriving DecidableEq, Repr

/-- The tie probe, R381: the output that started it, the one turned off, and those still to come. -/
structure TieProbe where
  a : Nat
  b : Nat
  rest : List Nat
  start : Nat
  deriving DecidableEq, Repr

/-- Bellows beside its registers. -/
structure BellowsSt where
  leds : Kv LedSt := []
  douts : Kv DoutSt := []
  probe : Option TieProbe := none
  /-- tick of the last DOUT sample, R368 -/
  lastDoutSample : Nat := 0
  /-- start and end of the latest pulses and flashes, latest first -/
  lit : List (Nat × Nat) := []
  /-- levels of the encoder phases A and B as last counted, by encoder -/
  phases : Kv (Bool × Bool) := []
  deriving DecidableEq, Repr

/-! ### Sensor front end -/

/-- One input of the FIR: the value, whether the spike filter replaced it, and whether it reaches back to a copy of the
first q (R445, R450). -/
structure FirIn where
  v : Int
  replaced : Bool
  copy : Bool
  deriving DecidableEq, Repr

/-- The sample in progress of a channel. -/
structure SampleAcc where
  /-- its pairs, latest first -/
  pairs : List PairVal := []
  exceeds : Bool := false
  tone : Bool := false
  /-- slots finished -/
  slots : Nat := 0
  /-- under STILL: the register, the count of the range monitor, and the sign at its first departure (R452, R453) -/
  longReg : Int := 0
  longCnt : Int := 0
  longLeft : Int := 0
  deriving DecidableEq, Repr

/-- A finished sample that waits to be posted, R461. -/
structure SampleDue where
  stamp : Nat
  acc : SampleAcc
  deriving DecidableEq, Repr

/-- The result words of a channel as they stood before its latest sample, and the tick at which that was posted (R467). -/
structure WordsBefore where
  postedAt : Nat
  word0 : Nat
  word1 : Nat
  word2 : Nat
  word3 : Nat
  deriving DecidableEq, Repr

/-- One channel's chain beside its registers. -/
structure ChanSt where
  /-- tick of the enable, of the rise of the domain, or of the release of its pads -/
  enabledAt : Nat := 0
  /-- the first sample has begun -/
  started : Bool := false
  /-- settings in force since a sample boundary, by field key of channel 0 (R449, R474), and the tick of the last write
  of each that waits -/
  force : Kv Nat := []
  written : Kv Nat := []
  /-- three integrators and three comb delays, R436 -/
  integ : List Int := [0, 0, 0]
  comb : List Int := [0, 0, 0]
  /-- BLANK at the start of the slot, and the sum of the kept outputs of its half 0, R439 -/
  blank : Nat := 16
  s0 : Int := 0
  acc : SampleAcc := {}
  due : Option SampleDue := none
  /-- values of q, latest first, and whether each is a copy of the first -/
  raw : List (Int × Bool) := []
  fir : List FirIn := []
  /-- u of the pairs of the grid frame in progress, R444 -/
  framePairs : List Int := []
  /-- ticks at which an FIR exchange and a linearisation exchange were requested -/
  firSwapAt : Option Nat := none
  linSwapAt : Option Nat := none
  /-- GAIN or RANGE_MODE has been written since the last boundary, R428 -/
  rangeWritten : Bool := false
  /-- consecutive samples below 20 %, R412 -/
  low : Nat := 0
  /-- the next sample carries SWAP -/
  swap : Bool := false
  /-- a sample has been posted since the enable, R458 -/
  posted : Bool := false
  /-- the result words before the latest sample, R467 -/
  before : Option WordsBefore := none
  /-- impedance check: start of the last one, one is due at once, passes in a row for OPEN, SHORT and LEAK -/
  checkStart : Option Nat := none
  checkDue : Bool := false
  passOpen : Nat := 0
  passShort : Nat := 0
  passLeak : Nat := 0
  /-- the last pair of the previous sample, R497 -/
  last : Option PairVal := none
  deriving DecidableEq, Repr

/-- One excitation source beside its registers. -/
structure ExcSt where
  /-- consecutive halves in compliance, R406 -/
  good : Nat := 0
  /-- it exchanges its two pins in the half in progress, R404 -/
  reversed : Bool := false
  /-- passes in a row for LEAK -/
  passLeak : Nat := 0
  deriving DecidableEq, Repr

/-- A modulator calibration in progress, R488 to R490. -/
structure ModCal where
  modulator : Nat
  /-- pair values of the finished steps, latest first: two a step -/
  pairs : List Int := []
  deriving DecidableEq, Repr

/-- The rotation of the spare modulator, R483 to R491. -/
structure RotSt where
  lastBegin : Option Nat := none
  /-- CAL_NOW waits for the next Bell -/
  now : Bool := false
  /-- the running calibration serves a faulted modulator alone, R491 -/
  alone : Bool := false
  /-- group the next rotation starts looking from -/
  nextGroup : Nat := 0
  cal : Option ModCal := none
  /-- channels still to move in a handover phase -/
  toMove : List Nat := []
  /-- one has fallen due while another ran, R506 -/
  late : Bool := false
  /-- rotations have stopped for a faulty spare -/
  stopped : Bool := false
  deriving DecidableEq, Repr

/-- The flicker lock, R499 to R503. -/
structure FlickerSt where
  /-- end of the window, and its samples: stamp minus group delay, and value -/
  windowEnd : Option Nat := none
  samples : List (Int × Int) := []
  voided : Bool := false
  /-- frequency in Hz, and the phase in cycles at a tick -/
  freq : Rat := 100
  phase : Rat := 0
  phaseAt : Nat := 0
  /-- windows in a row that satisfy R502 for locking, and for unlocking -/
  good : Nat := 0
  bad : Nat := 0
  /-- windows without lock at the present nominal value, under automatic choice -/
  tries : Nat := 0
  sixty : Bool := false
  /-- stamp of the last sample -/
  lastStamp : Option Nat := none
  deriving DecidableEq, Repr

/-- The sensor front end beside its registers. -/
structure SfeSt where
  /-- index of the grid half that ended last -/
  lastHalf : Option Nat := none
  chans : Kv ChanSt := []
  excs : Kv ExcSt := []
  /-- channels whose half 0 of the slot in progress was converted -/
  half0 : List Nat := []
  /-- FIR taps by key; an unlisted one holds the reset tap -/
  taps : Kv Int := []
  /-- FIR banks that are not valid, by 2 × channel + bank -/
  badFir : List Nat := []
  /-- linearisation memory by key; an unlisted word holds its reset word, and the number of points of each table -/
  lin : Kv Nat := []
  linNp : Kv Nat := []
  badLin : List Nat := []
  rot : RotSt := {}
  flk : FlickerSt := {}
  deriving DecidableEq, Repr

/-- A routing field: the pins of a Tongs channel, the fields of a source, the bias of a pin. -/
inductive RouteFld where
  | xpP (chan : Fin 24)
  | xpN (chan : Fin 24)
  | xpF (src : Fin 4)
  | xpRtn (src : Fin 4)
  | dest (src : Fin 4)
  | bias (pin : Fin 16)
  deriving DecidableEq, Repr

/-- What comes from outside for one converting channel in a half: its modulator's 128 bits, the first one lowest, and
whether the input exceeded full scale or a pin left its linear range (R413). -/
structure HalfIn where
  chan : Fin 24
  stream : BitVec 128
  exceeds : Bool
  deriving DecidableEq, Repr

end Sys2Proof.Machine
end

