-- ==== Sys2Proof/Machine/TypesNet.lean ====
section
/-! DEFINITION. The state of the rings, the Ethernet ports and the Jexnus sessions, as plain data: what the registers do not
show. -/
namespace Sys2Proof.Machine

/-- One Ethernet port beside its registers. -/
structure EthSt where
  /-- its IEEE 1588 time in ns is 4 × tick + base -/
  base : Int := 0
  /-- Sync messages in a row with |offset| below 1 µs, R539 -/
  good : Nat := 0
  /-- tick of the last Sync message -/
  lastSync : Option Nat := none
  /-- IPv4 addresses resolved to Ethernet addresses -/
  arp : Kv Nat := []
  /-- its transmission stops until this tick, for a PAUSE frame -/
  pausedUntil : Nat := 0
  /-- peers that received REJECT reason 4: address, UDP port, and tick of the last, R548 -/
  stale : List (Nat × Nat × Nat) := []
  deriving DecidableEq, Repr

/-- One ring beside its registers. -/
structure RingSt where
  /-- the page-list entries held, of the 64 slots from PROD onward, R531 -/
  pages : List Nat := []
  /-- a rebuild waits for its ARM entry or for the open batch, with the entries its fetch returns, R530 -/
  arming : Option (List Nat) := none
  /-- its ARM entry is durable, R103 -/
  armLogged : Bool := false
  /-- ARM = 0 was written while a batch was in flight -/
  disarmWanted : Bool := false
  /-- the HOST domain dropped while it was armed, R551 -/
  wasArmed : Bool := false
  /-- the entries read after the flush of the batch in flight -/
  fetched : List Nat := []
  /-- records visible and not signalled, and the tick of the first such COMPLETE, R534 -/
  unsignalled : Nat := 0
  coalFrom : Option Nat := none
  /-- CONS as it stood before the write that was accepted last, and the tick of that write, R552 -/
  consBefore : Option (Nat × Nat) := none
  /-- correspondent of its last batch, R532 -/
  lastCorr : Option Nat := none
  deriving DecidableEq, Repr

/-- A record of a session that has been sent and not acknowledged, R545 and R546. -/
structure JxSent where
  seq : Nat
  /-- number of the DATA datagram that carried it last; 0 when this session has not sent it -/
  dgram : Nat
  kept : Bool := false
  deriving DecidableEq, Repr

/-- One Jexnus session context beside its registers. -/
structure JxSt where
  /-- generation, R542 -/
  gen : Nat := 0
  window : Nat := 0
  maxDgram : Nat := 0
  sent : List JxSent := []
  /-- DATA datagrams, latest first: tick of transmission, and whether it carried a retransmitted record -/
  dgrams : List (Nat × Bool) := []
  /-- SRTT, RTTVAR and RTO in ticks, R546; none before the first sample -/
  rtt : Option (Rat × Rat) := none
  rto : Rat := 0
  /-- start of the retransmission timer -/
  timerFrom : Option Nat := none
  /-- tick of the last valid datagram of the peer, and of the last PROBE -/
  lastRx : Nat := 0
  lastProbe : Nat := 0
  deriving DecidableEq, Repr

/-- A datagram or frame that the engine sent on an Ethernet port. -/
structure NetOut where
  /-- tick of transmission -/
  at_ : Nat
  port : Nat
  ip : Nat
  udp : Nat
  bytes : List Byte
  deriving DecidableEq, Repr

/-- A setting that takes effect at once with its SETTINGS entry. -/
inductive CorrSetting where
  | resume | stallTimeout | jxCode
  deriving DecidableEq, Repr

end Sys2Proof.Machine
end

