-- ==== Sys2Proof/Machine/TypesSys.lean ====
section
/-! DEFINITION. The state of power, thermal, start-up, update, PCI Express and flash, as plain data: what the registers do
not show. -/
namespace Sys2Proof.Machine

/-- A region of the save RAM: the timebase stamp of the save, the bytes saved, and the saved fields by storage key, of which one
that is not listed holds its reset value (R683, Table Power.6). -/
structure SaveRegion where
  stamp : Nat := 0
  len : Nat := 0
  content : List (Nat × Nat) := []
  deriving DecidableEq, Repr

/-- Power and Temper beside their registers. -/
structure PowerSt where
  /-- a target the Door waits for, R55 and R57: it costs at the lower of this and the active level -/
  admitLevel : Nat := 5
  /-- Period at which a decrease began to wait, and whether E0068 has been raised for it, R57 -/
  waitSince : Option Nat := none
  waitTold : Bool := false
  /-- tick until which the WAKE vote is held, R691 -/
  wakeUntil : Option Nat := none
  /-- WAKE# is asserted, and the tick at which the HOST pad bank was released, R690 -/
  wakePin : Bool := false
  hostRelease : Option Nat := none
  /-- the regions of the save RAM by domain, R683 -/
  regions : Kv SaveRegion := []
  /-- the tick at which a domain last began to drop, R743 -/
  dropAt : Kv (Option Nat) := []
  /-- domains under a domain reset, and the pad banks to release when it ends, R733 -/
  resetting : List Nat := []
  release : Nat := 0
  /-- samples in a row for a step up and down of the die thermal state, and at or above 125.00 °C, R697 and R699 -/
  up : Nat := 0
  dn : Nat := 0
  hot : Nat := 0
  /-- injected offset of the sensors in 0.01 °C, and the tick at which it ends (Table Events.2) -/
  offset : Option (Int × Nat) := none
  /-- retired pages of the device DRAM, R731 -/
  retired : List Nat := []
  /-- PIPE has dropped under roll call or a domain reset: its tables are at their defaults when it rises, R223 -/
  pipeFresh : Bool := false
  /-- a thermal trip waits for its event, R699 -/
  tripTold : Bool := true
  deriving DecidableEq, Repr

/-- Start-up beside its registers. -/
structure BootSt where
  /-- VIN is valid (R789) -/
  vin : Bool := true
  /-- power-on reset runs: phase 0 -/
  por : Bool := true
  /-- RESET_N is low -/
  held : Bool := false
  /-- the start under way, or the last one, is warm (R751) -/
  warm : Bool := false
  /-- tick from which TIME_US counts -/
  since : Nat := 0
  /-- pad banks to release at READY of a warm start (R756) -/
  pads : Nat := 0
  /-- boot flash slot that is loaded or checked, and whether it is the second one tried (R766) -/
  slot : Nat := 0
  second : Bool := false
  /-- a pushed image is checked (R769) -/
  pushed : Bool := false
  /-- the memory self-test under way is the DRAM part before a push; the DRAM part has run; the self-test has ended -/
  dramOnly : Bool := false
  dramDone : Bool := false
  tested : Bool := false
  /-- the image under check came from the boot flash in this start -/
  loaded : Bool := false
  /-- DRAM is in self-refresh, R754 -/
  selfRefresh : Bool := false
  /-- a memory self-test of the test hooks runs: its mask of memories (R774, R777) -/
  mbist : Option Nat := none
  /-- the journal was erased: the start is one on an empty journal (R632) -/
  erased : Bool := false
  /-- tick at which the hold of the BOOT vote began (R759) -/
  readyAt : Option Nat := none
  /-- domains that the memory self-test marked failed, R771 -/
  failedDomains : List Nat := []
  /-- no Bell has sounded since READY, R772 -/
  awaitBell : Bool := true
  /-- the start has come to the phase in which domains rise -/
  domainsRise : Bool := false
  /-- the rises of a cold start's phase 3 restore nothing -/
  coldRise : Bool := false
  deriving DecidableEq, Repr

/-- What the check of R765 sees of an image: whether it could be read, the header fields, whether the SHA-256 of KEY is
the fused hash, and whether the signature verifies. -/
structure ImageSeen where
  readOk : Bool := true
  /-- MAGIC, little-endian -/
  magic : BitVec 32 := 0x464C4849
  format : BitVec 16 := 1
  keyIndex : BitVec 8 := 0
  length : BitVec 32 := 1
  svn : BitVec 32 := 0
  version : BitVec 32 := 0
  keyOk : Bool := true
  sigOk : Bool := true
  deriving DecidableEq, Repr

/-- Why the Registrar restarts: an update, the return to the previous image, or its watchdog (R732, R738, R739). -/
inductive FwCause where
  | update | revert | watchdog
  deriving DecidableEq, Repr

/-- A firmware update beside its registers. -/
structure FwSt where
  /-- the image check runs, R737 -/
  checking : Bool := false
  /-- VERSION of the image that waits for its Bell -/
  next : Nat := 0
  /-- VERSION of the previous image, kept in DRAM, R739 -/
  prev : Option Nat := none
  /-- tick at which the new image reported ready -/
  readyAt : Option Nat := none
  /-- admission is paused by an update, R738 -/
  pause : Bool := false
  /-- the Registrar restarts, and runs no placement of its own meanwhile, R738 -/
  running : Bool := false
  cause : FwCause := .update
  /-- tick at which the restart began -/
  since : Nat := 0
  /-- it has reported ready: admission resumes at the next Bell -/
  resumeNext : Bool := false
  deriving DecidableEq, Repr

/-- What the memory self-test found (R770, R771). -/
structure SelfTest where
  /-- failing pages of the DRAM -/
  pages : List (BitVec 20) := []
  /-- a fault on an address or data line of the DRAM -/
  line : Bool := false
  context : Bool := false
  /-- Anvils whose SRAM failed -/
  anvils : BitVec 8 := 0
  saveRam : Bool := false
  profile : Bool := false
  code : Bool := false
  deriving DecidableEq, Repr

/-- The boot flash registers beside what they show (R785), and what has been sent to the flash. -/
structure FlashSt where
  /-- words of the page buffer by index -/
  page : Kv Nat := []
  index : Nat := 0
  /-- the operation that runs: 1 read, 2 program, 3 erase, and its byte offset -/
  op : Option (Nat × Nat) := none
  /-- operations that have ended, latest first: operation, offset and the words programmed -/
  done : List (Nat × Nat × List Nat) := []
  deriving DecidableEq, Repr

/-- The groups of pins that boundary scan tells apart (R776, Table Electrical.15). -/
inductive PinGroup where
  | dphy | pcieLane | ethLane | parallel | cci | sideband | flash | uart | control | din
  | led | dout | ain | xp | exc | grd | vfield | supply
  deriving DecidableEq, Repr

/-- The boundary cell of a pin: none, observe-only, of IEEE 1149.1 or of IEEE 1149.6 (R776). -/
inductive CellKind where
  | absent | observe | digital | ac
  deriving DecidableEq, Repr

/-- What drives a pin. -/
inductive PinDrive where
  | system | highZ
  /-- its boundary cell, and whether an IEEE 1149.6 test waveform is laid on it -/
  | cell (v : Bool) (waveform : Bool)
  deriving DecidableEq, Repr

/-- The test access port (R774). -/
structure TapSt where
  /-- the instruction in force -/
  ir : Nat := 2
  /-- boundary cells by pin group and place in it, where they differ from what they hold after Test-Logic-Reset -/
  cells : List (PinGroup × Nat × Bool) := []
  deriving DecidableEq, Repr

/-- PCI Express beside its registers. -/
structure PcieSt where
  /-- functions whose MSI-X is enabled, and vectors masked in their table -/
  msixEnabled : List Nat := []
  masked : List Nat := []
  deriving DecidableEq, Repr

/-- A block of R734: a unit of Table Events.3, a ring, or a lane. -/
inductive Block where
  | unit (u : Fin 24)
  | ring (r : Fin 256)
  | lane (n : Fin 64)
  deriving DecidableEq, Repr

/-- What an uncorrectable DRAM error hits (R731): nothing accounted, a stripe of an open Billet, the records of decisions
held for correspondents, a half of a reference slot, or the statistics of an open Billet. -/
inductive DramHit where
  | nothing
  | frame (ordinal : Nat)
  | reservoir (records : List (Fin 4096 × Nat))
  | reference (slot : Fin 32) (half : Bool)
  | statistics (ordinal : Nat)
  deriving DecidableEq, Repr

end Sys2Proof.Machine
end

