-- ==== Sys2Proof/Machine/TypesThotor.lean ====
section
/-! DEFINITION. The state of the Thotor sessions and of the parameter store, as plain data: what the registers do not
show. -/
namespace Sys2Proof.Machine

/-- A line as received: its text and its marks (R567, R568). -/
structure LineIn where
  text : Text
  badChar : Bool := false
  tooLong : Bool := false
  /-- tick of its terminator, R587 -/
  at_ : Nat := 0
  deriving DecidableEq, Repr

/-- How a line is answered: as typed text, or in machine form under a tag and a check (R574, R576). -/
inductive Form where
  | typed
  | machine (tag check : Text)
  deriving DecidableEq, Repr

/-- A verb that waits, R634. -/
inductive VerbWait where
  /-- a camera control transaction of a master: a read, its data bytes, and the tick of its push -/
  | cci (master : Nat) (read : Bool) (db : Nat) (since : Nat)
  | evict (c : Nat)
  /-- a parameter store write: the entry, the offset, the bytes and the tick at which it began -/
  | store (name : Text) (off : Nat) (bytes : List Byte) (since : Nat)
  deriving DecidableEq, Repr

/-- The arguments of a cci command (R621). -/
structure CciArgs where
  dev : Nat
  reg : Nat
  data : Nat := 0
  rb : Nat := 2
  db : Nat := 1
  /-- 0 now, 1 frame, 2 bell -/
  trig : Nat := 0
  lane : Option Nat := none
  deriving DecidableEq, Repr

/-- A machine request that is remembered: tag, check and final status line, R577. -/
structure Remembered where
  tag : Text
  check : Text
  status : Text
  deriving DecidableEq, Repr

/-- One Thotor session beside its registers. -/
structure SesSt where
  /-- the line being received -/
  line : LineIn := { text := [] }
  /-- tick of a "%" that begins the line, R596 -/
  pctAt : Nat := 0
  /-- escape sequence: 0 none, 1 after ESC, 2 after ESC [ -/
  esc : Nat := 0
  /-- Telnet bytes still to discard, R564 -/
  skip : Nat := 0
  /-- the last byte was a CR, R567 -/
  lastCr : Bool := false
  /-- the previous line executed, R569 -/
  prev : Text := []
  /-- lines that wait for execution, oldest first, R587 -/
  lines : List LineIn := []
  /-- the output buffer, and what has left it -/
  out : Text := []
  gone : Text := []
  /-- the last XON or XOFF received under FLOW 2 was an XOFF, R594 -/
  stopped : Bool := false
  /-- CTS is deasserted -/
  ctsOff : Bool := false
  /-- the engine has stopped the peer: RTS deasserted or XOFF sent, R594 -/
  holding : Bool := false
  /-- event lines dropped since the last !LOST, R595 -/
  lost : Nat := 0
  memory : List Remembered := []
  /-- the last sequence number sent on this login, by correspondent, R549 -/
  told : Kv Nat := []
  /-- a verb that waits, and the form of its answer -/
  wait : Option (VerbWait × Form) := none
  /-- tick of the last line, R566 -/
  lastLine : Nat := 0
  /-- login is locked until this tick, R584 -/
  lockUntil : Option Nat := none
  /-- a BAUD that waits for the response to the set that carried it, and the session of that set, R606 -/
  baudNext : Option (Nat × Nat) := none
  /-- the rate in force -/
  baud : Nat := 4
  deriving DecidableEq, Repr

/-- An entry of the parameter store, R624. -/
structure StoreEntry where
  name : Text
  bytes : List Byte
  deriving DecidableEq, Repr

/-- Thotor beside its registers. -/
structure ThotorSt where
  sessions : Kv SesSt := []
  /-- parameter store entries in name order -/
  store : List StoreEntry := []
  /-- reset engine or journal erase waits for its ok to leave, or for an evict, R631 and R636: the session -/
  resetAsked : Option Nat := none
  /-- the erase that goes with it -/
  eraseAsked : Bool := false
  /-- evictions whose entry has become durable: correspondent, serial, last ordinal and records given up -/
  evictTold : List (Nat × Nat × Nat × Nat) := []
  /-- the answers to connections that found no session free, latest first: port, peer, TCP port and line, R564 -/
  turnedAway : List (Nat × Nat × Nat × Text) := []
  /-- store writes that run on although their session has closed: session, entry, offset and bytes -/
  storeLoose : List (Nat × Text × Nat × List Byte) := []
  /-- a store write was cut short: the next start finds one valid copy, R763 -/
  storeTorn : Bool := false
  /-- tick of the timebase alarm, R629 -/
  alarm : Option Nat := none
  deriving DecidableEq, Repr

/-- A store write is in progress. -/
def ThotorSt.storing (t : ThotorSt) : Bool :=
  !t.storeLoose.isEmpty || t.sessions.any (fun e => match e.2.wait with | some (.store _ _ _ _, _) => true | _ => false)

end Sys2Proof.Machine
end

