-- ==== Sys2Proof/Syntax.lean ====
section
/-! DEFINITION. The commands of the block: one constructor for each row of spec/opcode_table.json. Where a command comes
from a master, `m` is that master; what the world outside decides (the bits of a modulator, the outcome of a decode, the
reading of a sensor) is an operand. The commands without operands stand last: Lean builds no value of a constructor beyond
the 244th that has fields. -/
namespace Sys2Proof
open Sys2Proof.Machine

inductive Instr where
  /-- BELL_SOURCE_CHANGE (R25): A write of BELL_CTRL.SRC changes the Bell source, taking effect at the first event of
    the new source at least one Period after the last Bell. -/
  | bellSourceChange (m : MasterId) (v : Fin 4)
  /-- PERIOD_WRITE (R26): A write of BELL_PERIOD pauses admission for a new Period, withdraws a pending change, or
    does nothing. -/
  | periodWrite (m : MasterId) (v : BitVec 23)
  /-- COST_OVERRUN (R51): A job runs past its worst-case cost, draws its excess from free capacity and the reserve,
    and raises E0073. -/
  | costOverrun (ty : JobType) (unit : Fin 20) (past : Overrun)
  /-- FRAME_START (R150): A lane's frame start arrives, is stamped, latched and presented to the Door if the lane is
    RUN or PROBATION. -/
  | frameStart (p : PortId) (chan : Fin 16) (fn : Fin 65536) (ecc : Bool)
  /-- FORCE_CKPT (R123): A write of 1 to FORCE_CKPT starts a checkpoint or makes one further checkpoint due. -/
  | forceCkpt (m : MasterId)
  /-- DELIVER_BATCH (R101): A ring with no batch in flight and free slots chooses a correspondent by round robin and
    appends INTENT. -/
  | deliverBatch (r : RingId)
  /-- FLUSH_READ_COMPLETE (R102): The flush read of a batch returns, COMPLETE is appended and the producer index and
    next sequence number advance. -/
  | flushReadComplete (r : RingId) (pages : List Nat)
  /-- EVICT (R86): The evict verb makes EVICT durable, gives up the correspondent's records, ends its subscription and
    issues one EVICTED record. -/
  | evict (m : MasterId) (c : CorrId)
  /-- REPLAY_END (R105): Replay finishes applying the log, resolves open batches, accounts for open decisions and
    appends BOOT. -/
  | replayEnd (prods : List (RingId × Word))
  /-- PORT_ENABLE (R127): A write of EN = 1 enables a capture port if the input budget allows, else raises E0364. -/
  | portEnable (m : MasterId) (p : PortId)
  /-- PORT_DISABLE (R129): A write of EN = 0 disables a port and closes every open capture on it with LINK_LOST. -/
  | portDisable (m : MasterId) (p : PortId)
  /-- FRAME_END (R155): A frame-end packet closes the lane's capture, with SHORT_FRAME if rows are missing. -/
  | frameEnd (p : PortId) (vc : Fin 16) (ecc : Bool)
  /-- PIXEL_LINE (R154): A line of the lane's pixel data type is checked and written to the frame buffer, releasing a
    stripe when full. -/
  | pixelLine (p : PortId) (chan : Fin 16) (dt : Fin 64) (px : List (BitVec 16)) (crcOk ecc : Bool)
  /-- EMBEDDED_DATA (R133): An embedded-data packet is kept in the lane's embedded-data buffer. -/
  | embeddedData (p : PortId) (vc : Fin 16) (ecc crcOk : Bool) (bytes : List Byte)
  /-- USER_DEFINED_PACKET (R264): A user-defined packet goes to the lane's pass-through stream. -/
  | userDefinedPacket (p : PortId) (vc : Fin 16) (t : Fin 8) (crcOk ecc : Bool) (bytes : List Byte)
  /-- SHORT_PACKET (R133): A line-start, line-end or generic short packet is checked and ignored. -/
  | shortPacket (p : PortId) (vc : Fin 16) (ecc : Bool)
  /-- DT_MISMATCH (R133): A long packet of an unexpected data type is discarded and counted. -/
  | dtMismatch (p : PortId) (vc : Fin 16) (ecc crcOk : Bool)
  /-- UNBOUND_PACKET (R133): A packet on a virtual channel no running lane holds is discarded and counted in UNBOUND.
    -/
  | unboundPacket (p : PortId) (vc : Fin 16)
  /-- HEADER_UNCORRECTABLE (R131): A packet header with an uncorrectable ECC error is discarded with its packet and
    marks open captures HDR_LOST. -/
  | headerUncorrectable (p : PortId)
  /-- LINK_TIMEOUT (R134): No valid header or bus frame start for LINK_TIMEOUT ms takes the port link down. -/
  | linkTimeout (p : PortId)
  /-- DESKEW (R134): A D-PHY deskew sequence completes or fails, the latter taking the link down. -/
  | deskew (p : PortId) (ok : Bool)
  /-- ESCAPE_ENTRY (R135): Escape-mode entry on D-PHY data lane 0 sets WAKE_SEEN and acts as a wake source. -/
  | escapeEntry (p : Fin 4)
  /-- TIMING_CODE (R138): An embedded-sync timing code is decoded, corrected or ignored, starting or ending lines and
    bus frames. -/
  | timingCode (p : PortId) (xy : Fin 256)
  /-- PCLK_LOST (R141): No PCLK edge for 1 ms takes a parallel port's link down. -/
  | pclkLost (p : PortId)
  /-- TRAILER (R145): A parallel line's trailer check word is checked for tag, CRC and line number. -/
  | trailer (p : PortId) (words t : List Nat)
  /-- NO_FRAME_END (R155): A frame-end packet missing 4 × t_max after the last row closes capture with NO_FRAME_END.
    -/
  | noFrameEnd (n : LaneId)
  /-- PORT_OVERFLOW (R178): A port input buffer overflows and whole lines are discarded and counted. -/
  | portOverflow (p : PortId) (n : LaneId) (lines : Nat)
  /-- BINDING_WRITE (R826): A write of a lane binding field is stored and the set is tested to become the binding in
    force. -/
  | bindingWrite (m : MasterId) (n : LaneId) (k : Fin 32) (v : Word)
  /-- LANE_START (R167): START moves a STOPPED lane to RUN or LINK_DOWN after retesting its binding. -/
  | laneStart (m : MasterId) (n : LaneId)
  /-- LANE_STOP (R168): STOP moves the lane to STOPPED when its open capture closes. -/
  | laneStop (m : MasterId) (n : LaneId)
  /-- LANE_RESET (R168): RESET closes the open capture with LANE_RESET and leaves the lane STOPPED. -/
  | laneReset (m : MasterId) (n : LaneId)
  /-- CCI_PUSH (R170): A write of CCI_CMD_2 pushes a camera control transaction onto the master's queue, or drops it
    when full. -/
  | cciPush (m : MasterId) (c : CciId) (data : Word)
  /-- CCI_ISSUE (R170): The head transaction issues on I²C once its trigger has come. -/
  | cciIssue (c : CciId) (stuck : Bool)
  /-- CCI_TRANSACTION_DONE (R172): A camera control transaction ends and its result with status is queued. -/
  | cciTransactionDone (c : CciId) (status : Fin 3) (rdata : Word)
  /-- CCI_STRETCH_TIMEOUT (R172): A clock stretch lasts beyond STRETCH_MS and the transaction ends TIMEOUT. -/
  | cciStretchTimeout (c : CciId)
  /-- CCI_RESULT_READ (R174): A read of CCI_RESULT pops the oldest result and loads its data into CCI_RDATA. -/
  | cciResultRead (m : MasterId) (c : CciId)
  /-- CCI_DISABLE (R172): Clearing EN of a CCI master flushes its queue, ending each transaction FLUSHED. -/
  | cciDisable (m : MasterId) (c : CciId)
  /-- PIPE_STRIPE_START (R189): The Pipe starts a ready stripe, switching context if it belongs to another Billet. -/
  | pipeStripeStart (parity lost : Bool)
  /-- TBL_DATA_ACCESS (R239): An access to TBL_DATA reads or writes the selected table word, marks the bank invalid on
    write, and advances TBL_ADDR. -/
  | tblDataAccess (m : MasterId) (v : Option Word)
  /-- TABLE_COMMIT (R225): A commit checks the selected profile bank and makes it valid or sets ERROR. -/
  | tableCommit (m : MasterId)
  /-- REF_FILL (R220): A write of REF_FILL makes a reference fill pending for the lane. -/
  | refFill (m : MasterId) (n : LaneId)
  /-- REF_CLEAR (R239): A write of REF_CLEAR invalidates the named reference slot. -/
  | refClear (m : MasterId) (k : Fin 32)
  /-- PARTNER_MISSING (R229): A merge partner's window or stripe bound passes without its data, so the exposure is
    missing from that stripe on. -/
  | partnerMissing (n : LaneId) (second : Bool)
  /-- STREAM_ENABLE (R257): A write of a stream's EN is accepted or refused against the live-stream limit and its
    settings. -/
  | streamEnable (m : MasterId) (n : LaneId) (k : Fin 4) (v : Bool)
  /-- COEF_DATA_WRITE (R272): A write of COEF_DATA sets scaler taps, or is dropped with BUSY while the stream is
    enabled. -/
  | coefDataWrite (m : MasterId) (k : Fin 4) (v : Word)
  /-- FINDER_JOB_START (R278): A Finder starts a ready stripe job chosen by deadline priority. -/
  | finderJobStart (a : Fin 8)
  /-- FINDER_JOB_DONE (R286): A Finder job ends, closing and releasing candidates in numbered order. -/
  | finderJobDone (a : Fin 8) (epoch cycles : Nat) (tracks : OpenTracks) (found : List Found)
  /-- DECODE_DONE (R290): A core finishes a decode attempt, yielding a SYMBOL result or a failure reason. -/
  | decodeDone (a : Fin 8) (core : Fin 4) (epoch : Nat) (out : DecodeOut) (g : GradeOut)
  /-- DECODE_TIMEOUT (R280): A decode attempt reaches its family cost and fails with TIMEOUT. -/
  | decodeTimeout (a : Fin 8) (core : Fin 4)
  /-- SRAM_CORRECTED (R308): A corrected Anvil SRAM error is counted and reported. -/
  | sramCorrected (a : Fin 8)
  /-- LATENCY_MARK_EXPIRY (R343): A mark waiting longer than WINDOW + OFFSET without an edge is dropped as unpaired.
    -/
  | latencyMarkExpiry (u : Fin 4)
  /-- LATENCY_CLEAR (R351): A write of CLEAR resets MIN, MAX, SUM, PAIRS and the queues of a latency unit. -/
  | latencyClear (m : MasterId) (u : Fin 4)
  /-- LATENCY_UNIT_WRITE (R347): A write of CHAN, LANE or EN of a latency unit empties its queues as unpaired. -/
  | latencyUnitWrite (m : MasterId) (u : Fin 4) (which : Fin 3) (v : Fin 64)
  /-- CONTINUITY_RESET (R347): A write of CONT_EN or REORDER_WIN clears every tracker of the lane. -/
  | continuityReset (m : MasterId) (n : LaneId) (win : Bool) (v : Fin 64)
  /-- FIELD_LOST (R354): VFIELD falls below 8.5 V, turning every sink and DOUT off. -/
  | fieldLost (v : Nat)
  /-- FIELD_OK (R354): VFIELD has stayed in range for 10 ms and DOUTs with RESTORE resume. -/
  | fieldOk (v : Nat)
  /-- FIELD_OV (R354): VFIELD rises above 38.0 V and Bellows leaves FIELD_OK. -/
  | fieldOv (v : Nat)
  /-- PULSE_START (R357): A scheduled LED pulse starts and latches its setpoint. -/
  | pulseStart (n : LedId)
  /-- PULSE_END (R364): An LED pulse ends and the sink sets I_MEAS, V_SINK and its status bits. -/
  | pulseEnd (n : LedId) (iMeas vSink : Nat)
  /-- STROBE_ENABLE (R358): A write of EN, WIDTH, MAX_PULSES or TRIM_EN sets the standing reservation at the next Bell
    if it fits. -/
  | strobeEnable (m : MasterId) (n : LedId) (en : Bool) (width : BitVec 22) (maxPulses : BitVec 4) (trimEn : Bool)
  /-- SINK_SHORT (R378): A short condition held for 10 µs turns the sink off and latches SHORT. -/
  | sinkShort (n : LedId)
  /-- RETRY_WAIT_END (R379): An output's 100 ms retry wait ends and its next trigger is a retry. -/
  | retryWaitEnd (dout : Bool) (n : LedId)
  /-- LED_CLEAR (R626): The led clear command writes 1 to the latches, clears RETRIES and ends a retry wait. -/
  | ledClear (m : MasterId) (n : LedId)
  /-- DOUT_OUT_WRITE (R366): A write of OUT, or dout on or off, sets the commanded level of a DOUT. -/
  | doutOutWrite (m : MasterId) (n : LedId) (v : Bool)
  /-- DOUT_CLEAR (R626): The dout clear command clears OVERLOAD, TIED, BACKFEED and RETRIES. -/
  | doutClear (m : MasterId) (n : LedId)
  /-- DOUT_PULSE_START (R366): A DOUT pulse in PULSE mode starts at stamp plus DELAY. -/
  | doutPulseStart (n : LedId)
  /-- DOUT_PULSE_END (R366): A DOUT pulse in PULSE mode ends after WIDTH ticks. -/
  | doutPulseEnd (n : LedId)
  /-- DOUT_OVERLOAD (R367): An output in current limit for LIMIT_TIME turns off and latches OVERLOAD. -/
  | doutOverload (n : LedId)
  /-- DOUT_SAMPLE (R368): Every 10 µs each output's readback and current are sampled, which may start the tie probe.
    -/
  | doutSample (readback reverse : BitVec 8) (mA : List Nat)
  /-- TIE_PROBE_STEP (R381): A 5 µs probe window ends, latching TIED or moving to the next output, or latching
    BACKFEED. -/
  | tieProbeStep (r1 r4 : Bool)
  /-- DIN_EDGE (R370): A filtered DIN edge is accepted, stamped, counted and used as trigger or wake. -/
  | dinEdge (levels : BitVec 8)
  /-- ENC_POS_WRITE (R374): A write of POS, or the enc verb, loads the position and sets VALID. -/
  | encPosWrite (m : MasterId) (e : Fin 4) (pos : Word) (next : Option Word) (pitch : Option (BitVec 24))
  /-- QUENCH_TIMEOUT (R377): No sample for QTIMEOUT ms is a fault and raises the Quench step to FAIL_STEP. -/
  | quenchTimeout (n : LedId)
  /-- TRIM_FLASH_START (R495): A due trim flash fires at the first allowed instant. -/
  | trimFlashStart (n : LedId)
  /-- TRIM_FLASH_END (R496): A trim flash ends after 10,000 ticks. -/
  | trimFlashEnd (n : LedId)
  /-- TRIM_CAPTURE (R498): A write of CAPTURE makes an LREF capture pending. -/
  | trimCapture (m : MasterId) (n : LedId)
  /-- SFE_CHANNEL_ENABLE (R395): A channel enable takes free slot positions of its group or fails. -/
  | sfeChannelEnable (m : MasterId) (n : ChanId)
  /-- SFE_CHANNEL_DISABLE (R471): A channel disable discards its sample in progress and frees its slots. -/
  | sfeChannelDisable (m : MasterId) (n : ChanId)
  /-- SFE_ROUTING_WRITE (R400): A write of Tongs routing fields is checked for legality and applied with
    break-before-make. -/
  | sfeRoutingWrite (m : MasterId) (l : List (RouteFld × Word))
  /-- SFE_SLOT_HALF (R393): A half of a slot ends, giving comb outputs, a coarse value and a pair value. -/
  | sfeSlotHalf (xs : List HalfIn) (beyond : BitVec 24) (failing : BitVec 4)
  /-- SFE_SAMPLE (R461): A channel's sample boundary passes and its filtered, linearised result is posted. -/
  | sfeSample (n : ChanId)
  /-- EXC_LIMIT (R407): A voltage source above 12 mA for 1 ms turns off and latches LIMIT. -/
  | excLimit (x : Fin 4)
  /-- EXC_LIMIT_CLEAR (R407): A write of 1 to LIMIT lets the voltage source drive again. -/
  | excLimitClear (m : MasterId) (x : Fin 4)
  /-- BIAS_LIMIT (R402): A bias pin held in current limit for 1 ms sets BIAS_LIMIT. -/
  | biasLimit (p : Fin 16)
  /-- GUARD_LIMIT (R408): A guard loaded above 1 mA for 1 ms sets LIMIT and raises E0884 + g. -/
  | guardLimit (g : Fin 4)
  /-- CHECK_START (R415): An impedance check falls due and begins at the channel's next slot. -/
  | checkStart (n : ChanId)
  /-- CHECK_END (R418): An impedance check ends, writing Z_LAST and I_DIFF and setting or clearing OPEN, SHORT and
    LEAK. -/
  | checkEnd (n : ChanId) (z : Word) (iDiff : Word)
  /-- CHECK_NOW (R415): A write of CHECK_NOW, or sfe check, makes an impedance check due at once. -/
  | checkNow (m : MasterId) (n : ChanId)
  /-- FIR_SWAP (R449): A write of FIR_SWAP, FIR_SRC or MINPH requests a filter swap at the next sample boundary. -/
  | firSwap (m : MasterId) (n : ChanId) (which : Fin 3) (v : Bool)
  /-- LIN_SWAP (R459): A write of LIN_SWAP requests a linearisation bank exchange at the next sample boundary. -/
  | linSwap (m : MasterId) (n : ChanId)
  /-- FIR_DATA_ACCESS (R477): An access to FIR_DATA reads or writes a tap and advances FIR_ADDR. -/
  | firDataAccess (m : MasterId) (v : Option (BitVec 24))
  /-- FIR_COMMIT (R448): An FIR bank is committed with its length, or the commit is dropped while in use. -/
  | firCommit (m : MasterId) (len : BitVec 8)
  /-- LIN_DATA_ACCESS (R477): An access to LIN_DATA reads or writes a word and advances LIN_ADDR. -/
  | linDataAccess (m : MasterId) (v : Option Word)
  /-- LIN_COMMIT (R459): A linearisation bank is checked and committed, or the commit fails. -/
  | linCommit (m : MasterId) (np : BitVec 7)
  /-- RESULT_0_READ (R465): A read of RESULT_0 returns the value and fills the master's SFE holding register. -/
  | result0Read (m : MasterId) (n : ChanId)
  /-- RESULT_WORD_READ (R465): A read of RESULT_1 to RESULT_3 is answered from the SFE holding register, fresh or
    STALE. -/
  | resultWordRead (m : MasterId) (n : ChanId) (w : Fin 3)
  /-- CAL_NOW (R483): A write of CAL_NOW begins a rotation, or reruns a parked calibration. -/
  | calNow (m : MasterId)
  /-- CAL_STEP (R480): A modulator calibration step ends, and after NEG the trims are computed and judged. -/
  | calStep (p q : BitVec 18)
  /-- FLK_EN_WRITE (R499): A write of FLK_EN is accepted only if FLK_CHAN runs under DASH or BRISK. -/
  | flkEnWrite (m : MasterId) (v : Bool)
  /-- APPLY (R516): A write of APPLY commits the staged subscription fields as one SUBSCRIBE entry. -/
  | apply (m : MasterId) (c : CorrId)
  /-- CORR_SETTINGS_WRITE (R110): A write of RESUME, STALL_TIMEOUT or JX_CODE appends a SETTINGS entry before taking
    effect. -/
  | corrSettingsWrite (m : MasterId) (c : CorrId) (f : CorrSetting) (v : Word)
  /-- STALL_TIMEOUT (R524): A stall lasting STALL_TIMEOUT ms raises E0642. -/
  | stallTimeout (c : CorrId)
  /-- RING_CONS_WRITE (R529): A host write of CONS is accepted within range or counted as CONS_BAD. -/
  | ringConsWrite (m : MasterId) (r : RingId) (v : Word)
  /-- RING_ARM (R530): A write of ARM = 1 rebuilds the ring with a new epoch and sets ARMED. -/
  | ringArm (m : MasterId) (r : RingId) (pages : List Nat)
  /-- RING_DISARM (R530): A write of ARM = 0 clears ARMED once the batch in flight has completed. -/
  | ringDisarm (m : MasterId) (r : RingId)
  /-- COALESCE_TIMEOUT (R534): COAL_US after the first unsignalled COMPLETE, the ring sends its MSI-X message. -/
  | coalesceTimeout (r : RingId)
  /-- MSIX_PENDING_SEND (R717): A pending MSI-X message is sent once READY, link, enable and unmask all allow. -/
  | msixPendingSend (v : Fin 64) (enabled unmasked : Bool)
  /-- PCIE_LINK_UP (R550): The PCI Express link comes up and raises E0647. -/
  | pcieLinkUp (width speed : Nat)
  /-- FUNCTION_LEVEL_RESET (R550): A hot reset or function-level reset disarms the function's rings and empties its
    holding registers. -/
  | functionLevelReset (fn : Option (Fin 16))
  /-- ETH_LINK_DOWN (R555): An Ethernet port's link goes down without closing sessions. -/
  | ethLinkDown (p : Fin 2)
  /-- ETH_LINK_UP (R555): An Ethernet port's link comes up. -/
  | ethLinkUp (p : Fin 2)
  /-- PTP_SYNC (R539): An IEEE 1588 Sync message updates the port clock offset and its lock state. -/
  | ptpSync (p : Fin 2) (master : Int)
  /-- JX_HELLO (R542): A HELLO datagram opens or repeats a Jexnus session with WELCOME, or is answered REJECT. -/
  | jxHello (p : Fin 2) (ip udp : Nat) (bs : List Byte)
  /-- JX_ACK (R545): An ACK datagram advances ACKED, marks kept records, updates the window and RTT. -/
  | jxAck (p : Fin 2) (ip udp : Nat) (bs : List Byte)
  /-- JX_BYE (R547): A BYE from the peer closes the Jexnus session. -/
  | jxBye (p : Fin 2) (ip udp : Nat) (bs : List Byte)
  /-- BAD_DGRAM (R541): A malformed or wrong-type datagram is discarded and counted. -/
  | badDgram (p : Fin 2) (ip udp : Nat) (bs : List Byte)
  /-- JX_DATA (R543): Released records within the window are sent in DATA datagrams under a SENT entry. -/
  | jxData (x : CtxId)
  /-- JX_RETRANSMIT_TIMEOUT (R546): The retransmission timer expires and outstanding records are sent again with RTO
    doubled. -/
  | jxRetransmitTimeout (x : CtxId)
  /-- JX_KEEPALIVE (R547): KEEPALIVE ms without a valid datagram sends a PROBE. -/
  | jxKeepalive (x : CtxId)
  /-- JX_SESSION_TIMEOUT (R547): SESS_TIMEOUT s without a valid datagram closes the session. -/
  | jxSessionTimeout (x : CtxId)
  /-- JX_CLOSE (R559): A write of CLOSE closes a Jexnus session with BYE reason 2. -/
  | jxClose (m : MasterId) (x : CtxId)
  /-- TYPED_CHARACTER (R569): A received character is appended, edits the line or is handled as a control character,
    with echo. -/
  | typedCharacter (n : SessionId) (b : Byte)
  /-- LINE_COMPLETE (R567): A line terminator ends a line, which is checked, parsed and executed as a typed or machine
    line. -/
  | lineComplete (n : SessionId) (lf : Bool)
  /-- EMPTY_COMMAND (R617): The empty command does nothing and answers ok or a prompt. -/
  | emptyCommand (n : SessionId) (x : Form)
  /-- LOGIN (R584): The login verb binds the session's master to a tenant or counts a failure. -/
  | login (n : SessionId) (x : Form) (t : TenantId) (code : Word)
  /-- LOGOUT (R586): The logout verb unbinds the session's master. -/
  | logout (n : SessionId) (x : Form)
  /-- MODE (R617): The mode verb switches the session between typed and machine mode. -/
  | modeVerb (n : SessionId) (x : Form) (machine : Bool)
  /-- HELP (R572): The help verb or a trailing ? lists verbs, paths or syntax. -/
  | helpVerb (n : SessionId) (x : Form) (topic : Text)
  /-- GET (R588): The get verb reads up to 32 paths at one tick. -/
  | getVerb (n : SessionId) (x : Form) (paths : List Text)
  /-- SET (R589): The set verb checks every assignment and applies all at one tick or none. -/
  | setVerb (n : SessionId) (x : Form) (asg : List (Text × Text))
  /-- TABLE_READ (R619): The table read verb reads words of a profile table. -/
  | tableRead (n : SessionId) (x : Form) (p b t at_ count : Nat)
  /-- TABLE_WRITE (R618): The table write verb writes words of a profile table and marks the bank invalid. -/
  | tableWrite (n : SessionId) (x : Form) (p b t at_ : Nat) (ws : List Nat)
  /-- STATS (R620): The stats verb reads one posted statistics block atomically. -/
  | stats (n : SessionId) (x : Form) (l : LaneId) (part : Fin 4) (chan : Fin 4)
  /-- COEF_READ (R618): The coef read verb reads the 8 taps of one phase. -/
  | coefRead (n : SessionId) (x : Form) (l : LaneId) (k ph : Nat)
  /-- COEF_WRITE (R618): The coef write verb writes the 8 taps of one phase. -/
  | coefWrite (n : SessionId) (x : Form) (l : LaneId) (k ph : Nat) (taps : List Int)
  /-- COEF_RESET (R618): The coef reset verb restores the bilinear table of a stream. -/
  | coefReset (n : SessionId) (x : Form) (l : LaneId) (k : Nat)
  /-- CCI_WRITE (R621): The cci write verb pushes a write transaction and waits for its result. -/
  | cciWrite (n : SessionId) (x : Form) (c : CciId) (a : CciArgs)
  /-- CCI_READ (R621): The cci read verb pushes a read transaction and waits for its result. -/
  | cciRead (n : SessionId) (x : Form) (c : CciId) (a : CciArgs)
  /-- CCI_VERB_TIMEOUT (R621): No result within 1,000 ms answers the cci command with PENDING. -/
  | cciVerbTimeout (n : SessionId)
  /-- ACK (R622): The ack verb cumulatively acknowledges records sent on a Thotor session. -/
  | ack (n : SessionId) (x : Form) (c : CorrId) (q : Nat)
  /-- SFE_READ (R623): The sfe verb reads the latest sample of a channel whole. -/
  | sfeRead (n : SessionId) (x : Form) (c : ChanId)
  /-- FIR_READ (R623): The fir read verb reads taps of an FIR bank. -/
  | firRead (n : SessionId) (x : Form) (c : ChanId) (b at_ count : Nat)
  /-- FIR_WRITE (R623): The fir write verb writes taps of an FIR bank and marks it invalid. -/
  | firWrite (n : SessionId) (x : Form) (c : ChanId) (b at_ : Nat) (hs : List Int)
  /-- LIN_READ (R623): The lin read verb reads words of a linearisation table or set. -/
  | linRead (n : SessionId) (x : Form) (b t kind at_ count : Nat)
  /-- LIN_WRITE (R623): The lin write verb writes linearisation words and marks the bank invalid. -/
  | linWrite (n : SessionId) (x : Form) (b t kind at_ : Nat) (ws : List Int)
  /-- LIN_LOAD (R625): The lin load verb writes a stored entry into a table or set and commits the bank. -/
  | linLoad (n : SessionId) (x : Form) (b t : Nat) (file : Text)
  /-- STORE_LIST (R623): The store list verb lists parameter store entries. -/
  | storeList (n : SessionId) (x : Form)
  /-- STORE_WRITE (R624): The store write verb writes bytes into a parameter store entry. -/
  | storeWrite (n : SessionId) (x : Form) (name : Text) (off : Nat) (bs : List Byte)
  /-- STORE_WRITE_DONE (R624): A parameter store write completes in the flash and the session resumes. -/
  | storeWriteDone (n : SessionId)
  /-- STORE_ERASE (R623): The store erase verb removes an entry. -/
  | storeErase (n : SessionId) (x : Form) (name : Text)
  /-- EVENT_PEEK (R628): The event peek verb reads the oldest entries of the tenant queue without removing them. -/
  | eventPeek (n : SessionId) (x : Form) (count : Nat)
  /-- EVENT_POP (R628): The event pop verb reads and removes the oldest entries of the tenant queue. -/
  | eventPop (n : SessionId) (x : Form) (count : Nat)
  /-- TIME (R627): The time verb reports the timebase, Bell, Period and alarm. -/
  | timeVerb (n : SessionId) (x : Form)
  /-- TIME_ALARM (R629): The time alarm verb sets or clears the timebase alarm. -/
  | timeAlarm (n : SessionId) (x : Form) (tick : Option Nat)
  /-- RESET_ENGINE (R631): The reset engine verb answers ok and then begins a warm reset. -/
  | resetEngine (n : SessionId) (x : Form)
  /-- JOURNAL_READ (R615): The journal read verb submits a JOURNAL_READ job to the Door. -/
  | journalRead (n : SessionId) (x : Form) (serial : Option Nat) (count : Nat) (c : CorrId)
  /-- JOURNAL_ERASE (R632): The journal erase verb erases the journal and performs a reset engine. -/
  | journalErase (n : SessionId) (x : Form) (code : Word)
  /-- TEST_JOURNAL (R633): The test journal verb submits a JOURNAL_TEST job checking every CRC. -/
  | testJournal (n : SessionId) (x : Form) (c : CorrId)
  /-- JOB_WORK_DONE (R616): The Registrar completes a job's work and its JOB record is committed. -/
  | jobWorkDone (o : Nat)
  /-- TCP_CONNECT (R564): A TCP connection to port 5440 takes a free session or is refused with NO_SESSION. -/
  | tcpConnect (p : Fin 2) (ip : Word) (port : Fin 65536)
  /-- TCP_CLOSE (R564): The close of a TCP connection logs the session out and frees it. -/
  | tcpClose (n : SessionId)
  /-- SESSION_CLOSE (R605): A write of CLOSE logs the session out and closes a TCP session. -/
  | sessionClose (m : MasterId) (n : SessionId)
  /-- SESSION_IDLE_TIMEOUT (R566): IDLE_S seconds without a line log the session out. -/
  | sessionIdleTimeout (n : SessionId)
  /-- LOGIN_LOCK_EXPIRY (R584): LOCK_S seconds after a login lockout, login is allowed again. -/
  | loginLockExpiry (n : SessionId)
  /-- BREAK (R596): RX held low for 20 bit times wakes the engine or discards the partial input line. -/
  | break (n : Fin 2)
  /-- WAKE_PATTERN (R596): The pattern %%% with CR wakes the engine or is answered with a prompt. -/
  | wakePattern (n : Fin 2)
  /-- XON_XOFF (R594): A received XON or XOFF resumes or stops transmission under FLOW = 2. -/
  | xonXoff (n : SessionId) (xon : Bool)
  /-- CTS_CHANGE (R594): A change of CTS resumes or stops transmission under FLOW = 1. -/
  | ctsChange (n : Fin 2) (asserted : Bool)
  /-- OUTPUT_DRAIN (R595): The output buffer falls below 2 KiB, input reading resumes and one !LOST line is sent. -/
  | outputDrain (n : SessionId) (left : Nat)
  /-- SNAP_LOW_READ (R658): A read of a low word of an RS value returns it and fills the master's holding register. -/
  | snapLowRead (m : MasterId) (w : RegWord)
  /-- SNAP_HIGH_READ (R658): A read of a high word of an RS value is answered from the holding register, fresh or
    STALE. -/
  | snapHighRead (m : MasterId) (w : RegWord)
  /-- RC_READ (R9): A read of an RC field returns its value and clears it. -/
  | rcRead (m : MasterId) (w : RegWord)
  /-- MBIND_WRITE (R669): A T00 write of MBIND TENANT binds or rebinds a master and raises E0785. -/
  | mbindWrite (m : MasterId) (n : MasterId) (t : TenantId)
  /-- MASTER_UNBIND (R669): A T00 write of UNBIND unbinds a master. -/
  | masterUnbind (m : MasterId) (n : MasterId)
  /-- ACCESS_TABLE_WRITE (R649): A write of TRIGHTS, OWNER or SHARE changes rights and raises E0786 or E0787. -/
  | accessTableWrite (m : MasterId) (w : RegWord) (v : Word)
  /-- VOTE_UP (R673): A write of VOTE_UP, or vote up, sets the tenant's vote and may start a domain rise. -/
  | voteUp (m : MasterId) (mask : BitVec 6)
  /-- VOTE_DOWN (R673): A write of VOTE_DOWN, or vote down, withdraws the tenant's vote and may start a drop. -/
  | voteDown (m : MasterId) (mask : BitVec 6)
  /-- TEMPER_REQUEST (R693): A write of TEMPER_REQ, or the temper verb, sets the tenant's Temper request. -/
  | temperRequest (m : MasterId) (v : Fin 16)
  /-- DOMAIN_QUIESCED (R677): A DROPPING domain quiesces and enters SAVING. -/
  | domainQuiesced (d : DomainId)
  /-- DOMAIN_SAVE_DONE (R683): A domain's save ends, its epochs increment and it enters DOWN. -/
  | domainSaveDone (d : DomainId)
  /-- DOMAIN_RISE_DONE (R684): A RISING domain is restored from its save region and enters UP. -/
  | domainRiseDone (d : DomainId) (crcOk : Bool)
  /-- PAD_RELEASE (R685): A write of PAD_RELEASE releases a held pad bank of an UP domain. -/
  | padRelease (m : MasterId) (mask : BitVec 5)
  /-- WAKE_EVENT (R691): An enabled wake source raises the WAKE vote on its masked domains. -/
  | wakeEvent (c : Fin 26)
  /-- WAKE_DATAGRAM (R689): A wake datagram wakes its masked domains or is dropped as bad. -/
  | wakeDatagram (p : Fin 2) (ip : Word) (udp : BitVec 16) (bs : List Byte)
  /-- THERMAL_SAMPLE (R696): Every 1 ms the temperature sensors are sampled and the die thermal state moves. -/
  | thermalSample (readings : List Int)
  /-- PEND_CLEAR (R720): A write of 1 to a PEND bit clears it and updates the EVT pins. -/
  | pendClear (m : MasterId) (g : Fin 32) (mask : Word)
  /-- EVENT_POP_READ (R719): A read of POP removes the oldest queue entry and fills the master's banked view. -/
  | eventPopRead (m : MasterId) (t : TenantId)
  /-- INJECT (R724): The inject verb or INJ_FIRE raises a source or forces its detector's condition. -/
  | inject (m : MasterId) (src : Fin 1024) (a0 a1 : Word)
  /-- ANVIL_FAULT (R729): An Anvil faults, is fenced with a new epoch, and its work is returned. -/
  | anvilFault (a : Fin 8) (cause : Fin 3)
  /-- ANVIL_TEST_DONE (R729): An Anvil's reset and SRAM test end and it returns to service or stays fenced. -/
  | anvilTestDone (a : Fin 8) (pass : Bool)
  /-- UNIT_WATCHDOG (R730): A unit's request watchdog expires, raising E0034 and resetting the block. -/
  | unitWatchdog (u : Fin 24)
  /-- DRAM_UNCORRECTABLE (R731): An uncorrectable DRAM error retires the page and triggers the accounting of its
    content. -/
  | dramUncorrectable (page : BitVec 20) (hit : DramHit)
  /-- DOMAIN_RESET (R733): A domain reset increments epochs, saves, resets and restores the domain. -/
  | domainReset (m : MasterId) (d : DomainId)
  /-- BLOCK_RESET (R734): A block reset increments the unit's epoch and clears its queues and in-flight work. -/
  | blockReset (m : MasterId) (b : Block)
  /-- FW_START (R737): A write of FW_START begins the check of the image placed at FW_IMAGE. -/
  | fwStart (m : MasterId)
  /-- FW_CHECK_DONE (R737): The image check ends, failing the update or letting it wait for a Bell. -/
  | fwCheckDone (x : ImageSeen)
  /-- POWER_ON_RESET_END (R760): Power-on reset ends, the straps are sampled and the timebase starts. -/
  | powerOnResetEnd (straps : Fin 4)
  /-- IMAGE_LOAD_DONE (R755): An image has been read from a boot flash slot. -/
  | imageLoadDone (prefer : Fin 2)
  /-- IMAGE_CHECK_DONE (R765): The image check passes or fails with a cause, leading to fallback, push or fatal. -/
  | imageCheckDone (x : ImageSeen)
  /-- PUSH_GO (R769): A write of PUSH_GO checks the pushed image and continues the start. -/
  | pushGo (m : MasterId)
  /-- MEMORY_SELF_TEST_DONE (R770): Memory self-test ends, retiring or marking failed memories, and replay starts. -/
  | memorySelfTestDone (x : SelfTest)
  /-- JTAG_INSTRUCTION (R774): An instruction is loaded into the JTAG instruction register, or refused outside test
    mode. -/
  | jtagInstruction (code : BitVec 8)
  /-- JTAG_REG_ACCESS (R774): REG_ACCESS with go performs a BAR0 access as master M01. -/
  | jtagRegAccess (dr : BitVec 64)
  /-- FLASH_ADDR_WRITE (R785): A write of FLASH_ADDR sets the offset and resets the buffer index. -/
  | flashAddrWrite (m : MasterId) (v : Word)
  /-- FLASH_DATA_ACCESS (R785): An access to FLASH_DATA reaches the page buffer word and advances the index. -/
  | flashDataAccess (m : MasterId) (v : Option Word)
  /-- FLASH_READ_PAGE (R785): FLASH_CMD OP 1 reads a 256-byte page into the buffer. -/
  | flashReadPage (m : MasterId)
  /-- FLASH_PROGRAM_PAGE (R785): FLASH_CMD OP 2 programs the buffer into a page. -/
  | flashProgramPage (m : MasterId)
  /-- FLASH_ERASE_SECTOR (R785): FLASH_CMD OP 3 erases a 64 KiB sector. -/
  | flashEraseSector (m : MasterId)
  /-- FLASH_OP_DONE (R785): A flash operation ends, clearing BUSY or setting ERROR. -/
  | flashOpDone (ok : Bool) (words : List Word)
  /-- BURN_SVN (R784): A T00 write of BURN_SVN raises the fused MIN_SVN. -/
  | burnSvn (m : MasterId) (v : Fin 64)
  /-- REVOKE (R784): A T00 write of REVOKE revokes a signing key. -/
  | revoke (m : MasterId) (mask : BitVec 2)
  /-- MBIST_RUN (R777): A write of MBIST_RUN runs the cold self-test on free DRAM and idle SRAMs. -/
  | mbistRun (m : MasterId)
  /-- TEST_HOLD (R773): A write of TEST_HOLD holds or withdraws the TEST vote and raises E0996. -/
  | testHold (m : MasterId) (v : Bool)
  /-- PRBS_ERROR (R777): A PRBS bit error on a test lane is counted and reported. -/
  | prbsError (lane : Fin 6)
  /-- CONSOLE_AUTO_WRITE (R825): A write of CONSOLE_AUTO is stored in the journal header. -/
  | consoleAutoWrite (m : MasterId) (v : Bool)
  /-- REGISTER_WRITE (R823): A register write without a row of its own is applied field by field under the access
    rules. -/
  | registerWrite (m : MasterId) (w : RegWord) (v : Word)
  /-- PTP_SYNC_TIMEOUT (R539): No Sync message has arrived on a port for 4 s, so its IEEE 1588 clock loses lock,
    raises E0658 and, if it feeds the Bell, starts holdover. -/
  | ptpSyncTimeout (p : Fin 2)
  /-- BUS_FRAME_START (R137): In separate-sync mode the active edge of VSYNC starts a bus frame on a parallel port,
    numbering its lines and bringing the link up under R141. -/
  | busFrameStart (p : PortId)
  /-- VIO_OUT_OF_RANGE (R792): The supply of an I/O bank leaves its operating range while VIN is valid, and the bank's
    pins go high impedance with inputs reading 0. -/
  | vioOutOfRange (par : Bool)
  /-- VIO_IN_RANGE (R792): An I/O bank's supply has been within range for 1 ms, and the bank's pins become active
    again. -/
  | vioInRange (par high : Bool)
  /-- ICMP_ECHO_REQUEST (R538): An ICMP echo request addressed to a port's IPv4 address is answered with an echo
    reply. -/
  | icmpEchoRequest (p : Fin 2) (src dst : Word) (fragmented : Bool) (req : List Byte)
  /-- ARP_REQUEST (R538): An ARP request or reply arrives on an Ethernet port and is answered, or resolves an address.
    -/
  | arpRequest (p : Fin 2) (reply : Bool) (peerIp : Word) (peerMac : BitVec 48) (target : Word)
  /-- PAUSE_FRAME (R538): A received IEEE 802.3 PAUSE frame is honoured, and the port's transmission stops for the
    time the frame requests. -/
  | pauseFrame (p : Fin 2) (quanta : BitVec 16)
  /-- BELL (R15): The Bell sounds from its selected source and opens a new Period, whose ledger row becomes the
    Timetable. -/
  | bell
  /-- BELL_IN_EDGE (R19): A selected edge of BELL_IN is sampled, stamped and either makes a Bell, is held, or is
    ignored. -/
  | bellInEdge
  /-- HOLDOVER_ENTRY (R21): No valid Bell source event has come by 17/16 of the Period, so the engine enters holdover
    and makes the first holdover Bell. -/
  | holdoverEntry
  /-- TEMPER_CHANGE_COMPLETE (R695): The voltage ramp and clock switch of a Temper change complete, RAMPING clears and
    E0025 is raised. -/
  | temperChangeComplete
  /-- JOURNAL_APPEND (R89): A journal entry becomes durable in the staging buffer and the work waiting on it proceeds.
    -/
  | journalAppend
  /-- JOURNAL_WRITEBACK (R89): A staged journal entry reaches the journal memory. -/
  | journalWriteback
  /-- CHECKPOINT_START (R94): A checkpoint falls due by log fill, CKPT_PERIODS or a forced request, and starts into
    the unused slot. -/
  | checkpointStart
  /-- CHECKPOINT_DONE (R94): The CHECKPOINT entry is appended, the checkpoint takes effect and a remembered cause
    starts one more. -/
  | checkpointDone
  /-- PWR_FAIL (R116): The PWR_FAIL comparator trips, capture halts, units stop and the staging buffer drains toward a
    SEAL entry. -/
  | pwrFail
  /-- PWR_FAIL_ARM (R114): VIN has stayed 0.2 V above the threshold for 10 ms and the comparator arms. -/
  | pwrFailArm
  /-- SEAL_WRITTEN (R117): The staging buffer has drained and the SEAL entry is written and verified, after which the
    engine stays stopped. -/
  | sealWritten
  /-- PIPE_STRIPE_DONE (R192): A Pipe stripe finishes, writing its decode view and compare sums and feeding statistics
    and streams. -/
  | pipeStripeDone
  /-- CANDIDATE_DISPATCH (R279): A released candidate goes to the first idle core of an unfenced Anvil. -/
  | candidateDispatch
  /-- ROTATION_BEGIN (R483): A rotation of the spare modulator begins INTERVAL ms after the previous one. -/
  | rotationBegin
  /-- PCIE_LINK_DOWN (R550): The PCI Express link goes down and every ring of its functions is disarmed. -/
  | pcieLinkDown
  /-- PERST (R782): PERST# resets the HOST domain and raises E0046. -/
  | perst
  /-- TIME_ALARM_FIRE (R629): The timebase reaches the alarm tick, the alarm fires once as a wake source and clears.
    -/
  | timeAlarmFire
  /-- WAKE_HOLD_EXPIRY (R691): WAKE_HOLD ms after the latest wake event, the WAKE vote is withdrawn. -/
  | wakeHoldExpiry
  /-- WAKE_RELEASE (R690): WAKE# is released when the HOST link comes up or 100 ms after the pad release. -/
  | wakeRelease
  /-- REGISTRAR_WATCHDOG (R732): 2 ms without a Registrar heartbeat restarts the Registrar on its running image. -/
  | registrarWatchdog
  /-- DRAM_CORRECTED (R731): A corrected DRAM error is counted and reported. -/
  | dramCorrected
  /-- FW_UPDATE_BEGIN (R738): At a quiet Bell, admission pauses and the Registrar restarts on the new image. -/
  | fwUpdateBegin
  /-- FW_READY (R738): The updated Registrar reports ready and admission resumes at the next Bell. -/
  | fwReady
  /-- FW_READY_TIMEOUT (R739): The new image fails to report ready in 50 ms and the Registrar reverts. -/
  | fwReadyTimeout
  /-- VIN_VALID (R789): VIN stays above 2.45 V for 1 ms and power-on reset begins a cold start. -/
  | vinValid
  /-- VIN_INVALID (R789): VIN falls below 2.30 V and everything but the journal memory is lost. -/
  | vinInvalid
  /-- RESET_N (R752): A RESET_N request of at least 1 µs begins a warm reset entry. -/
  | resetN
  /-- RESET_N_RELEASE (R752): RESET_N goes high and the start sequence runs. -/
  | resetNRelease
  /-- HEADER_READ_DONE (R755): The journal header and checkpoint pointer have been read. -/
  | headerReadDone
  /-- DRAM_TRAINING_DONE (R755): DRAM training or self-refresh exit completes. -/
  | dramTrainingDone
  /-- READY (R772): The Registrar reports ready, READY rises and each UART sends !READY. -/
  | ready
  /-- BOOT_HOLD_EXPIRY (R759): BOOT_HOLD ms after READY the BOOT vote is withdrawn. -/
  | bootHoldExpiry
  /-- JTAG_MBIST (R774): The MBIST instruction with run starts the memory self-test. -/
  | jtagMbist
  /-- TEST_LOGIC_RESET (R774): TRST_N is asserted, or the TAP reaches Test-Logic-Reset, which resets the test access
    port and selects IDCODE. -/
  | testLogicReset
  deriving DecidableEq, Repr

end Sys2Proof
end

