-- ==== Sys2Proof/Machine/EventNames.lean ====
section
/-! DEFINITION. The names of the event sources, from the event tables of the chapters. -/
namespace Sys2Proof.Machine

/-- First source, last source and name, part 0. -/
def eventNames0 : List (Nat × Nat × String) :=
  [(0, 5, "DOMAIN_DOWN"), (8, 13, "DOMAIN_UP"), (16, 21, "RESTORE_CRC"), (24, 24, "WAKE"),
   (25, 25, "TEMPER_CHANGED"), (26, 26, "DOWN_ACCESS"), (27, 27, "WAKE_DATAGRAM_BAD"), (32, 32, "DOMAIN_RESET"),
   (33, 33, "BLOCK_RESET"), (34, 34, "UNIT_FAULT"), (35, 35, "STALE_REPLY"), (36, 36, "FW_UPDATE_BEGIN"),
   (37, 37, "FW_UPDATE_END"), (38, 38, "FW_UPDATE_FAIL"), (39, 39, "REGISTRAR_WATCHDOG"),
   (40, 40, "DRAM_UNCORRECTABLE"), (41, 41, "DRAM_CORRECTED"), (42, 42, "READY"), (43, 43, "BOOT_FALLBACK"),
   (44, 44, "BIST_FAIL"), (45, 45, "FLASH_ERROR"), (46, 46, "PERST"), (47, 47, "STORE_RECOVERED"),
   (64, 64, "BELL_HOLDOVER"), (65, 65, "BELL_RESTORED")]

/-- First source, last source and name, part 1. -/
def eventNames1 : List (Nat × Nat × String) :=
  [(66, 66, "BELL_EARLY"), (67, 67, "PERIOD_CHANGED"), (68, 68, "TEMPER_DEFERRED"), (69, 69, "RATION_ON"),
   (70, 70, "RATION_OFF"), (71, 71, "REFUSAL"), (72, 72, "DEADLINE_MISSED"), (73, 73, "COST_OVERRUN"),
   (74, 74, "PERIOD_OVERRUN"), (75, 75, "LANE_UNFIT"), (128, 128, "JOURNAL_REPLAYED"),
   (129, 129, "JOURNAL_TORN"), (130, 130, "JOURNAL_CRC"), (131, 131, "PWR_FAIL"), (132, 132, "DATA_LOST"),
   (133, 133, "BATCH_REWRITTEN"), (134, 134, "BATCH_VOIDED"), (135, 135, "EVICTED"), (136, 136, "BILLET_LIMIT"),
   (192, 255, "LANE_MARK"), (256, 319, "LANE_PROBATION"), (320, 325, "PORT_LINK_DOWN"),
   (328, 333, "PORT_LINK_UP"), (336, 341, "PORT_HDR_UNCORR"), (344, 349, "PORT_OVERFLOW")]

/-- First source, last source and name, part 2. -/
def eventNames2 : List (Nat × Nat × String) :=
  [(352, 355, "PORT_WAKE"), (360, 363, "CCI_ERROR"), (364, 364, "INPUT_BUDGET"),
   (448, 448, "PIPE_PARTIAL_MERGE"), (449, 449, "PIPE_NO_REFERENCE"), (450, 450, "PIPE_PARTNER_LATE"),
   (451, 451, "PIPE_TABLE_BUSY"), (452, 452, "PIPE_TABLE_HELD"), (453, 453, "PIPE_CTX_PARITY"),
   (454, 454, "PIPE_DATA_LOST"), (455, 455, "PIPE_OB_INVALID"), (456, 456, "PIPE_REF_INVALIDATED"),
   (512, 519, "ANVIL_FAULT"), (520, 527, "ANVIL_IN_SERVICE"), (528, 528, "CAND_EXTRA"),
   (529, 529, "OPEN_LIMIT"), (530, 530, "SRAM_CORRECTED"), (531, 531, "GS1_PARSE_FAIL"),
   (532, 532, "GRADE_LIMITED"), (640, 640, "STALL_BEGIN"), (641, 641, "STALL_END"), (642, 642, "STALL_TIMEOUT"),
   (643, 643, "SUSPENDED"), (644, 644, "RING_REBUILT"), (645, 645, "RING_ERROR")]

/-- First source, last source and name, part 3. -/
def eventNames3 : List (Nat × Nat × String) :=
  [(646, 646, "PCIE_LINK_DOWN"), (647, 647, "PCIE_LINK_UP"), (648, 648, "PCIE_AER"),
   (649, 650, "ETH_LINK_DOWN"), (651, 652, "ETH_LINK_UP"), (653, 653, "JX_OPEN"), (654, 654, "JX_CLOSED"),
   (655, 655, "JX_REJECT"), (656, 656, "JX_RETRANSMIT"), (657, 657, "PTP_LOCKED"), (658, 658, "PTP_UNLOCKED"),
   (736, 736, "OUT_LIMIT"), (737, 737, "OUT_NO_SLOT"), (738, 738, "STAT_SKIPPED"), (739, 739, "AE_FAIL"),
   (740, 740, "OUT_CONFIG"), (741, 741, "SLATE_DROP"), (742, 742, "SLATE_FROZEN"), (743, 743, "SLATE_ORDER"),
   (744, 744, "SLATE_SID"), (745, 745, "LATENCY_UNPAIRED"), (768, 768, "SESSION_OPEN"),
   (769, 769, "SESSION_CLOSED"), (770, 770, "LOGIN"), (771, 771, "LOGOUT")]

/-- First source, last source and name, part 4. -/
def eventNames4 : List (Nat × Nat × String) :=
  [(772, 772, "LOGIN_LOCKED"), (773, 773, "CHECK_FAIL"), (774, 774, "EVT_LOST"), (775, 775, "WAKE_PATTERN"),
   (784, 784, "ACCESS_DENIED"), (785, 785, "MASTER_BOUND"), (786, 786, "RIGHTS_CHANGED"),
   (787, 787, "OWNER_CHANGED"), (832, 855, "SFE_CHAN_FAULT"), (856, 859, "SFE_EXC_FAULT"),
   (860, 883, "SFE_OVERVOLT"), (884, 887, "SFE_GUARD_LIMIT"), (888, 911, "SFE_MONITOR"),
   (912, 912, "SFE_BANK_BUSY"), (913, 913, "SFE_LIN_FAULT"), (914, 914, "SFE_SAT"),
   (916, 916, "CAL_MOD_SUSPECT"), (917, 917, "CAL_MOD_FAULT"), (918, 918, "CAL_SPARE_FAULT"),
   (919, 919, "CAL_LATE"), (920, 920, "TRIM_LIMIT"), (921, 921, "TRIM_BAD"), (922, 922, "FLICKER_LOCKED"),
   (923, 923, "FLICKER_UNLOCKED"), (924, 924, "OB_SLEW")]

/-- First source, last source and name, part 5. -/
def eventNames5 : List (Nat × Nat × String) :=
  [(925, 925, "OB_CLAMP"), (928, 935, "LED_SHORT"), (936, 943, "LED_CURRENT"), (944, 951, "DOUT_FAULT"),
   (952, 959, "QUENCH_STEP"), (960, 960, "FIELD_LOST"), (961, 961, "FIELD_OK"), (962, 962, "FIELD_OV"),
   (963, 966, "ENC_ERROR"), (967, 967, "STROBE_SKIP"), (968, 968, "STROBE_DISABLED"),
   (969, 976, "QUENCH_FAULT"), (977, 984, "DIN_EDGE"), (992, 992, "THERMAL_STATE"), (993, 993, "THERMAL_TRIP"),
   (994, 994, "THERMAL_SENSOR"), (995, 995, "JTAG_REFUSED"), (996, 996, "TEST_HOLD"), (997, 997, "PRBS_ERROR"),
   (1008, 1008, "INJECTION")]

/-- The names of the sources. -/
def eventNames : List (Nat × Nat × String) := eventNames0 ++ eventNames1 ++ eventNames2 ++ eventNames3 ++ eventNames4 ++ eventNames5

/-- The name of a source; a reserved source has none. -/
def eventName (e : Nat) : Text :=
  match eventNames.find? (fun x => x.1 ≤ e && e ≤ x.2.1) with
  | some x => x.2.2.toList
  | none => []

end Sys2Proof.Machine
end

