-- ==== Sys2Proof/Config.lean ====
section
/-! DEFINITION. What an implementation fixes and what the spec leaves open: free values. Each is a constant without a body,
so that no proof can see what it is. -/
namespace Sys2Proof.Config

/-- A fresh free value of `w` bits for each count of the free-value counter. UNVERIFIED, safe: log entry 2. -/
opaque freeValue : Nat → (w : Nat) → BitVec w

/-- The mean of no values: a zone without pixels, or a metering without zones (R245, R253). UNVERIFIED, safe: log entry 2. -/
opaque emptyMean : BitVec 20

/-- The white-balance code when the red or blue mean is 0, by its numerator (R255). UNVERIFIED, safe: log entry 2. -/
opaque wbCorner : Nat → BitVec 16

/-- The filter part of a group delay, in ticks, when the taps of a RAM response add up to 0 (R451), by the channel.
UNVERIFIED, safe: log entry 2. -/
opaque noGainDelay : Nat → BitVec 32

/-- The angle e of the flicker lock, in 1/65,536 cycle, when both sums of R501 are 0. UNVERIFIED, safe: log entry 2. -/
opaque noAngle : BitVec 16

/-- The flicker depth, in 0.01 %, when the mean of a window is 0 (R501). UNVERIFIED, safe: log entry 2. -/
opaque noDepth : BitVec 16

/-- The built-in AI table of R294, by the number of digits and the value of an AI: bit 11 known, bit 10 a date, bit 9
variable, bits 8 to 0 the fixed or the largest length. UNVERIFIED, safe: log entry 2. -/
opaque gs1Builtin : Nat → Nat → BitVec 12

/-- A register whose value the spec calls fixed without stating it, by its address. UNVERIFIED, safe: log entry 2. -/
opaque fixedWord : Nat → BitVec 32

/-- Whether VALID of BANK_STATUS speaks of the linearisation bank selected, and not of the FIR bank (R460 says only "the
selected bank"). UNVERIFIED, safe: log entry 2. -/
opaque bankStatusOfLin : Bool

/-! ### The journal memory: log entry 115 -/

/-- The format version and the part identity that the journal header holds (Table Accepted.3). UNVERIFIED, safe: log
entry 115. -/
opaque journalVersion : BitVec 32

opaque partIdentity : BitVec 64

/-- What the boundary cell of a pin holds before anything is shifted in, by the cell's place among all (R776): not stated. -/
opaque boundaryCell : Nat → Nat → Bool

/-- The manufacturer identity of the BSDL file (R774). -/
opaque jtagMaker : BitVec 11

/-- Byte `i` of a domain's region of the save RAM by the saved fields, and of its header by the regions' entries (Table Power.6):
the order of the bytes is not stated. -/
opaque saveRegionByte : Nat → List (Nat × Nat) → Nat → BitVec 8

opaque saveHeaderByte : List Nat → Nat → BitVec 8

/-- Byte `i` of the journal header, of a slot header, of a ring record and of a lane record, by what they hold (R90, R95).
UNVERIFIED, safe: log entry 115. -/
opaque journalHeaderByte : List Nat → Nat → BitVec 8

opaque slotHeaderByte : List Nat → Nat → BitVec 8

opaque ringRecordByte : List Nat → Nat → BitVec 8

opaque laneRecordByte : List Nat → Nat → BitVec 8

/-- Whether a free log entry reads 0xFF and not 0x00 (R93). UNVERIFIED, safe: log entry 115. -/
opaque freeEntryOnes : Bool

end Sys2Proof.Config
end

