-- ==== Sys2Proof/Machine/RegTypes.lean ====
section
/-! DEFINITION. What a register field is: where it sits, how wide it is, its access code, its reset value and its
Thotor path. The fields themselves, taken from the register tables of the spec, are in RegMap*.lean. -/
namespace Sys2Proof.Machine

/-- The access codes of Table Scope.5 (R9). -/
inductive Acc where
  | ro | rw | wo | w1c | w1s | rc | rs
  deriving DecidableEq, Repr

/-- What else a register table says of a field. -/
inductive FAttr where
  /-- a shadow field, R193 -/
  | shadow
  /-- a binding field, R198 and R826 -/
  | binding
  /-- a staged field of a correspondent, R516 -/
  | staged
  /-- a per-master selector (Table Access.3) -/
  | selector
  /-- a field whose write needs Run (CCI_CMD_0 to CCI_CMD_2, Table Access.3) -/
  | needsRun
  /-- a WO field that gives a command -/
  | command
  /-- a WO field that holds a code, an address or data -/
  | datum
  /-- only T00 may change it -/
  | t00
  /-- its command needs Own -/
  | needsOwn
  /-- a function field: FN of a ring or a stream, MIRROR_FN -/
  | function
  /-- a field that names another object -/
  | naming
  /-- a SHARE field -/
  | share
  /-- the value is signed -/
  | signed
  /-- read through the SFE holding register, R465 -/
  | latching
  deriving DecidableEq, Repr

/-- How the storage of a field is chosen, beside its address. -/
inductive Bank where
  | none      -- one storage for each register of the array
  | master    -- one for each master; the master is the last index
  | tenant    -- a view chosen by the tenant of the issuing master
  | gbWin     -- the Gradebook window: one for each correspondent
  | corrWin   -- the correspondent window: one for each correspondent
  | table     -- an access table: one for each target
  deriving DecidableEq, Repr

/-- One word of a Thotor path. -/
inductive Seg where
  | lit (t : String)
  | plain (dim first : Nat)          -- a plain number
  | obj (letter : Char) (digits dim : Nat)  -- an object name such as L05, C0042, T03
  | two (dim : Nat)                  -- a number of two digits
  | port (dim first : Nat)           -- CSI_A to PAR_B
  | letter (dim : Nat)               -- A to D
  | domain (dim : Nat)               -- a domain name of Table Power.1
  | target (dim : Nat)               -- a target's path name of Table Access.2
  | family (dim : Nat)               -- a family name of R314
  deriving DecidableEq, Repr

/-- A register field, or an array of register fields: element `(i, j)` sits at byte address `base + i*s1 + j*s2`.
Fields wider than 32 bits run on into the following words. Addresses from 2^32 on are no BAR0 addresses: they are the
storage of banked registers. -/
structure Fld where
  base : Nat
  lsb : Nat
  width : Nat
  acc : Acc
  n1 : Nat := 1
  s1 : Nat := 0
  n2 : Nat := 1
  s2 : Nat := 0
  bank : Bank := .none
  attrs : List FAttr := []
  /-- reset values by index; the last one stands for every later index -/
  rst : List Nat := [0]
  /-- the reset values are indexed by the second index -/
  rst2 : Bool := false
  path : List Seg := []
  deriving DecidableEq, Repr

/-- The key under which element `(i, j)` is stored: its bit address. -/
def Fld.key (f : Fld) (i j : Nat) : Nat := (f.base + i * f.s1 + j * f.s2) * 8 + f.lsb

/-- Entry `i` of a list whose last entry repeats for ever. -/
def lastGet (d : Nat) : List Nat → Nat → Nat
  | [], _ => d
  | [x], _ => x
  | x :: _, 0 => x
  | _ :: xs, i + 1 => lastGet d xs i

/-- The reset value of element `(i, j)`. -/
def Fld.reset (f : Fld) (i j : Nat) : Nat := lastGet 0 f.rst (if f.rst2 then j else i)

/-- Whether the register tables give the field an attribute. -/
def Fld.has (f : Fld) (a : FAttr) : Bool := f.attrs.contains a

end Sys2Proof.Machine
end

