-- ==== Sys2Proof/Machine/RegMapCapture.lean ====
section
/-! DEFINITION. The register fields of the Capture blocks, from the register tables of the spec: one definition a field, named
by its block and its name in the table. -/
namespace Sys2Proof.Machine.Rg

/-! 03_capture_lanes.md R183 -/

/-- rate: bits [31:20]. -/
def csiRate : Fld :=
  { base := 0x80000, lsb := 20, width := 12, acc := .rw, n1 := 4, s1 := 0x1000, rst := [2500],
    path := [.lit "port", .port 0 0, .lit "rate"] }
/-- linkTimeout: bits [15:8]. -/
def csiLinkTimeout : Fld :=
  { base := 0x80000, lsb := 8, width := 8, acc := .rw, n1 := 4, s1 := 0x1000, rst := [100],
    path := [.lit "port", .port 0 0, .lit "link_timeout"] }
/-- wakeEn: bits [5:5]. -/
def csiWakeEn : Fld :=
  { base := 0x80000, lsb := 5, width := 1, acc := .rw, n1 := 4, s1 := 0x1000,
    path := [.lit "port", .port 0 0, .lit "wake"] }
/-- contClk: bits [4:4]. -/
def csiContClk : Fld :=
  { base := 0x80000, lsb := 4, width := 1, acc := .rw, n1 := 4, s1 := 0x1000, rst := [1],
    path := [.lit "port", .port 0 0, .lit "cont_clk"] }
/-- dlanes: bits [3:2]. -/
def csiDlanes : Fld :=
  { base := 0x80000, lsb := 2, width := 2, acc := .rw, n1 := 4, s1 := 0x1000, rst := [3],
    path := [.lit "port", .port 0 0, .lit "dlanes"] }
/-- pclkMhz: bits [31:24]. -/
def parPclkMhz : Fld :=
  { base := 0x84000, lsb := 24, width := 8, acc := .rw, n1 := 2, s1 := 0x1000, rst := [160],
    path := [.lit "port", .port 0 4, .lit "pclk"] }
/-- linkTimeout: bits [23:16]. -/
def parLinkTimeout : Fld :=
  { base := 0x84000, lsb := 16, width := 8, acc := .rw, n1 := 2, s1 := 0x1000, rst := [100],
    path := [.lit "port", .port 0 4, .lit "link_timeout"] }
/-- fieldMode: bits [15:15]. -/
def parFieldMode : Fld :=
  { base := 0x84000, lsb := 15, width := 1, acc := .rw, n1 := 2, s1 := 0x1000,
    path := [.lit "port", .port 0 4, .lit "field_mode"] }
/-- trailGap: bits [14:12]. -/
def parTrailGap : Fld :=
  { base := 0x84000, lsb := 12, width := 3, acc := .rw, n1 := 2, s1 := 0x1000, rst := [4],
    path := [.lit "port", .port 0 4, .lit "trailer", .lit "gap"] }
/-- trailEn: bits [11:11]. -/
def parTrailEn : Fld :=
  { base := 0x84000, lsb := 11, width := 1, acc := .rw, n1 := 2, s1 := 0x1000,
    path := [.lit "port", .port 0 4, .lit "trailer", .lit "enable"] }
/-- pclkEdge: bits [10:10]. -/
def parPclkEdge : Fld :=
  { base := 0x84000, lsb := 10, width := 1, acc := .rw, n1 := 2, s1 := 0x1000,
    path := [.lit "port", .port 0 4, .lit "edge"] }
/-- deEn: bits [9:9]. -/
def parDeEn : Fld :=
  { base := 0x84000, lsb := 9, width := 1, acc := .rw, n1 := 2, s1 := 0x1000, rst := [1],
    path := [.lit "port", .port 0 4, .lit "de", .lit "enable"] }
/-- dePol: bits [8:8]. -/
def parDePol : Fld :=
  { base := 0x84000, lsb := 8, width := 1, acc := .rw, n1 := 2, s1 := 0x1000,
    path := [.lit "port", .port 0 4, .lit "polarity"] }
/-- vsPol: bits [7:7]. -/
def parVsPol : Fld :=
  { base := 0x84000, lsb := 7, width := 1, acc := .rw, n1 := 2, s1 := 0x1000,
    path := [.lit "port", .port 0 4, .lit "polarity"] }
/-- hsPol: bits [6:6]. -/
def parHsPol : Fld :=
  { base := 0x84000, lsb := 6, width := 1, acc := .rw, n1 := 2, s1 := 0x1000,
    path := [.lit "port", .port 0 4, .lit "polarity"] }
/-- sync: bits [5:5]. -/
def parSync : Fld :=
  { base := 0x84000, lsb := 5, width := 1, acc := .rw, n1 := 2, s1 := 0x1000,
    path := [.lit "port", .port 0 4, .lit "sync"] }
/-- width: bits [4:1]. -/
def parWidth : Fld :=
  { base := 0x84000, lsb := 1, width := 4, acc := .rw, n1 := 2, s1 := 0x1000, rst := [7],
    path := [.lit "port", .port 0 4, .lit "width"] }
/-- vStart: bits [29:16]. -/
def parVStart : Fld :=
  { base := 0x84008, lsb := 16, width := 14, acc := .rw, n1 := 2, s1 := 0x1000,
    path := [.lit "port", .port 0 4, .lit "v_start"] }
/-- hStart: bits [13:0]. -/
def parHStart : Fld :=
  { base := 0x84008, lsb := 0, width := 14, acc := .rw, n1 := 2, s1 := 0x1000,
    path := [.lit "port", .port 0 4, .lit "h_start"] }
/-- en: bits [0:0]. -/
def portEn : Fld :=
  { base := 0x80000, lsb := 0, width := 1, acc := .rw, n1 := 6, s1 := 0x1000,
    path := [.lit "port", .port 0 0, .lit "enable"] }
/-- wakeSeen: bits [3:3]. -/
def portWakeSeen : Fld :=
  { base := 0x80004, lsb := 3, width := 1, acc := .w1c, n1 := 6, s1 := 0x1000,
    path := [.lit "port", .port 0 0, .lit "wake_seen"] }
/-- lp: bits [2:2]. -/
def portLp : Fld :=
  { base := 0x80004, lsb := 2, width := 1, acc := .ro, n1 := 6, s1 := 0x1000,
    path := [.lit "port", .port 0 0, .lit "lp"] }
/-- deskewed: bits [1:1]. -/
def portDeskewed : Fld :=
  { base := 0x80004, lsb := 1, width := 1, acc := .ro, n1 := 6, s1 := 0x1000,
    path := [.lit "port", .port 0 0, .lit "deskewed"] }
/-- link: bits [0:0]. -/
def portLink : Fld :=
  { base := 0x80004, lsb := 0, width := 1, acc := .ro, n1 := 6, s1 := 0x1000,
    path := [.lit "port", .port 0 0, .lit "link"] }
/-- hdrUncorr: bits [31:0]. -/
def portHdrUncorr : Fld :=
  { base := 0x80010, lsb := 0, width := 32, acc := .rc, n1 := 6, s1 := 0x1000,
    path := [.lit "port", .port 0 0, .lit "count", .lit "hdr_uncorr"] }
/-- unbound: bits [31:0]. -/
def portUnbound : Fld :=
  { base := 0x80014, lsb := 0, width := 32, acc := .rc, n1 := 6, s1 := 0x1000,
    path := [.lit "port", .port 0 0, .lit "count", .lit "unbound"] }
/-- overflow: bits [31:0]. -/
def portOverflow : Fld :=
  { base := 0x80018, lsb := 0, width := 32, acc := .rc, n1 := 6, s1 := 0x1000,
    path := [.lit "port", .port 0 0, .lit "count", .lit "overflow"] }
/-- xyFixed: bits [31:0]. -/
def portXyFixed : Fld :=
  { base := 0x8001C, lsb := 0, width := 32, acc := .rc, n1 := 6, s1 := 0x1000,
    path := [.lit "port", .port 0 0, .lit "count", .lit "xy_fixed"] }
/-- linkDowns: bits [31:0]. -/
def portLinkDowns : Fld :=
  { base := 0x80020, lsb := 0, width := 32, acc := .rc, n1 := 6, s1 := 0x1000,
    path := [.lit "port", .port 0 0, .lit "count", .lit "link_downs"] }
/-- budget: bits [15:0]. -/
def capBudget : Fld :=
  { base := 0x87000, lsb := 0, width := 16, acc := .ro,
    path := [.lit "capture", .lit "budget"] }
/-! 03_capture_lanes.md R185 -/

/-- stretchMs: bits [23:16]. -/
def cciStretchMs : Fld :=
  { base := 0x88000, lsb := 16, width := 8, acc := .rw, n1 := 4, s1 := 0x100, rst := [10],
    path := [.lit "cci", .plain 0 0, .lit "stretch"] }
/-- speed: bits [9:8]. -/
def cciSpeed : Fld :=
  { base := 0x88000, lsb := 8, width := 2, acc := .rw, n1 := 4, s1 := 0x100, rst := [1],
    path := [.lit "cci", .plain 0 0, .lit "speed"] }
/-- en: bits [0:0]. -/
def cciEn : Fld :=
  { base := 0x88000, lsb := 0, width := 1, acc := .rw, n1 := 4, s1 := 0x100,
    path := [.lit "cci", .plain 0 0, .lit "enable"] }
/-- cmdTag: bits [31:24]. -/
def cciCmdTag : Fld :=
  { base := 0x88004, lsb := 24, width := 8, acc := .rw, n1 := 4, s1 := 0x100, attrs := [.needsRun] }
/-- cmdLane: bits [21:16]. -/
def cciCmdLane : Fld :=
  { base := 0x88004, lsb := 16, width := 6, acc := .rw, n1 := 4, s1 := 0x100, attrs := [.needsRun] }
/-- cmdTrig: bits [13:12]. -/
def cciCmdTrig : Fld :=
  { base := 0x88004, lsb := 12, width := 2, acc := .rw, n1 := 4, s1 := 0x100, attrs := [.needsRun] }
/-- cmdDataBytes: bits [11:10]. -/
def cciCmdDataBytes : Fld :=
  { base := 0x88004, lsb := 10, width := 2, acc := .rw, n1 := 4, s1 := 0x100, attrs := [.needsRun] }
/-- cmdRegBytes: bits [9:8]. -/
def cciCmdRegBytes : Fld :=
  { base := 0x88004, lsb := 8, width := 2, acc := .rw, n1 := 4, s1 := 0x100, attrs := [.needsRun], rst := [2] }
/-- cmdRead: bits [7:7]. -/
def cciCmdRead : Fld :=
  { base := 0x88004, lsb := 7, width := 1, acc := .rw, n1 := 4, s1 := 0x100, attrs := [.needsRun] }
/-- cmdDev: bits [6:0]. -/
def cciCmdDev : Fld :=
  { base := 0x88004, lsb := 0, width := 7, acc := .rw, n1 := 4, s1 := 0x100, attrs := [.needsRun] }
/-- cmdReg: bits [15:0]. -/
def cciCmdReg : Fld :=
  { base := 0x88008, lsb := 0, width := 16, acc := .rw, n1 := 4, s1 := 0x100, attrs := [.needsRun] }
/-- cmdData: bits [31:0]. -/
def cciCmdData : Fld :=
  { base := 0x8800C, lsb := 0, width := 32, acc := .wo, n1 := 4, s1 := 0x100, attrs := [.needsRun] }
/-- resValid: bits [31:31]. -/
def cciResValid : Fld :=
  { base := 0x88010, lsb := 31, width := 1, acc := .rc, n1 := 4, s1 := 0x100 }
/-- resStatus: bits [30:28]. -/
def cciResStatus : Fld :=
  { base := 0x88010, lsb := 28, width := 3, acc := .rc, n1 := 4, s1 := 0x100 }
/-- resTag: bits [23:16]. -/
def cciResTag : Fld :=
  { base := 0x88010, lsb := 16, width := 8, acc := .rc, n1 := 4, s1 := 0x100 }
/-- rdata: bits [31:0]. -/
def cciRdata : Fld :=
  { base := 0x88014, lsb := 0, width := 32, acc := .ro, n1 := 4, s1 := 0x100 }
/-- full: bits [16:16]. -/
def cciFull : Fld :=
  { base := 0x88018, lsb := 16, width := 1, acc := .rc, n1 := 4, s1 := 0x100,
    path := [.lit "cci", .plain 0 0, .lit "full"] }
/-- results: bits [14:8]. -/
def cciResults : Fld :=
  { base := 0x88018, lsb := 8, width := 7, acc := .ro, n1 := 4, s1 := 0x100,
    path := [.lit "cci", .plain 0 0, .lit "results"] }
/-- queued: bits [6:0]. -/
def cciQueued : Fld :=
  { base := 0x88018, lsb := 0, width := 7, acc := .ro, n1 := 4, s1 := 0x100,
    path := [.lit "cci", .plain 0 0, .lit "queued"] }
/-! 04_pixel_pipeline.md R239 -/

/-- idle: bits [8:8]. -/
def pipeIdle : Fld :=
  { base := 0x140000, lsb := 8, width := 1, acc := .ro, rst := [1],
    path := [.lit "pipe", .lit "idle"] }
/-- lane: bits [5:0]. -/
def pipeLane : Fld :=
  { base := 0x140000, lsb := 0, width := 6, acc := .ro,
    path := [.lit "pipe", .lit "lane"] }
/-- mhz: bits [9:0]. -/
def pipeMhz : Fld :=
  { base := 0x140004, lsb := 0, width := 10, acc := .ro, rst := [800],
    path := [.lit "pipe", .lit "clock"] }
/-- switches: bits [63:0] over the words from the first. -/
def pipeSwitches : Fld :=
  { base := 0x140008, lsb := 0, width := 64, acc := .rs,
    path := [.lit "pipe", .lit "switches"] }
/-- ctxParity: bits [31:0]. -/
def pipeCtxParity : Fld :=
  { base := 0x140010, lsb := 0, width := 32, acc := .rc,
    path := [.lit "pipe", .lit "count", .lit "ctx_parity"] }
/-- dataLost: bits [31:0]. -/
def pipeDataLost : Fld :=
  { base := 0x140014, lsb := 0, width := 32, acc := .rc,
    path := [.lit "pipe", .lit "count", .lit "data_lost"] }
/-- tblProfile: bits [19:16]. -/
def pipeTblProfile : Fld :=
  { base := 0x200140100, lsb := 16, width := 4, acc := .rw, n1 := 96, s1 := 0x1000000, bank := .master, attrs := [.selector] }
/-- tblBank: bits [12:12]. -/
def pipeTblBank : Fld :=
  { base := 0x200140100, lsb := 12, width := 1, acc := .rw, n1 := 96, s1 := 0x1000000, bank := .master, attrs := [.selector] }
/-- tblTable: bits [2:0]. -/
def pipeTblTable : Fld :=
  { base := 0x200140100, lsb := 0, width := 3, acc := .rw, n1 := 96, s1 := 0x1000000, bank := .master, attrs := [.selector] }
/-- tblAddr: bits [12:0]. -/
def pipeTblAddr : Fld :=
  { base := 0x200140104, lsb := 0, width := 13, acc := .rw, n1 := 96, s1 := 0x1000000, bank := .master, attrs := [.selector] }
/-- tblData: bits [31:0]. -/
def pipeTblData : Fld :=
  { base := 0x140108, lsb := 0, width := 32, acc := .rw }
/-- tblCommit: bits [0:0]. -/
def pipeTblCommit : Fld :=
  { base := 0x14010C, lsb := 0, width := 1, acc := .wo, attrs := [.command] }
/-- tblBusy: bits [2:2]. -/
def pipeTblBusy : Fld :=
  { base := 0x140110, lsb := 2, width := 1, acc := .rc }
/-- tblValid: bits [1:1]. -/
def pipeTblValid : Fld :=
  { base := 0x140110, lsb := 1, width := 1, acc := .ro, rst := [1] }
/-- tblError: bits [0:0]. -/
def pipeTblError : Fld :=
  { base := 0x140110, lsb := 0, width := 1, acc := .rc }
/-- refClear: bits [31:31]. -/
def pipeRefClear : Fld :=
  { base := 0x140280, lsb := 31, width := 1, acc := .wo, attrs := [.command],
    path := [.lit "pipe", .lit "ref", .lit "clear"] }
/-- refClearSlot: bits [4:0]. -/
def pipeRefClearSlot : Fld :=
  { base := 0x140280, lsb := 0, width := 5, acc := .wo, attrs := [.datum],
    path := [.lit "pipe", .lit "ref", .lit "clear"] }
/-- refHalf: bits [1:1]. -/
def pipeRefHalf : Fld :=
  { base := 0x140200, lsb := 1, width := 1, acc := .ro, n1 := 32, s1 := 0x4,
    path := [.lit "pipe", .lit "ref", .plain 0 0, .lit "half"] }
/-- refValid: bits [0:0]. -/
def pipeRefValid : Fld :=
  { base := 0x140200, lsb := 0, width := 1, acc := .ro, n1 := 32, s1 := 0x4,
    path := [.lit "pipe", .lit "ref", .plain 0 0, .lit "valid"] }
/-! 05_statistics_outputs.md R275 -/

/-- dramBase: bits [63:0] over the words from the first. -/
def statDramBase : Fld :=
  { base := 0x180000, lsb := 0, width := 64, acc := .ro,
    path := [.lit "stats", .lit "base"] }
/-- live: bits [4:0]. -/
def outLive : Fld :=
  { base := 0x1C0000, lsb := 0, width := 5, acc := .ro,
    path := [.lit "out", .lit "live"] }
/-- coefLane: bits [21:16]. -/
def outCoefLane : Fld :=
  { base := 0x2001C0010, lsb := 16, width := 6, acc := .rw, n1 := 96, s1 := 0x1000000, bank := .master, attrs := [.selector] }
/-- coefStream: bits [9:8]. -/
def outCoefStream : Fld :=
  { base := 0x2001C0010, lsb := 8, width := 2, acc := .rw, n1 := 96, s1 := 0x1000000, bank := .master, attrs := [.selector] }
/-- coefPhase: bits [5:0]. -/
def outCoefPhase : Fld :=
  { base := 0x2001C0010, lsb := 0, width := 6, acc := .rw, n1 := 96, s1 := 0x1000000, bank := .master, attrs := [.selector] }
/-- coefBusy: bits [0:0]. -/
def outCoefBusy : Fld :=
  { base := 0x1C0024, lsb := 0, width := 1, acc := .rc }
/-- coefTapHi: bits [27:16]. -/
def outCoefTapHi : Fld :=
  { base := 0x1C0014, lsb := 16, width := 12, acc := .rw, n1 := 4, s1 := 0x4 }
/-- coefTapLo: bits [11:0]. -/
def outCoefTapLo : Fld :=
  { base := 0x1C0014, lsb := 0, width := 12, acc := .rw, n1 := 4, s1 := 0x4 }
/-! 06_finding_decoding.md R313 -/

/-- state: bits [1:0]. -/
def anvState : Fld :=
  { base := 0x200000, lsb := 0, width := 2, acc := .ro, n1 := 8, s1 := 0x10000,
    path := [.lit "anvil", .plain 0 0, .lit "state"] }
/-- epoch: bits [31:0]. -/
def anvEpoch : Fld :=
  { base := 0x200004, lsb := 0, width := 32, acc := .ro, n1 := 8, s1 := 0x10000,
    path := [.lit "anvil", .plain 0 0, .lit "epoch"] }
/-- open: bits [8:0]. -/
def anvOpen : Fld :=
  { base := 0x200008, lsb := 0, width := 9, acc := .ro, n1 := 8, s1 := 0x10000,
    path := [.lit "anvil", .plain 0 0, .lit "open"] }
/-- coresBusy: bits [2:0]. -/
def anvCoresBusy : Fld :=
  { base := 0x20000C, lsb := 0, width := 3, acc := .ro, n1 := 8, s1 := 0x10000,
    path := [.lit "anvil", .plain 0 0, .lit "cores_busy"] }
/-- finderCycles: bits [63:0] over the words from the first. -/
def anvFinderCycles : Fld :=
  { base := 0x200010, lsb := 0, width := 64, acc := .rs, n1 := 8, s1 := 0x10000,
    path := [.lit "anvil", .plain 0 0, .lit "finder_cycles"] }
/-- sramCorr: bits [31:0]. -/
def anvSramCorr : Fld :=
  { base := 0x200018, lsb := 0, width := 32, acc := .rc, n1 := 8, s1 := 0x10000,
    path := [.lit "anvil", .plain 0 0, .lit "count", .lit "sram_corr"] }
/-- openLimit: bits [31:0]. -/
def anvOpenLimit : Fld :=
  { base := 0x20001C, lsb := 0, width := 32, acc := .rc, n1 := 8, s1 := 0x10000,
    path := [.lit "anvil", .plain 0 0, .lit "count", .lit "open_limit"] }
/-- decodes: bits [31:0]. -/
def anvDecodes : Fld :=
  { base := 0x200020, lsb := 0, width := 32, acc := .rc, n1 := 8, s1 := 0x10000,
    path := [.lit "anvil", .plain 0 0, .lit "count", .lit "decodes"] }
/-! 06_finding_decoding.md R314 -/

/-- maxLen: bits [31:24]. -/
def symMaxLen : Fld :=
  { base := 0x280000, lsb := 24, width := 8, acc := .rw, n1 := 8, s1 := 0x40, n2 := 16, s2 := 0x4, rst := [80, 64, 0, 64, 0, 64, 0], rst2 := true,
    path := [.lit "symset", .plain 0 0, .family 1, .lit "max_len"] }
/-- minLen: bits [23:16]. -/
def symMinLen : Fld :=
  { base := 0x280000, lsb := 16, width := 8, acc := .rw, n1 := 8, s1 := 0x40, n2 := 16, s2 := 0x4, rst := [1, 1, 0, 6, 0, 4, 0], rst2 := true,
    path := [.lit "symset", .plain 0 0, .family 1, .lit "min_len"] }
/-- opt: bits [7:0]. -/
def symOpt : Fld :=
  { base := 0x280000, lsb := 0, width := 8, acc := .rw, n1 := 8, s1 := 0x40, n2 := 16, s2 := 0x4,
    path := [.lit "symset", .plain 0 0, .family 1, .lit "opt"] }
/-- valid: bits [31:31]. -/
def gs1Valid : Fld :=
  { base := 0x280400, lsb := 31, width := 1, acc := .rw, n1 := 16, s1 := 0x4,
    path := [.lit "gs1", .lit "ai", .plain 0 0, .lit "valid"] }
/-- variable: bits [30:30]. -/
def gs1Variable : Fld :=
  { base := 0x280400, lsb := 30, width := 1, acc := .rw, n1 := 16, s1 := 0x4,
    path := [.lit "gs1", .lit "ai", .plain 0 0, .lit "variable"] }
/-- digits: bits [29:28]. -/
def gs1Digits : Fld :=
  { base := 0x280400, lsb := 28, width := 2, acc := .rw, n1 := 16, s1 := 0x4,
    path := [.lit "gs1", .lit "ai", .plain 0 0, .lit "digits"] }
/-- len: bits [27:20]. -/
def gs1Len : Fld :=
  { base := 0x280400, lsb := 20, width := 8, acc := .rw, n1 := 16, s1 := 0x4,
    path := [.lit "gs1", .lit "ai", .plain 0 0, .lit "len"] }
/-- ai: bits [13:0]. -/
def gs1Ai : Fld :=
  { base := 0x280400, lsb := 0, width := 14, acc := .rw, n1 := 16, s1 := 0x4,
    path := [.lit "gs1", .lit "ai", .plain 0 0, .lit "ai"] }
/-- tableVer: bits [15:0]. -/
def gs1TableVer : Fld :=
  { base := 0x280500, lsb := 0, width := 16, acc := .ro,
    path := [.lit "gs1", .lit "table_version"] }
/-! 07_slate_tag.md R351 -/

/-- en: bits [31:31]. -/
def latEn : Fld :=
  { base := 0x280600, lsb := 31, width := 1, acc := .rw, n1 := 4, s1 := 0x40,
    path := [.lit "slate", .lit "lat", .plain 0 0, .lit "enable"] }
/-- pol: bits [24:24]. -/
def latPol : Fld :=
  { base := 0x280600, lsb := 24, width := 1, acc := .rw, n1 := 4, s1 := 0x40,
    path := [.lit "slate", .lit "lat", .plain 0 0, .lit "polarity"] }
/-- chan: bits [20:16]. -/
def latChan : Fld :=
  { base := 0x280600, lsb := 16, width := 5, acc := .rw, n1 := 4, s1 := 0x40, attrs := [.naming],
    path := [.lit "slate", .lit "lat", .plain 0 0, .lit "chan"] }
/-- lane: bits [13:8]. -/
def latLane : Fld :=
  { base := 0x280600, lsb := 8, width := 6, acc := .rw, n1 := 4, s1 := 0x40, attrs := [.naming],
    path := [.lit "slate", .lit "lat", .plain 0 0, .lit "lane"] }
/-- clear: bits [0:0]. -/
def latClear : Fld :=
  { base := 0x280600, lsb := 0, width := 1, acc := .wo, n1 := 4, s1 := 0x40, attrs := [.command],
    path := [.lit "slate", .lit "lat", .plain 0 0, .lit "clear"] }
/-- thr: bits [31:0]. -/
def latThr : Fld :=
  { base := 0x280604, lsb := 0, width := 32, acc := .rw, n1 := 4, s1 := 0x40, attrs := [.signed],
    path := [.lit "slate", .lit "lat", .plain 0 0, .lit "thr"] }
/-- hyst: bits [30:0]. -/
def latHyst : Fld :=
  { base := 0x280608, lsb := 0, width := 31, acc := .rw, n1 := 4, s1 := 0x40,
    path := [.lit "slate", .lit "lat", .plain 0 0, .lit "hyst"] }
/-- window: bits [30:0]. -/
def latWindow : Fld :=
  { base := 0x28060C, lsb := 0, width := 31, acc := .rw, n1 := 4, s1 := 0x40, rst := [25000000],
    path := [.lit "slate", .lit "lat", .plain 0 0, .lit "window"] }
/-- offset: bits [31:0]. -/
def latOffset : Fld :=
  { base := 0x280610, lsb := 0, width := 32, acc := .rw, n1 := 4, s1 := 0x40, attrs := [.signed],
    path := [.lit "slate", .lit "lat", .plain 0 0, .lit "offset"] }
/-- last: bits [31:0]. -/
def latLast : Fld :=
  { base := 0x280614, lsb := 0, width := 32, acc := .ro, n1 := 4, s1 := 0x40, attrs := [.signed],
    path := [.lit "slate", .lit "lat", .plain 0 0, .lit "last"] }
/-- lastFc: bits [63:0] over the words from the first. -/
def latLastFc : Fld :=
  { base := 0x280618, lsb := 0, width := 64, acc := .rs, n1 := 4, s1 := 0x40,
    path := [.lit "slate", .lit "lat", .plain 0 0, .lit "last_fc"] }
/-- min: bits [31:0]. -/
def latMin : Fld :=
  { base := 0x280620, lsb := 0, width := 32, acc := .ro, n1 := 4, s1 := 0x40, attrs := [.signed], rst := [2147483647],
    path := [.lit "slate", .lit "lat", .plain 0 0, .lit "min"] }
/-- max: bits [31:0]. -/
def latMax : Fld :=
  { base := 0x280624, lsb := 0, width := 32, acc := .ro, n1 := 4, s1 := 0x40, attrs := [.signed], rst := [2147483648],
    path := [.lit "slate", .lit "lat", .plain 0 0, .lit "max"] }
/-- sum: bits [63:0] over the words from the first. -/
def latSum : Fld :=
  { base := 0x280628, lsb := 0, width := 64, acc := .rs, n1 := 4, s1 := 0x40, attrs := [.signed],
    path := [.lit "slate", .lit "lat", .plain 0 0, .lit "sum"] }
/-- pairs: bits [31:0]. -/
def latPairs : Fld :=
  { base := 0x280630, lsb := 0, width := 32, acc := .ro, n1 := 4, s1 := 0x40,
    path := [.lit "slate", .lit "lat", .plain 0 0, .lit "pairs"] }
/-- unpairedEdge: bits [31:0]. -/
def latUnpairedEdge : Fld :=
  { base := 0x280634, lsb := 0, width := 32, acc := .rc, n1 := 4, s1 := 0x40,
    path := [.lit "slate", .lit "lat", .plain 0 0, .lit "unpaired_edge"] }
/-- unpairedMark: bits [31:0]. -/
def latUnpairedMark : Fld :=
  { base := 0x280638, lsb := 0, width := 32, acc := .rc, n1 := 4, s1 := 0x40,
    path := [.lit "slate", .lit "lat", .plain 0 0, .lit "unpaired_mark"] }

end Sys2Proof.Machine.Rg
end

