-- ==== Sys2Proof/Machine/RegMapEngine.lean ====
section
/-! DEFINITION. The register fields of the Engine blocks, from the register tables of the spec: one definition a field, named
by its block and its name in the table. -/
namespace Sys2Proof.Machine.Rg

/-! 00_scope.md Table Scope.6 -/

/-- part: bits [31:16]. -/
def hearthPart : Fld :=
  { base := 0x0, lsb := 16, width := 16, acc := .ro, rst := [25664],
    path := [.lit "engine", .lit "id", .lit "part"] }
/-- vendor: bits [15:0]. -/
def hearthVendor : Fld :=
  { base := 0x0, lsb := 0, width := 16, acc := .ro, rst := [2653],
    path := [.lit "engine", .lit "id", .lit "vendor"] }
/-! 00_scope.md Table Scope.7 -/

/-- slot: bits [8:8]. -/
def hearthSlot : Fld :=
  { base := 0x4, lsb := 8, width := 1, acc := .ro,
    path := [.lit "engine", .lit "fw", .lit "slot"] }
/-- stepMajor: bits [7:4]. -/
def hearthStepMajor : Fld :=
  { base := 0x4, lsb := 4, width := 4, acc := .ro, rst := [1],
    path := [.lit "engine", .lit "step"] }
/-- stepMinor: bits [3:0]. -/
def hearthStepMinor : Fld :=
  { base := 0x4, lsb := 0, width := 4, acc := .ro,
    path := [.lit "engine", .lit "step"] }
/-! 15_tenants_access.md R669 -/

/-- timebase: bits [63:0] over the words from the first. -/
def hearthTimebase : Fld :=
  { base := 0x8, lsb := 0, width := 64, acc := .rs,
    path := [.lit "time", .lit "now"] }
/-- snapStale: bits [31:31]. -/
def hearthSnapStale : Fld :=
  { base := 0x200000010, lsb := 31, width := 1, acc := .ro, n1 := 96, s1 := 0x1000000, bank := .master }
/-- snapValid: bits [30:30]. -/
def hearthSnapValid : Fld :=
  { base := 0x200000010, lsb := 30, width := 1, acc := .ro, n1 := 96, s1 := 0x1000000, bank := .master }
/-- snapTarget: bits [23:16]. -/
def hearthSnapTarget : Fld :=
  { base := 0x200000010, lsb := 16, width := 8, acc := .ro, n1 := 96, s1 := 0x1000000, bank := .master }
/-- snapWord: bits [15:0]. -/
def hearthSnapWord : Fld :=
  { base := 0x200000010, lsb := 0, width := 16, acc := .ro, n1 := 96, s1 := 0x1000000, bank := .master }
/-- bound: bits [31:31]. -/
def mbindBound : Fld :=
  { base := 0x200, lsb := 31, width := 1, acc := .ro, n1 := 96, s1 := 0x4, rst := [1, 1, 1, 0],
    path := [.lit "master", .obj 'M' 2 0, .lit "bound"] }
/-- tenant: bits [21:16]. -/
def mbindTenant : Fld :=
  { base := 0x200, lsb := 16, width := 6, acc := .rw, n1 := 96, s1 := 0x4, attrs := [.t00],
    path := [.lit "master", .obj 'M' 2 0, .lit "tenant"] }
/-- source: bits [9:8]. -/
def mbindSource : Fld :=
  { base := 0x200, lsb := 8, width := 2, acc := .ro, n1 := 96, s1 := 0x4, rst := [0, 0, 1, 0],
    path := [.lit "master", .obj 'M' 2 0, .lit "source"] }
/-- unbind: bits [0:0]. -/
def mbindUnbind : Fld :=
  { base := 0x200, lsb := 0, width := 1, acc := .wo, n1 := 96, s1 := 0x4, attrs := [.command, .t00],
    path := [.lit "master", .obj 'M' 2 0, .lit "unbind"] }
/-! 16_power.md R709 -/

/-- en: bits [25:0]. -/
def wakeEn : Fld :=
  { base := 0x40, lsb := 0, width := 26, acc := .rw, rst := [15360],
    path := [.lit "wake", .lit "enable"] }
/-- last: bits [7:0]. -/
def wakeLast : Fld :=
  { base := 0x44, lsb := 0, width := 8, acc := .ro,
    path := [.lit "wake", .lit "last"] }
/-- stamp: bits [63:0] over the words from the first. -/
def wakeStamp : Fld :=
  { base := 0x48, lsb := 0, width := 64, acc := .rs,
    path := [.lit "wake", .lit "stamp"] }
/-- count: bits [31:0]. -/
def wakeCount : Fld :=
  { base := 0x50, lsb := 0, width := 32, acc := .ro,
    path := [.lit "wake", .lit "count"] }
/-- hold: bits [15:0]. -/
def wakeHold : Fld :=
  { base := 0x54, lsb := 0, width := 16, acc := .rw, rst := [1000],
    path := [.lit "wake", .lit "hold"] }
/-- inPol: bits [16:16]. -/
def wakeInPol : Fld :=
  { base := 0x58, lsb := 16, width := 1, acc := .rw,
    path := [.lit "wake", .lit "in", .lit "polarity"] }
/-- udp: bits [15:0]. -/
def wakeUdp : Fld :=
  { base := 0x58, lsb := 0, width := 16, acc := .rw, rst := [5442],
    path := [.lit "wake", .lit "udp"] }
/-- code: bits [31:0]. -/
def wakeCode : Fld :=
  { base := 0x5C, lsb := 0, width := 32, acc := .wo, attrs := [.datum],
    path := [.lit "wake", .lit "code"] }
/-- savePage: bits [1:0]. -/
def wakeSavePage : Fld :=
  { base := 0x60, lsb := 0, width := 2, acc := .rw }
/-- bad: bits [31:0]. -/
def wakeBad : Fld :=
  { base := 0x64, lsb := 0, width := 32, acc := .rc,
    path := [.lit "wake", .lit "count", .lit "bad"] }
/-- trip: bits [0:0]. -/
def wakeTrip : Fld :=
  { base := 0x70, lsb := 0, width := 1, acc := .w1c,
    path := [.lit "thermal", .lit "trip"] }
/-- mask: bits [5:0]. -/
def wakeMask : Fld :=
  { base := 0x100, lsb := 0, width := 6, acc := .rw, n1 := 26, s1 := 0x4, rst := [63],
    path := [.lit "wake", .plain 0 0, .lit "mask"] }
/-! 17_events_faults.md Table Events.7 -/

/-- start: bits [0:0]. -/
def fwStart : Fld :=
  { base := 0x80, lsb := 0, width := 1, acc := .wo, attrs := [.command, .t00],
    path := [.lit "engine", .lit "fw", .lit "update"] }
/-- image: bits [63:0] over the words from the first. -/
def fwImage : Fld :=
  { base := 0x84, lsb := 0, width := 64, acc := .rw, attrs := [.t00],
    path := [.lit "engine", .lit "fw", .lit "image"] }
/-- result: bits [9:8]. -/
def fwResult : Fld :=
  { base := 0x8C, lsb := 8, width := 2, acc := .ro,
    path := [.lit "engine", .lit "fw", .lit "result"] }
/-- state: bits [1:0]. -/
def fwState : Fld :=
  { base := 0x8C, lsb := 0, width := 2, acc := .ro,
    path := [.lit "engine", .lit "fw", .lit "state"] }
/-- ue: bits [31:0]. -/
def dramUe : Fld :=
  { base := 0x90, lsb := 0, width := 32, acc := .rc,
    path := [.lit "dram", .lit "count", .lit "ue"] }
/-- ce: bits [31:0]. -/
def dramCe : Fld :=
  { base := 0x94, lsb := 0, width := 32, acc := .rc,
    path := [.lit "dram", .lit "count", .lit "ce"] }
/-- retired: bits [19:0]. -/
def dramRetired : Fld :=
  { base := 0x98, lsb := 0, width := 20, acc := .ro,
    path := [.lit "dram", .lit "retired"] }
/-! 18_startup_test.md Table Startup.9 -/

/-- ready: bits [31:31]. -/
def bootReady : Fld :=
  { base := 0xA0, lsb := 31, width := 1, acc := .ro,
    path := [.lit "engine", .lit "boot", .lit "ready"] }
/-- fatal: bits [30:30]. -/
def bootFatal : Fld :=
  { base := 0xA0, lsb := 30, width := 1, acc := .ro,
    path := [.lit "engine", .lit "boot", .lit "fatal"] }
/-- degraded: bits [29:29]. -/
def bootDegraded : Fld :=
  { base := 0xA0, lsb := 29, width := 1, acc := .ro,
    path := [.lit "engine", .lit "boot", .lit "degraded"] }
/-- phase: bits [27:24]. -/
def bootPhase : Fld :=
  { base := 0xA0, lsb := 24, width := 4, acc := .ro,
    path := [.lit "engine", .lit "boot", .lit "phase"] }
/-- mode: bits [21:20]. -/
def bootMode : Fld :=
  { base := 0xA0, lsb := 20, width := 2, acc := .ro,
    path := [.lit "engine", .lit "boot", .lit "mode"] }
/-- causeB: bits [19:16]. -/
def bootCauseB : Fld :=
  { base := 0xA0, lsb := 16, width := 4, acc := .ro,
    path := [.lit "engine", .lit "boot", .lit "cause_b"] }
/-- causeA: bits [15:12]. -/
def bootCauseA : Fld :=
  { base := 0xA0, lsb := 12, width := 4, acc := .ro,
    path := [.lit "engine", .lit "boot", .lit "cause_a"] }
/-- fallback: bits [11:11]. -/
def bootFallback : Fld :=
  { base := 0xA0, lsb := 11, width := 1, acc := .ro,
    path := [.lit "engine", .lit "boot", .lit "fallback"] }
/-- cause: bits [10:8]. -/
def bootCause : Fld :=
  { base := 0xA0, lsb := 8, width := 3, acc := .ro,
    path := [.lit "engine", .lit "boot", .lit "reset_cause"] }
/-- bistFail: bits [5:0]. -/
def bootBistFail : Fld :=
  { base := 0xA0, lsb := 0, width := 6, acc := .ro,
    path := [.lit "engine", .lit "boot", .lit "bist_fail"] }
/-- timeUs: bits [31:0]. -/
def bootTimeUs : Fld :=
  { base := 0xA4, lsb := 0, width := 32, acc := .ro,
    path := [.lit "engine", .lit "boot", .lit "time_us"] }
/-- count: bits [31:0]. -/
def bootCount : Fld :=
  { base := 0xA8, lsb := 0, width := 32, acc := .ro,
    path := [.lit "engine", .lit "boot", .lit "count"] }
/-- version: bits [31:0]. -/
def bootVersion : Fld :=
  { base := 0xAC, lsb := 0, width := 32, acc := .ro,
    path := [.lit "engine", .lit "fw", .lit "version"] }
/-- pushGo: bits [0:0]. -/
def bootPushGo : Fld :=
  { base := 0xB0, lsb := 0, width := 1, acc := .wo, attrs := [.command] }
/-- pushCause: bits [11:8]. -/
def bootPushCause : Fld :=
  { base := 0xB0, lsb := 8, width := 4, acc := .ro }
/-- hold: bits [15:0]. -/
def bootHold : Fld :=
  { base := 0xB4, lsb := 0, width := 16, acc := .rw, rst := [1000],
    path := [.lit "engine", .lit "boot", .lit "hold"] }
/-- minSvn: bits [29:24]. -/
def bootMinSvn : Fld :=
  { base := 0xB8, lsb := 24, width := 6, acc := .ro,
    path := [.lit "engine", .lit "fuse", .lit "min_svn"] }
/-- revoked: bits [1:0]. -/
def bootRevoked : Fld :=
  { base := 0xB8, lsb := 0, width := 2, acc := .ro,
    path := [.lit "engine", .lit "fuse", .lit "revoked"] }
/-- burnSvn: bits [31:31]. -/
def bootBurnSvn : Fld :=
  { base := 0xBC, lsb := 31, width := 1, acc := .wo, attrs := [.command, .t00] }
/-- revoke: bits [29:28]. -/
def bootRevoke : Fld :=
  { base := 0xBC, lsb := 28, width := 2, acc := .wo, attrs := [.command, .t00] }
/-- fuseVal: bits [5:0]. -/
def bootFuseVal : Fld :=
  { base := 0xBC, lsb := 0, width := 6, acc := .wo, attrs := [.datum, .t00] }
/-- flashAddr: bits [31:0]. -/
def bootFlashAddr : Fld :=
  { base := 0xC0, lsb := 0, width := 32, acc := .rw, attrs := [.t00] }
/-- flashData: bits [31:0]. -/
def bootFlashData : Fld :=
  { base := 0xC4, lsb := 0, width := 32, acc := .rw, attrs := [.t00] }
/-- flashOp: bits [2:0]. -/
def bootFlashOp : Fld :=
  { base := 0xC8, lsb := 0, width := 3, acc := .wo, attrs := [.command, .t00] }
/-- flashBusy: bits [8:8]. -/
def bootFlashBusy : Fld :=
  { base := 0xC8, lsb := 8, width := 1, acc := .ro }
/-- flashError: bits [9:9]. -/
def bootFlashError : Fld :=
  { base := 0xC8, lsb := 9, width := 1, acc := .rc }
/-! 19_electrical_package.md Table Electrical.16 -/

/-- vioHOk: bits [31:31]. -/
def supplyVioHOk : Fld :=
  { base := 0xD0, lsb := 31, width := 1, acc := .ro, rst := [1],
    path := [.lit "power", .lit "vio", .lit "h", .lit "ok"] }
/-- vioPOk: bits [30:30]. -/
def supplyVioPOk : Fld :=
  { base := 0xD0, lsb := 30, width := 1, acc := .ro, rst := [1],
    path := [.lit "power", .lit "vio", .lit "p", .lit "ok"] }
/-- vioH3v3: bits [29:29]. -/
def supplyVioH3v3 : Fld :=
  { base := 0xD0, lsb := 29, width := 1, acc := .ro,
    path := [.lit "power", .lit "vio", .lit "h", .lit "level"] }
/-- vioP3v3: bits [28:28]. -/
def supplyVioP3v3 : Fld :=
  { base := 0xD0, lsb := 28, width := 1, acc := .ro,
    path := [.lit "power", .lit "vio", .lit "p", .lit "level"] }
/-- vinMv: bits [15:0]. -/
def supplyVinMv : Fld :=
  { base := 0xD0, lsb := 0, width := 16, acc := .ro,
    path := [.lit "power", .lit "vin"] }
/-! 01_bell_timetable.md Tables Bell.6 to Bell.11 -/

/-- reserve: bits [22:16]. -/
def bellReserve : Fld :=
  { base := 0x10000, lsb := 16, width := 7, acc := .rw, rst := [10],
    path := [.lit "bell", .lit "reserve"] }
/-- admitPause: bits [8:8]. -/
def bellAdmitPause : Fld :=
  { base := 0x10000, lsb := 8, width := 1, acc := .rw,
    path := [.lit "door", .lit "pause"] }
/-- inEdge: bits [5:5]. -/
def bellInEdge : Fld :=
  { base := 0x10000, lsb := 5, width := 1, acc := .rw,
    path := [.lit "bell", .lit "in", .lit "edge"] }
/-- outPol: bits [4:4]. -/
def bellOutPol : Fld :=
  { base := 0x10000, lsb := 4, width := 1, acc := .rw,
    path := [.lit "bell", .lit "out", .lit "polarity"] }
/-- outEn: bits [3:3]. -/
def bellOutEn : Fld :=
  { base := 0x10000, lsb := 3, width := 1, acc := .rw,
    path := [.lit "bell", .lit "out", .lit "enable"] }
/-- src: bits [1:0]. -/
def bellSrc : Fld :=
  { base := 0x10000, lsb := 0, width := 2, acc := .rw,
    path := [.lit "bell", .lit "source"] }
/-- period: bits [22:0]. -/
def bellPeriod : Fld :=
  { base := 0x10004, lsb := 0, width := 23, acc := .rw, rst := [125000],
    path := [.lit "bell", .lit "period"] }
/-- periodAct: bits [22:0]. -/
def bellPeriodAct : Fld :=
  { base := 0x10008, lsb := 0, width := 23, acc := .ro, rst := [125000],
    path := [.lit "bell", .lit "period", .lit "active"] }
/-- outAdvance: bits [25:16]. -/
def bellOutAdvance : Fld :=
  { base := 0x1000C, lsb := 16, width := 10, acc := .rw,
    path := [.lit "bell", .lit "out", .lit "advance"] }
/-- outWidth: bits [9:0]. -/
def bellOutWidth : Fld :=
  { base := 0x1000C, lsb := 0, width := 10, acc := .rw, rst := [250],
    path := [.lit "bell", .lit "out", .lit "width"] }
/-- ptpPhase: bits [31:0]. -/
def bellPtpPhase : Fld :=
  { base := 0x10010, lsb := 0, width := 32, acc := .rw,
    path := [.lit "bell", .lit "ptp", .lit "phase"] }
/-- count: bits [63:0] over the words from the first. -/
def bellCount : Fld :=
  { base := 0x10018, lsb := 0, width := 64, acc := .rs,
    path := [.lit "bell", .lit "count"] }
/-- stamp: bits [63:0] over the words from the first. -/
def bellStamp : Fld :=
  { base := 0x10020, lsb := 0, width := 64, acc := .rs,
    path := [.lit "bell", .lit "stamp"] }
/-- early: bits [31:16]. -/
def bellEarly : Fld :=
  { base := 0x10028, lsb := 16, width := 16, acc := .rc,
    path := [.lit "bell", .lit "status", .lit "early"] }
/-- pendTemper: bits [7:7]. -/
def bellPendTemper : Fld :=
  { base := 0x10028, lsb := 7, width := 1, acc := .ro,
    path := [.lit "bell", .lit "status", .lit "pend_temper"] }
/-- pendPeriod: bits [6:6]. -/
def bellPendPeriod : Fld :=
  { base := 0x10028, lsb := 6, width := 1, acc := .ro,
    path := [.lit "bell", .lit "status", .lit "pend_period"] }
/-- paused: bits [5:5]. -/
def bellPaused : Fld :=
  { base := 0x10028, lsb := 5, width := 1, acc := .ro,
    path := [.lit "bell", .lit "status", .lit "paused"] }
/-- rationed: bits [4:4]. -/
def bellRationed : Fld :=
  { base := 0x10028, lsb := 4, width := 1, acc := .ro,
    path := [.lit "bell", .lit "status", .lit "rationed"] }
/-- holdover: bits [3:3]. -/
def bellHoldover : Fld :=
  { base := 0x10028, lsb := 3, width := 1, acc := .ro,
    path := [.lit "bell", .lit "status", .lit "holdover"] }
/-- srcAct: bits [1:0]. -/
def bellSrcAct : Fld :=
  { base := 0x10028, lsb := 0, width := 2, acc := .ro,
    path := [.lit "bell", .lit "status", .lit "source"] }
/-- ttScale: bits [31:0]. -/
def bellTtScale : Fld :=
  { base := 0x10280, lsb := 0, width := 32, acc := .ro, rst := [65536],
    path := [.lit "timetable", .lit "scale"] }
/-- ttBind: bits [31:0]. -/
def bellTtBind : Fld :=
  { base := 0x10284, lsb := 0, width := 32, acc := .ro,
    path := [.lit "timetable", .lit "bind"] }
/-! 01_bell_timetable.md Table Bell.11 -/

/-- cap: bits [31:0]. -/
def ttCap : Fld :=
  { base := 0x10100, lsb := 0, width := 32, acc := .ro, n1 := 20, s1 := 0x4, rst := [360000, 450000, 450000, 450000, 450000, 450000, 450000, 450000, 450000, 14400000, 921, 112500, 112500, 112500, 112500, 112500, 112500, 112500, 112500, 112500],
    path := [.lit "timetable", .lit "unit", .plain 0 0, .lit "cap"] }
/-- now: bits [31:0]. -/
def ttNow : Fld :=
  { base := 0x10180, lsb := 0, width := 32, acc := .ro, n1 := 20, s1 := 0x4,
    path := [.lit "timetable", .lit "unit", .plain 0 0, .lit "now"] }
/-- peak: bits [31:0]. -/
def ttPeak : Fld :=
  { base := 0x10200, lsb := 0, width := 32, acc := .ro, n1 := 20, s1 := 0x4,
    path := [.lit "timetable", .lit "unit", .plain 0 0, .lit "peak"] }
/-! 02_accepted_work.md R123 Table Accepted.7 -/

/-- forceCkpt: bits [31:31]. -/
def jnlForceCkpt : Fld :=
  { base := 0x20000, lsb := 31, width := 1, acc := .wo, attrs := [.command],
    path := [.lit "journal", .lit "checkpoint", .lit "force"] }
/-- ckptPeriods: bits [15:0]. -/
def jnlCkptPeriods : Fld :=
  { base := 0x20000, lsb := 0, width := 16, acc := .rw, rst := [4096],
    path := [.lit "journal", .lit "checkpoint", .lit "periods"] }
/-- fill: bits [23:16]. -/
def jnlFill : Fld :=
  { base := 0x20004, lsb := 16, width := 8, acc := .ro,
    path := [.lit "journal", .lit "fill"] }
/-- bootKind: bits [10:8]. -/
def jnlBootKind : Fld :=
  { base := 0x20004, lsb := 8, width := 3, acc := .ro,
    path := [.lit "journal", .lit "boot_kind"] }
/-- torn: bits [7:7]. -/
def jnlTorn : Fld :=
  { base := 0x20004, lsb := 7, width := 1, acc := .ro,
    path := [.lit "journal", .lit "torn"] }
/-- replay: bits [6:6]. -/
def jnlReplay : Fld :=
  { base := 0x20004, lsb := 6, width := 1, acc := .ro, rst := [1],
    path := [.lit "journal", .lit "replay"] }
/-- ckptSlot: bits [5:5]. -/
def jnlCkptSlot : Fld :=
  { base := 0x20004, lsb := 5, width := 1, acc := .ro,
    path := [.lit "journal", .lit "checkpoint", .lit "slot"] }
/-- ckptBusy: bits [4:4]. -/
def jnlCkptBusy : Fld :=
  { base := 0x20004, lsb := 4, width := 1, acc := .ro,
    path := [.lit "journal", .lit "checkpoint", .lit "busy"] }
/-- serial: bits [63:0] over the words from the first. -/
def jnlSerial : Fld :=
  { base := 0x20008, lsb := 0, width := 64, acc := .rs,
    path := [.lit "journal", .lit "serial"] }
/-- staged: bits [11:0]. -/
def jnlStaged : Fld :=
  { base := 0x20010, lsb := 0, width := 12, acc := .ro,
    path := [.lit "journal", .lit "staged"] }
/-- doorOrdinal: bits [63:0] over the words from the first. -/
def jnlDoorOrdinal : Fld :=
  { base := 0x20018, lsb := 0, width := 64, acc := .rs,
    path := [.lit "door", .lit "ordinal"] }
/-- pfEn: bits [8:8]. -/
def jnlPfEn : Fld :=
  { base := 0x20020, lsb := 8, width := 1, acc := .rw, rst := [1],
    path := [.lit "power", .lit "fail", .lit "enable"] }
/-- pfThresh: bits [5:0]. -/
def jnlPfThresh : Fld :=
  { base := 0x20020, lsb := 0, width := 6, acc := .rw, rst := [28],
    path := [.lit "power", .lit "fail", .lit "threshold"] }
/-- pfArmed: bits [31:31]. -/
def jnlPfArmed : Fld :=
  { base := 0x20024, lsb := 31, width := 1, acc := .ro,
    path := [.lit "power", .lit "fail", .lit "armed"] }
/-- pfFlushUs: bits [15:0]. -/
def jnlPfFlushUs : Fld :=
  { base := 0x20024, lsb := 0, width := 16, acc := .ro,
    path := [.lit "power", .lit "fail", .lit "flush_us"] }
/-- gbOpen: bits [10:0]. -/
def jnlGbOpen : Fld :=
  { base := 0x20028, lsb := 0, width := 11, acc := .ro,
    path := [.lit "gradebook", .lit "open"] }
/-- gbDataLost: bits [31:0]. -/
def jnlGbDataLost : Fld :=
  { base := 0x20030, lsb := 0, width := 32, acc := .rc,
    path := [.lit "gradebook", .lit "data_lost"] }
/-- gbDups: bits [31:0]. -/
def jnlGbDups : Fld :=
  { base := 0x20034, lsb := 0, width := 32, acc := .rc,
    path := [.lit "gradebook", .lit "dups"] }
/-- gbVoided: bits [31:0]. -/
def jnlGbVoided : Fld :=
  { base := 0x20038, lsb := 0, width := 32, acc := .rc,
    path := [.lit "gradebook", .lit "voided"] }
/-- gbSel: bits [11:0]. -/
def jnlGbSel : Fld :=
  { base := 0x200020040, lsb := 0, width := 12, acc := .rw, n1 := 96, s1 := 0x1000000, bank := .master, attrs := [.selector] }
/-! 02_accepted_work.md Table Accepted.8 -/

/-- nextSeq: bits [63:0] over the words from the first. -/
def gbNextSeq : Fld :=
  { base := 0x100000048, lsb := 0, width := 64, acc := .rs, n1 := 4096, s1 := 0x80, bank := .gbWin, rst := [1],
    path := [.lit "gradebook", .obj 'C' 4 0, .lit "next_seq"] }
/-- visibleSeq: bits [63:0] over the words from the first. -/
def gbVisibleSeq : Fld :=
  { base := 0x100000050, lsb := 0, width := 64, acc := .rs, n1 := 4096, s1 := 0x80, bank := .gbWin,
    path := [.lit "gradebook", .obj 'C' 4 0, .lit "visible_seq"] }
/-- held: bits [19:0]. -/
def gbHeld : Fld :=
  { base := 0x100000058, lsb := 0, width := 20, acc := .ro, n1 := 4096, s1 := 0x80, bank := .gbWin,
    path := [.lit "gradebook", .obj 'C' 4 0, .lit "held"] }
/-- blocker: bits [63:0] over the words from the first. -/
def gbBlocker : Fld :=
  { base := 0x100000060, lsb := 0, width := 64, acc := .rs, n1 := 4096, s1 := 0x80, bank := .gbWin,
    path := [.lit "gradebook", .obj 'C' 4 0, .lit "blocker"] }
/-- state: bits [1:0]. -/
def gbState : Fld :=
  { base := 0x100000068, lsb := 0, width := 2, acc := .ro, n1 := 4096, s1 := 0x80, bank := .gbWin,
    path := [.lit "gradebook", .obj 'C' 4 0, .lit "state"] }
/-! 16_power.md R708 -/

/-- voteUp: bits [5:0]. -/
def pwVoteUp : Fld :=
  { base := 0x400050000, lsb := 0, width := 6, acc := .w1s, n1 := 64, s1 := 0x1000000, bank := .tenant,
    path := [.lit "power", .lit "vote"] }
/-- voteDown: bits [5:0]. -/
def pwVoteDown : Fld :=
  { base := 0x400050004, lsb := 0, width := 6, acc := .w1c, n1 := 64, s1 := 0x1000000, bank := .tenant,
    path := [.lit "power", .lit "vote"] }
/-- temperReq: bits [3:0]. -/
def pwTemperReq : Fld :=
  { base := 0x400050008, lsb := 0, width := 4, acc := .rw, n1 := 64, s1 := 0x1000000, bank := .tenant, rst := [15],
    path := [.lit "power", .lit "temper", .lit "request"] }
/-- ramping: bits [31:31]. -/
def pwRamping : Fld :=
  { base := 0x5000C, lsb := 31, width := 1, acc := .ro,
    path := [.lit "power", .lit "temper", .lit "ramping"] }
/-- cap: bits [10:8]. -/
def pwCap : Fld :=
  { base := 0x5000C, lsb := 8, width := 3, acc := .ro, rst := [5],
    path := [.lit "power", .lit "temper", .lit "cap"] }
/-- target: bits [6:4]. -/
def pwTarget : Fld :=
  { base := 0x5000C, lsb := 4, width := 3, acc := .ro, rst := [4],
    path := [.lit "power", .lit "temper", .lit "target"] }
/-- active: bits [2:0]. -/
def pwActive : Fld :=
  { base := 0x5000C, lsb := 0, width := 3, acc := .ro, rst := [4],
    path := [.lit "power", .lit "temper", .lit "active"] }
/-- temperMax: bits [2:0]. -/
def pwTemperMax : Fld :=
  { base := 0x50010, lsb := 0, width := 3, acc := .rw, attrs := [.t00], rst := [5],
    path := [.lit "power", .lit "temper", .lit "max"] }
/-- vcore: bits [11:0]. -/
def pwVcore : Fld :=
  { base := 0x50014, lsb := 0, width := 12, acc := .ro, rst := [850],
    path := [.lit "power", .lit "vcore"] }
/-- padHeld: bits [4:0]. -/
def pwPadHeld : Fld :=
  { base := 0x50020, lsb := 0, width := 5, acc := .ro,
    path := [.lit "power", .lit "pads", .lit "held"] }
/-- padRelease: bits [4:0]. -/
def pwPadRelease : Fld :=
  { base := 0x50024, lsb := 0, width := 5, acc := .wo, attrs := [.command],
    path := [.lit "power", .lit "pads", .lit "release"] }
/-- state: bits [2:0]. -/
def rollState : Fld :=
  { base := 0x50100, lsb := 0, width := 3, acc := .ro, n1 := 6, s1 := 0x20,
    path := [.lit "power", .lit "domain", .domain 0, .lit "state"] }
/-- votes: bits [63:0] over the words from the first. -/
def rollVotes : Fld :=
  { base := 0x50104, lsb := 0, width := 64, acc := .ro, n1 := 6, s1 := 0x20, rst := [1],
    path := [.lit "power", .lit "domain", .domain 0, .lit "votes"] }
/-- internal: bits [15:0]. -/
def rollInternal : Fld :=
  { base := 0x5010C, lsb := 0, width := 16, acc := .ro, n1 := 6, s1 := 0x20, rst := [1],
    path := [.lit "power", .lit "domain", .domain 0, .lit "internal"] }
/-- holding: bits [10:0]. -/
def rollHolding : Fld :=
  { base := 0x50110, lsb := 0, width := 11, acc := .ro, n1 := 6, s1 := 0x20,
    path := [.lit "power", .lit "domain", .domain 0, .lit "holding"] }
/-- downAccess: bits [31:0]. -/
def rollDownAccess : Fld :=
  { base := 0x50114, lsb := 0, width := 32, acc := .rc, n1 := 6, s1 := 0x20,
    path := [.lit "power", .lit "domain", .domain 0, .lit "count", .lit "down_access"] }
/-- saveValid: bits [31:31]. -/
def rollSaveValid : Fld :=
  { base := 0x50118, lsb := 31, width := 1, acc := .ro, n1 := 6, s1 := 0x20,
    path := [.lit "power", .lit "domain", .domain 0, .lit "save", .lit "valid"] }
/-- restoreOk: bits [30:30]. -/
def rollRestoreOk : Fld :=
  { base := 0x50118, lsb := 30, width := 1, acc := .ro, n1 := 6, s1 := 0x20, rst := [1],
    path := [.lit "power", .lit "domain", .domain 0, .lit "save", .lit "restore_ok"] }
/-- saveLen: bits [15:0]. -/
def rollSaveLen : Fld :=
  { base := 0x50118, lsb := 0, width := 16, acc := .ro, n1 := 6, s1 := 0x20,
    path := [.lit "power", .lit "domain", .domain 0, .lit "save", .lit "len"] }
/-- temperReqT: bits [3:0]. -/
def pwTemperReqT : Fld :=
  { base := 0x50200, lsb := 0, width := 4, acc := .ro, n1 := 64, s1 := 0x4, rst := [4, 15],
    path := [.lit "power", .lit "temper", .obj 'T' 2 0] }
/-! 16_power.md R710 -/

/-- state: bits [1:0]. -/
def th2State : Fld :=
  { base := 0x60000, lsb := 0, width := 2, acc := .ro,
    path := [.lit "thermal", .lit "state"] }
/-- dieTemp: bits [31:0]. -/
def th2DieTemp : Fld :=
  { base := 0x60004, lsb := 0, width := 32, acc := .ro, attrs := [.signed],
    path := [.lit "thermal", .lit "die"] }
/-- sensorFault: bits [5:0]. -/
def th2SensorFault : Fld :=
  { base := 0x60028, lsb := 0, width := 6, acc := .ro,
    path := [.lit "thermal", .lit "sensor_fault"] }
/-- thrWarm: bits [31:0]. -/
def th2ThrWarm : Fld :=
  { base := 0x60030, lsb := 0, width := 32, acc := .rw, attrs := [.signed], rst := [9500],
    path := [.lit "thermal", .lit "thr", .lit "warm"] }
/-- thrHot: bits [31:0]. -/
def th2ThrHot : Fld :=
  { base := 0x60034, lsb := 0, width := 32, acc := .rw, attrs := [.signed], rst := [10300],
    path := [.lit "thermal", .lit "thr", .lit "hot"] }
/-- thrCrit: bits [31:0]. -/
def th2ThrCrit : Fld :=
  { base := 0x60038, lsb := 0, width := 32, acc := .rw, attrs := [.signed], rst := [11000],
    path := [.lit "thermal", .lit "thr", .lit "crit"] }
/-- hyst: bits [31:16]. -/
def th2Hyst : Fld :=
  { base := 0x6003C, lsb := 16, width := 16, acc := .rw, rst := [300],
    path := [.lit "thermal", .lit "hyst"] }
/-- dwell: bits [15:8]. -/
def th2Dwell : Fld :=
  { base := 0x6003C, lsb := 8, width := 8, acc := .rw, rst := [32],
    path := [.lit "thermal", .lit "dwell"] }
/-- tcapHot: bits [6:4]. -/
def th2TcapHot : Fld :=
  { base := 0x6003C, lsb := 4, width := 3, acc := .rw, rst := [3],
    path := [.lit "thermal", .lit "cap", .lit "hot"] }
/-- tcapWarm: bits [2:0]. -/
def th2TcapWarm : Fld :=
  { base := 0x6003C, lsb := 0, width := 3, acc := .rw, rst := [5],
    path := [.lit "thermal", .lit "cap", .lit "warm"] }
/-- warmUp: bits [31:0]. -/
def th2WarmUp : Fld :=
  { base := 0x60040, lsb := 0, width := 32, acc := .rc,
    path := [.lit "thermal", .lit "count", .lit "warm_up"] }
/-- hotUp: bits [31:0]. -/
def th2HotUp : Fld :=
  { base := 0x60044, lsb := 0, width := 32, acc := .rc,
    path := [.lit "thermal", .lit "count", .lit "hot_up"] }
/-- critUp: bits [31:0]. -/
def th2CritUp : Fld :=
  { base := 0x60048, lsb := 0, width := 32, acc := .rc,
    path := [.lit "thermal", .lit "count", .lit "crit_up"] }
/-- downs: bits [31:0]. -/
def th2Downs : Fld :=
  { base := 0x6004C, lsb := 0, width := 32, acc := .rc,
    path := [.lit "thermal", .lit "count", .lit "downs"] }
/-- sensor: bits [31:0]. -/
def th2Sensor : Fld :=
  { base := 0x60010, lsb := 0, width := 32, acc := .ro, n1 := 6, s1 := 0x4, attrs := [.signed],
    path := [.lit "thermal", .lit "sensor", .plain 0 0] }
/-! 17_events_faults.md R748 -/

/-- pinPol: bits [3:0]. -/
def evtPinPol : Fld :=
  { base := 0x40000, lsb := 0, width := 4, acc := .rw,
    path := [.lit "events", .lit "pin_polarity"] }
/-- pend: bits [31:0]. -/
def evtPend : Fld :=
  { base := 0x40100, lsb := 0, width := 32, acc := .w1c, n1 := 32, s1 := 0x4,
    path := [.lit "events", .lit "group", .plain 0 0, .lit "pending"] }
/-- en: bits [31:31]. -/
def srcEn : Fld :=
  { base := 0x41000, lsb := 31, width := 1, acc := .rw, n1 := 1024, s1 := 0x10, rst := [1],
    path := [.lit "events", .obj 'E' 4 0, .lit "enable"] }
/-- vecEn: bits [30:30]. -/
def srcVecEn : Fld :=
  { base := 0x41000, lsb := 30, width := 1, acc := .rw, n1 := 1024, s1 := 0x10,
    path := [.lit "events", .obj 'E' 4 0, .lit "vec_enable"] }
/-- vector: bits [21:16]. -/
def srcVector : Fld :=
  { base := 0x41000, lsb := 16, width := 6, acc := .rw, n1 := 1024, s1 := 0x10,
    path := [.lit "events", .obj 'E' 4 0, .lit "vector"] }
/-- pins: bits [11:8]. -/
def srcPins : Fld :=
  { base := 0x41000, lsb := 8, width := 4, acc := .rw, n1 := 1024, s1 := 0x10,
    path := [.lit "events", .obj 'E' 4 0, .lit "pins"] }
/-- qmask: bits [63:0] over the words from the first. -/
def srcQmask : Fld :=
  { base := 0x41004, lsb := 0, width := 64, acc := .rw, n1 := 1024, s1 := 0x10, attrs := [.t00], rst := [1],
    path := [.lit "events", .obj 'E' 4 0, .lit "queues"] }
/-- raised: bits [31:0]. -/
def srcRaised : Fld :=
  { base := 0x4100C, lsb := 0, width := 32, acc := .rc, n1 := 1024, s1 := 0x10,
    path := [.lit "events", .obj 'E' 4 0, .lit "count", .lit "raised"] }
/-- pop: bits [31:0]. -/
def qPop : Fld :=
  { base := 0x48000, lsb := 0, width := 32, acc := .rc, n1 := 64, s1 := 0x40 }
/-- stampLo: bits [31:0]. -/
def qStampLo : Fld :=
  { base := 0x200048004, lsb := 0, width := 32, acc := .ro, n1 := 64, s1 := 0x40, n2 := 96, s2 := 0x1000000, bank := .master }
/-- stampHi: bits [30:0]. -/
def qStampHi : Fld :=
  { base := 0x200048008, lsb := 0, width := 31, acc := .ro, n1 := 64, s1 := 0x40, n2 := 96, s2 := 0x1000000, bank := .master }
/-- arg0: bits [31:0]. -/
def qArg0 : Fld :=
  { base := 0x20004800C, lsb := 0, width := 32, acc := .ro, n1 := 64, s1 := 0x40, n2 := 96, s2 := 0x1000000, bank := .master }
/-- arg1: bits [31:0]. -/
def qArg1 : Fld :=
  { base := 0x200048010, lsb := 0, width := 32, acc := .ro, n1 := 64, s1 := 0x40, n2 := 96, s2 := 0x1000000, bank := .master }
/-- depth: bits [8:0]. -/
def qDepth : Fld :=
  { base := 0x48014, lsb := 0, width := 9, acc := .ro, n1 := 64, s1 := 0x40,
    path := [.lit "events", .lit "queue", .obj 'T' 2 0, .lit "depth"] }
/-- lost: bits [31:0]. -/
def qLost : Fld :=
  { base := 0x48018, lsb := 0, width := 32, acc := .rc, n1 := 64, s1 := 0x40,
    path := [.lit "events", .lit "queue", .obj 'T' 2 0, .lit "lost"] }
/-- epoch: bits [31:0]. -/
def unitEpoch : Fld :=
  { base := 0x46000, lsb := 0, width := 32, acc := .ro, n1 := 25, s1 := 0x10,
    path := [.lit "unit", .plain 0 0, .lit "epoch"] }
/-- reset: bits [31:31]. -/
def unitReset : Fld :=
  { base := 0x46004, lsb := 31, width := 1, acc := .wo, n1 := 25, s1 := 0x10, attrs := [.command, .needsOwn],
    path := [.lit "unit", .plain 0 0, .lit "reset"] }
/-- state: bits [1:0]. -/
def unitState : Fld :=
  { base := 0x46004, lsb := 0, width := 2, acc := .ro, n1 := 25, s1 := 0x10,
    path := [.lit "unit", .plain 0 0, .lit "state"] }
/-- faults: bits [31:0]. -/
def unitFaults : Fld :=
  { base := 0x46008, lsb := 0, width := 32, acc := .rc, n1 := 25, s1 := 0x10,
    path := [.lit "unit", .plain 0 0, .lit "count", .lit "faults"] }
/-- staleReplies: bits [31:0]. -/
def evtStaleReplies : Fld :=
  { base := 0x47000, lsb := 0, width := 32, acc := .rc,
    path := [.lit "events", .lit "count", .lit "stale_replies"] }
/-- domReset: bits [5:0]. -/
def evtDomReset : Fld :=
  { base := 0x47004, lsb := 0, width := 6, acc := .wo, attrs := [.command, .needsOwn] }
/-! 17_events_faults.md Table Events.7 -/

/-- en: bits [31:31]. -/
def injEn : Fld :=
  { base := 0x420000, lsb := 31, width := 1, acc := .rw, attrs := [.t00],
    path := [.lit "test", .lit "inject", .lit "enable"] }
/-- full: bits [30:30]. -/
def injFull : Fld :=
  { base := 0x420000, lsb := 30, width := 1, acc := .rw, attrs := [.t00],
    path := [.lit "test", .lit "inject", .lit "full"] }
/-- groups: bits [31:0]. -/
def injGroups : Fld :=
  { base := 0x420004, lsb := 0, width := 32, acc := .rw, attrs := [.t00],
    path := [.lit "test", .lit "inject", .lit "groups"] }
/-- event: bits [9:0]. -/
def injEvent : Fld :=
  { base := 0x420008, lsb := 0, width := 10, acc := .rw }
/-- arg0: bits [31:0]. -/
def injArg0 : Fld :=
  { base := 0x42000C, lsb := 0, width := 32, acc := .rw }
/-- arg1: bits [31:0]. -/
def injArg1 : Fld :=
  { base := 0x420010, lsb := 0, width := 32, acc := .rw }
/-- fire: bits [0:0]. -/
def injFire : Fld :=
  { base := 0x420014, lsb := 0, width := 1, acc := .wo, attrs := [.command] }
/-- lastMode: bits [31:31]. -/
def injLastMode : Fld :=
  { base := 0x420018, lsb := 31, width := 1, acc := .ro,
    path := [.lit "test", .lit "inject", .lit "last"] }
/-- lastEvent: bits [9:0]. -/
def injLastEvent : Fld :=
  { base := 0x420018, lsb := 0, width := 10, acc := .ro,
    path := [.lit "test", .lit "inject", .lit "last"] }
/-- count: bits [31:0]. -/
def injCount : Fld :=
  { base := 0x42001C, lsb := 0, width := 32, acc := .ro,
    path := [.lit "test", .lit "inject", .lit "count"] }
/-! 18_startup_test.md Table Startup.10 -/

/-- hold: bits [0:0]. -/
def testHold : Fld :=
  { base := 0x420100, lsb := 0, width := 1, acc := .rw, attrs := [.t00],
    path := [.lit "test", .lit "hold"] }
/-- jtagRefused: bits [1:1]. -/
def testJtagRefused : Fld :=
  { base := 0x420100, lsb := 1, width := 1, acc := .w1c,
    path := [.lit "test", .lit "jtag_refused"] }
/-- loopPcie: bits [3:0]. -/
def testLoopPcie : Fld :=
  { base := 0x420104, lsb := 0, width := 4, acc := .rw, attrs := [.t00],
    path := [.lit "test", .lit "loop"] }
/-- loopEth: bits [5:4]. -/
def testLoopEth : Fld :=
  { base := 0x420104, lsb := 4, width := 2, acc := .rw, attrs := [.t00],
    path := [.lit "test", .lit "loop"] }
/-- prbsPcie: bits [3:0]. -/
def testPrbsPcie : Fld :=
  { base := 0x420108, lsb := 0, width := 4, acc := .rw, attrs := [.t00],
    path := [.lit "test", .lit "prbs"] }
/-- prbsEth: bits [5:4]. -/
def testPrbsEth : Fld :=
  { base := 0x420108, lsb := 4, width := 2, acc := .rw, attrs := [.t00],
    path := [.lit "test", .lit "prbs"] }
/-- prbsErr: bits [31:0]. -/
def testPrbsErr : Fld :=
  { base := 0x42010C, lsb := 0, width := 32, acc := .rc,
    path := [.lit "test", .lit "count", .lit "prbs_err"] }
/-- mbistRun: bits [0:0]. -/
def testMbistRun : Fld :=
  { base := 0x420110, lsb := 0, width := 1, acc := .wo, attrs := [.command, .t00],
    path := [.lit "test", .lit "mbist"] }
/-! 15_tenants_access.md R668 -/

/-- own: bits [3:3]. -/
def accOwn : Fld :=
  { base := 0x300000000, lsb := 3, width := 1, acc := .rw, n1 := 68, s1 := 0x1000, n2 := 64, s2 := 0x4, bank := .table, attrs := [.t00], rst := [1, 0], rst2 := true,
    path := [.lit "access", .target 0, .obj 'T' 2 1] }
/-- run: bits [2:2]. -/
def accRun : Fld :=
  { base := 0x300000000, lsb := 2, width := 1, acc := .rw, n1 := 68, s1 := 0x1000, n2 := 64, s2 := 0x4, bank := .table, attrs := [.t00], rst := [1, 0], rst2 := true,
    path := [.lit "access", .target 0, .obj 'T' 2 1] }
/-- set: bits [1:1]. -/
def accSet : Fld :=
  { base := 0x300000000, lsb := 1, width := 1, acc := .rw, n1 := 68, s1 := 0x1000, n2 := 64, s2 := 0x4, bank := .table, attrs := [.t00], rst := [1, 0], rst2 := true,
    path := [.lit "access", .target 0, .obj 'T' 2 1] }
/-- look: bits [0:0]. -/
def accLook : Fld :=
  { base := 0x300000000, lsb := 0, width := 1, acc := .rw, n1 := 68, s1 := 0x1000, n2 := 64, s2 := 0x4, bank := .table, attrs := [.t00], rst := [1, 0], rst2 := true,
    path := [.lit "access", .target 0, .obj 'T' 2 1] }
/-- owner: bits [21:16]. -/
def accOwner : Fld :=
  { base := 0x300000100, lsb := 16, width := 6, acc := .rw, n1 := 68, s1 := 0x1000, n2 := 896, s2 := 0x4, bank := .table, attrs := [.t00],
    path := [.lit "access", .target 0, .lit "obj", .plain 1 0, .lit "owner"] }
/-- share: bits [3:0]. -/
def accShare : Fld :=
  { base := 0x300000100, lsb := 0, width := 4, acc := .rw, n1 := 68, s1 := 0x1000, n2 := 896, s2 := 0x4, bank := .table, attrs := [.share],
    path := [.lit "access", .target 0, .lit "obj", .plain 1 0, .lit "share"] }
/-- objects: bits [28:16]. -/
def accObjects : Fld :=
  { base := 0x300000F00, lsb := 16, width := 13, acc := .ro, n1 := 68, s1 := 0x1000, bank := .table,
    path := [.lit "access", .target 0, .lit "objects"] }
/-- target: bits [7:0]. -/
def accTarget : Fld :=
  { base := 0x300000F00, lsb := 0, width := 8, acc := .ro, n1 := 68, s1 := 0x1000, bank := .table,
    path := [.lit "access", .target 0, .lit "target"] }
/-- deniedReads: bits [31:0]. -/
def accDeniedReads : Fld :=
  { base := 0x300000F04, lsb := 0, width := 32, acc := .rc, n1 := 68, s1 := 0x1000, bank := .table,
    path := [.lit "access", .target 0, .lit "count", .lit "denied_reads"] }
/-- deniedWrites: bits [31:0]. -/
def accDeniedWrites : Fld :=
  { base := 0x300000F08, lsb := 0, width := 32, acc := .rc, n1 := 68, s1 := 0x1000, bank := .table,
    path := [.lit "access", .target 0, .lit "count", .lit "denied_writes"] }
/-- lastWrite: bits [31:31]. -/
def accLastWrite : Fld :=
  { base := 0x300000F0C, lsb := 31, width := 1, acc := .ro, n1 := 68, s1 := 0x1000, bank := .table,
    path := [.lit "access", .target 0, .lit "last"] }
/-- lastMaster: bits [30:24]. -/
def accLastMaster : Fld :=
  { base := 0x300000F0C, lsb := 24, width := 7, acc := .ro, n1 := 68, s1 := 0x1000, bank := .table,
    path := [.lit "access", .target 0, .lit "last"] }
/-- lastTenant: bits [21:16]. -/
def accLastTenant : Fld :=
  { base := 0x300000F0C, lsb := 16, width := 6, acc := .ro, n1 := 68, s1 := 0x1000, bank := .table,
    path := [.lit "access", .target 0, .lit "last"] }
/-- lastWord: bits [15:0]. -/
def accLastWord : Fld :=
  { base := 0x300000F0C, lsb := 0, width := 16, acc := .ro, n1 := 68, s1 := 0x1000, bank := .table,
    path := [.lit "access", .target 0, .lit "last"] }

end Sys2Proof.Machine.Rg
end

