-- ==== Sys2Proof/Machine/RegMapIo.lean ====
section
/-! DEFINITION. The register fields of the Io blocks, from the register tables of the spec: one definition a field, named
by its block and its name in the table. -/
namespace Sys2Proof.Machine.Rg

/-! 08_bellows.md Table Bellows.1 -/

/-- vfieldMv: bits [31:16]. -/
def blwVfieldMv : Fld :=
  { base := 0x400000, lsb := 16, width := 16, acc := .ro,
    path := [.lit "bellows", .lit "vfield"] }
/-- field: bits [1:0]. -/
def blwField : Fld :=
  { base := 0x400000, lsb := 0, width := 2, acc := .ro, rst := [1],
    path := [.lit "bellows", .lit "field"] }
/-! 08_bellows.md Table Bellows.2 -/

/-- en: bits [31:31]. -/
def ledEn : Fld :=
  { base := 0x400100, lsb := 31, width := 1, acc := .rw, n1 := 8, s1 := 0x80,
    path := [.lit "bellows", .lit "led", .plain 0 0, .lit "enable"] }
/-- gang: bits [30:30]. -/
def ledGang : Fld :=
  { base := 0x400100, lsb := 30, width := 1, acc := .rw, n1 := 8, s1 := 0x80,
    path := [.lit "bellows", .lit "led", .plain 0 0, .lit "gang"] }
/-- trimEn: bits [29:29]. -/
def ledTrimEn : Fld :=
  { base := 0x400100, lsb := 29, width := 1, acc := .rw, n1 := 8, s1 := 0x80,
    path := [.lit "bellows", .lit "led", .plain 0 0, .lit "trim", .lit "enable"] }
/-- flkEn: bits [28:28]. -/
def ledFlkEn : Fld :=
  { base := 0x400100, lsb := 28, width := 1, acc := .rw, n1 := 8, s1 := 0x80,
    path := [.lit "bellows", .lit "led", .plain 0 0, .lit "flicker", .lit "enable"] }
/-- qen: bits [27:27]. -/
def ledQen : Fld :=
  { base := 0x400100, lsb := 27, width := 1, acc := .rw, n1 := 8, s1 := 0x80,
    path := [.lit "bellows", .lit "led", .plain 0 0, .lit "quench", .lit "enable"] }
/-- refSel: bits [26:24]. -/
def ledRefSel : Fld :=
  { base := 0x400100, lsb := 24, width := 3, acc := .rw, n1 := 8, s1 := 0x80,
    path := [.lit "bellows", .lit "led", .plain 0 0, .lit "ref"] }
/-- refIdx: bits [21:16]. -/
def ledRefIdx : Fld :=
  { base := 0x400100, lsb := 16, width := 6, acc := .rw, n1 := 8, s1 := 0x80, attrs := [.naming],
    path := [.lit "bellows", .lit "led", .plain 0 0, .lit "ref_idx"] }
/-- maxPulses: bits [11:8]. -/
def ledMaxPulses : Fld :=
  { base := 0x400100, lsb := 8, width := 4, acc := .rw, n1 := 8, s1 := 0x80, rst := [1],
    path := [.lit "bellows", .lit "led", .plain 0 0, .lit "max_pulses"] }
/-- retry: bits [0:0]. -/
def ledRetry : Fld :=
  { base := 0x400100, lsb := 0, width := 1, acc := .rw, n1 := 8, s1 := 0x80,
    path := [.lit "bellows", .lit "led", .plain 0 0, .lit "retry"] }
/-- delay: bits [27:0]. -/
def ledDelay : Fld :=
  { base := 0x400104, lsb := 0, width := 28, acc := .rw, n1 := 8, s1 := 0x80, rst := [500],
    path := [.lit "bellows", .lit "led", .plain 0 0, .lit "delay"] }
/-- width: bits [21:0]. -/
def ledWidth : Fld :=
  { base := 0x400108, lsb := 0, width := 22, acc := .rw, n1 := 8, s1 := 0x80, rst := [250],
    path := [.lit "bellows", .lit "led", .plain 0 0, .lit "width"] }
/-- iSet: bits [27:16]. -/
def ledISet : Fld :=
  { base := 0x40010C, lsb := 16, width := 12, acc := .rw, n1 := 8, s1 := 0x80, rst := [50],
    path := [.lit "bellows", .lit "led", .plain 0 0, .lit "current"] }
/-- trim: bits [7:0]. -/
def ledTrim : Fld :=
  { base := 0x40010C, lsb := 0, width := 8, acc := .rw, n1 := 8, s1 := 0x80, attrs := [.signed],
    path := [.lit "bellows", .lit "led", .plain 0 0, .lit "trim"] }
/-- flkPhase: bits [31:16]. -/
def ledFlkPhase : Fld :=
  { base := 0x400110, lsb := 16, width := 16, acc := .rw, n1 := 8, s1 := 0x80,
    path := [.lit "bellows", .lit "led", .plain 0 0, .lit "flicker", .lit "phase"] }
/-- flkMax: bits [15:0]. -/
def ledFlkMax : Fld :=
  { base := 0x400110, lsb := 0, width := 16, acc := .rw, n1 := 8, s1 := 0x80,
    path := [.lit "bellows", .lit "led", .plain 0 0, .lit "flicker", .lit "max"] }
/-- qchan: bits [28:24]. -/
def ledQchan : Fld :=
  { base := 0x400114, lsb := 24, width := 5, acc := .rw, n1 := 8, s1 := 0x80, attrs := [.naming],
    path := [.lit "bellows", .lit "led", .plain 0 0, .lit "quench", .lit "chan"] }
/-- failStep: bits [18:16]. -/
def ledFailStep : Fld :=
  { base := 0x400114, lsb := 16, width := 3, acc := .rw, n1 := 8, s1 := 0x80, rst := [3],
    path := [.lit "bellows", .lit "led", .plain 0 0, .lit "quench", .lit "fail_step"] }
/-- qDwell: bits [15:8]. -/
def ledQDwell : Fld :=
  { base := 0x400114, lsb := 8, width := 8, acc := .rw, n1 := 8, s1 := 0x80, rst := [32],
    path := [.lit "bellows", .lit "led", .plain 0 0, .lit "quench", .lit "dwell"] }
/-- qTimeout: bits [7:0]. -/
def ledQTimeout : Fld :=
  { base := 0x400114, lsb := 0, width := 8, acc := .rw, n1 := 8, s1 := 0x80, rst := [100],
    path := [.lit "bellows", .lit "led", .plain 0 0, .lit "quench", .lit "timeout"] }
/-- qHyst: bits [23:0]. -/
def ledQHyst : Fld :=
  { base := 0x400118, lsb := 0, width := 24, acc := .rw, n1 := 8, s1 := 0x80, rst := [300],
    path := [.lit "bellows", .lit "led", .plain 0 0, .lit "quench", .lit "hyst"] }
/-- skipLast: bits [31:28]. -/
def ledSkipLast : Fld :=
  { base := 0x400130, lsb := 28, width := 4, acc := .ro, n1 := 8, s1 := 0x80,
    path := [.lit "bellows", .lit "led", .plain 0 0, .lit "skip_last"] }
/-- iMeas: bits [27:16]. -/
def ledIMeas : Fld :=
  { base := 0x400130, lsb := 16, width := 12, acc := .ro, n1 := 8, s1 := 0x80,
    path := [.lit "bellows", .lit "led", .plain 0 0, .lit "i_meas"] }
/-- vSink: bits [11:4]. -/
def ledVSink : Fld :=
  { base := 0x400130, lsb := 4, width := 8, acc := .ro, n1 := 8, s1 := 0x80,
    path := [.lit "bellows", .lit "led", .plain 0 0, .lit "v_sink"] }
/-- qStep: bits [2:0]. -/
def ledQStep : Fld :=
  { base := 0x400130, lsb := 0, width := 3, acc := .ro, n1 := 8, s1 := 0x80,
    path := [.lit "bellows", .lit "led", .plain 0 0, .lit "quench", .lit "step"] }
/-- shortV: bits [13:8]. -/
def ledShortV : Fld :=
  { base := 0x400134, lsb := 8, width := 6, acc := .rw, n1 := 8, s1 := 0x80, rst := [12],
    path := [.lit "bellows", .lit "led", .plain 0 0, .lit "short_v"] }
/-- qFault: bits [7:7]. -/
def ledQFault : Fld :=
  { base := 0x400134, lsb := 7, width := 1, acc := .ro, n1 := 8, s1 := 0x80,
    path := [.lit "bellows", .lit "led", .plain 0 0, .lit "quench", .lit "fault"] }
/-- lowCurrent: bits [4:4]. -/
def ledLowCurrent : Fld :=
  { base := 0x400134, lsb := 4, width := 1, acc := .w1c, n1 := 8, s1 := 0x80,
    path := [.lit "bellows", .lit "led", .plain 0 0, .lit "low_current"] }
/-- openF: bits [3:3]. -/
def ledOpenF : Fld :=
  { base := 0x400134, lsb := 3, width := 1, acc := .w1c, n1 := 8, s1 := 0x80,
    path := [.lit "bellows", .lit "led", .plain 0 0, .lit "open"] }
/-- short: bits [2:2]. -/
def ledShort : Fld :=
  { base := 0x400134, lsb := 2, width := 1, acc := .w1c, n1 := 8, s1 := 0x80,
    path := [.lit "bellows", .lit "led", .plain 0 0, .lit "short"] }
/-- retries: bits [1:0]. -/
def ledRetries : Fld :=
  { base := 0x400134, lsb := 0, width := 2, acc := .ro, n1 := 8, s1 := 0x80,
    path := [.lit "bellows", .lit "led", .plain 0 0, .lit "retries"] }
/-- pulses: bits [31:0]. -/
def ledPulses : Fld :=
  { base := 0x400138, lsb := 0, width := 32, acc := .ro, n1 := 8, s1 := 0x80,
    path := [.lit "bellows", .lit "led", .plain 0 0, .lit "pulses"] }
/-- qUp: bits [31:0]. -/
def ledQUp : Fld :=
  { base := 0x400140, lsb := 0, width := 32, acc := .rc, n1 := 8, s1 := 0x80,
    path := [.lit "bellows", .lit "led", .plain 0 0, .lit "quench", .lit "up"] }
/-- qDown: bits [31:0]. -/
def ledQDown : Fld :=
  { base := 0x400144, lsb := 0, width := 32, acc := .rc, n1 := 8, s1 := 0x80,
    path := [.lit "bellows", .lit "led", .plain 0 0, .lit "quench", .lit "down"] }
/-- flkMiss: bits [31:0]. -/
def ledFlkMiss : Fld :=
  { base := 0x400148, lsb := 0, width := 32, acc := .rc, n1 := 8, s1 := 0x80,
    path := [.lit "bellows", .lit "led", .plain 0 0, .lit "flicker", .lit "miss"] }
/-- skOverlap: bits [31:0]. -/
def ledSkOverlap : Fld :=
  { base := 0x40014C, lsb := 0, width := 32, acc := .rc, n1 := 8, s1 := 0x80,
    path := [.lit "bellows", .lit "led", .plain 0 0, .lit "skip", .lit "overlap"] }
/-- skOverRate: bits [31:0]. -/
def ledSkOverRate : Fld :=
  { base := 0x400150, lsb := 0, width := 32, acc := .rc, n1 := 8, s1 := 0x80,
    path := [.lit "bellows", .lit "led", .plain 0 0, .lit "skip", .lit "over_rate"] }
/-- skNoField: bits [31:0]. -/
def ledSkNoField : Fld :=
  { base := 0x400154, lsb := 0, width := 32, acc := .rc, n1 := 8, s1 := 0x80,
    path := [.lit "bellows", .lit "led", .plain 0 0, .lit "skip", .lit "no_field"] }
/-- skFault: bits [31:0]. -/
def ledSkFault : Fld :=
  { base := 0x400158, lsb := 0, width := 32, acc := .rc, n1 := 8, s1 := 0x80,
    path := [.lit "bellows", .lit "led", .plain 0 0, .lit "skip", .lit "fault"] }
/-- skQuenched: bits [31:0]. -/
def ledSkQuenched : Fld :=
  { base := 0x40015C, lsb := 0, width := 32, acc := .rc, n1 := 8, s1 := 0x80,
    path := [.lit "bellows", .lit "led", .plain 0 0, .lit "skip", .lit "quenched"] }
/-- thr: bits [31:0]. -/
def ledThr : Fld :=
  { base := 0x40011C, lsb := 0, width := 32, acc := .rw, n1 := 8, s1 := 0x80, n2 := 4, s2 := 0x4, attrs := [.signed], rst := [2147483647],
    path := [.lit "bellows", .lit "led", .plain 0 0, .lit "quench", .lit "thr", .plain 1 1] }
/-- q: bits [7:0]. -/
def ledQ : Fld :=
  { base := 0x40012C, lsb := 0, width := 8, acc := .rw, n1 := 8, s1 := 0x80, n2 := 4, s2 := 0x1, rst := [85, 70, 50, 0], rst2 := true,
    path := [.lit "bellows", .lit "led", .plain 0 0, .lit "quench", .lit "q", .plain 1 1] }
/-! 11_live_calibration.md R512 -/

/-- trimChan: bits [28:24]. -/
def ledTrimChan : Fld :=
  { base := 0x400160, lsb := 24, width := 5, acc := .rw, n1 := 8, s1 := 0x80, attrs := [.naming],
    path := [.lit "bellows", .lit "led", .plain 0 0, .lit "trim", .lit "chan"] }
/-- trimEvery: bits [15:0]. -/
def ledTrimEvery : Fld :=
  { base := 0x400160, lsb := 0, width := 16, acc := .rw, n1 := 8, s1 := 0x80, rst := [2000],
    path := [.lit "bellows", .lit "led", .plain 0 0, .lit "trim", .lit "every"] }
/-- trimDelay: bits [27:0]. -/
def ledTrimDelay : Fld :=
  { base := 0x400164, lsb := 0, width := 28, acc := .rw, n1 := 8, s1 := 0x80, rst := [500],
    path := [.lit "bellows", .lit "led", .plain 0 0, .lit "trim", .lit "delay"] }
/-- trimSpan: bits [27:0]. -/
def ledTrimSpan : Fld :=
  { base := 0x400168, lsb := 0, width := 28, acc := .rw, n1 := 8, s1 := 0x80, rst := [2500000],
    path := [.lit "bellows", .lit "led", .plain 0 0, .lit "trim", .lit "span"] }
/-- lref: bits [31:0]. -/
def ledLref : Fld :=
  { base := 0x40016C, lsb := 0, width := 32, acc := .rw, n1 := 8, s1 := 0x80,
    path := [.lit "bellows", .lit "led", .plain 0 0, .lit "trim", .lit "lref"] }
/-- trimCapture: bits [31:31]. -/
def ledTrimCapture : Fld :=
  { base := 0x400170, lsb := 31, width := 1, acc := .wo, n1 := 8, s1 := 0x80, attrs := [.command],
    path := [.lit "bellows", .lit "led", .plain 0 0, .lit "trim", .lit "capture"] }
/-- trimLimit: bits [16:16]. -/
def ledTrimLimit : Fld :=
  { base := 0x400170, lsb := 16, width := 1, acc := .ro, n1 := 8, s1 := 0x80,
    path := [.lit "bellows", .lit "led", .plain 0 0, .lit "trim", .lit "limit"] }
/-- trimStepMax: bits [11:8]. -/
def ledTrimStepMax : Fld :=
  { base := 0x400170, lsb := 8, width := 4, acc := .rw, n1 := 8, s1 := 0x80, rst := [4],
    path := [.lit "bellows", .lit "led", .plain 0 0, .lit "trim", .lit "step_max"] }
/-- trimAvg: bits [5:0]. -/
def ledTrimAvg : Fld :=
  { base := 0x400170, lsb := 0, width := 6, acc := .rw, n1 := 8, s1 := 0x80, rst := [16],
    path := [.lit "bellows", .lit "led", .plain 0 0, .lit "trim", .lit "avg"] }
/-- trimLastM: bits [31:0]. -/
def ledTrimLastM : Fld :=
  { base := 0x400174, lsb := 0, width := 32, acc := .ro, n1 := 8, s1 := 0x80, attrs := [.signed],
    path := [.lit "bellows", .lit "led", .plain 0 0, .lit "trim", .lit "last_m"] }
/-- trimFlashes: bits [31:0]. -/
def ledTrimFlashes : Fld :=
  { base := 0x400178, lsb := 0, width := 32, acc := .ro, n1 := 8, s1 := 0x80,
    path := [.lit "bellows", .lit "led", .plain 0 0, .lit "trim", .lit "flashes"] }
/-- trimBad: bits [31:0]. -/
def ledTrimBad : Fld :=
  { base := 0x40017C, lsb := 0, width := 32, acc := .rc, n1 := 8, s1 := 0x80,
    path := [.lit "bellows", .lit "led", .plain 0 0, .lit "trim", .lit "bad"] }
/-! 08_bellows.md Table Bellows.3 -/

/-- out: bits [31:31]. -/
def doutOut : Fld :=
  { base := 0x400500, lsb := 31, width := 1, acc := .rw, n1 := 8, s1 := 0x20,
    path := [.lit "bellows", .lit "dout", .plain 0 0, .lit "out"] }
/-- restore: bits [30:30]. -/
def doutRestore : Fld :=
  { base := 0x400500, lsb := 30, width := 1, acc := .rw, n1 := 8, s1 := 0x20,
    path := [.lit "bellows", .lit "dout", .plain 0 0, .lit "restore"] }
/-- refSel: bits [26:24]. -/
def doutRefSel : Fld :=
  { base := 0x400500, lsb := 24, width := 3, acc := .rw, n1 := 8, s1 := 0x20,
    path := [.lit "bellows", .lit "dout", .plain 0 0, .lit "ref"] }
/-- refIdx: bits [21:16]. -/
def doutRefIdx : Fld :=
  { base := 0x400500, lsb := 16, width := 6, acc := .rw, n1 := 8, s1 := 0x20, attrs := [.naming],
    path := [.lit "bellows", .lit "dout", .plain 0 0, .lit "ref_idx"] }
/-- mode: bits [13:12]. -/
def doutMode : Fld :=
  { base := 0x400500, lsb := 12, width := 2, acc := .rw, n1 := 8, s1 := 0x20,
    path := [.lit "bellows", .lit "dout", .plain 0 0, .lit "mode"] }
/-- follow: bits [10:8]. -/
def doutFollow : Fld :=
  { base := 0x400500, lsb := 8, width := 3, acc := .rw, n1 := 8, s1 := 0x20,
    path := [.lit "bellows", .lit "dout", .plain 0 0, .lit "follow"] }
/-- pol: bits [4:4]. -/
def doutPol : Fld :=
  { base := 0x400500, lsb := 4, width := 1, acc := .rw, n1 := 8, s1 := 0x20,
    path := [.lit "bellows", .lit "dout", .plain 0 0, .lit "polarity"] }
/-- retry: bits [0:0]. -/
def doutRetry : Fld :=
  { base := 0x400500, lsb := 0, width := 1, acc := .rw, n1 := 8, s1 := 0x20,
    path := [.lit "bellows", .lit "dout", .plain 0 0, .lit "retry"] }
/-- delay: bits [27:0]. -/
def doutDelay : Fld :=
  { base := 0x400504, lsb := 0, width := 28, acc := .rw, n1 := 8, s1 := 0x20, rst := [500],
    path := [.lit "bellows", .lit "dout", .plain 0 0, .lit "delay"] }
/-- width: bits [27:0]. -/
def doutWidth : Fld :=
  { base := 0x400508, lsb := 0, width := 28, acc := .rw, n1 := 8, s1 := 0x20, rst := [250],
    path := [.lit "bellows", .lit "dout", .plain 0 0, .lit "width"] }
/-- limitTime: bits [7:0]. -/
def doutLimitTime : Fld :=
  { base := 0x40050C, lsb := 0, width := 8, acc := .rw, n1 := 8, s1 := 0x20, rst := [1],
    path := [.lit "bellows", .lit "dout", .plain 0 0, .lit "limit_time"] }
/-- iMeas: bits [31:20]. -/
def doutIMeas : Fld :=
  { base := 0x400510, lsb := 20, width := 12, acc := .ro, n1 := 8, s1 := 0x20,
    path := [.lit "bellows", .lit "dout", .plain 0 0, .lit "i_meas"] }
/-- retries: bits [9:8]. -/
def doutRetries : Fld :=
  { base := 0x400510, lsb := 8, width := 2, acc := .ro, n1 := 8, s1 := 0x20,
    path := [.lit "bellows", .lit "dout", .plain 0 0, .lit "retries"] }
/-- readback: bits [4:4]. -/
def doutReadback : Fld :=
  { base := 0x400510, lsb := 4, width := 1, acc := .ro, n1 := 8, s1 := 0x20,
    path := [.lit "bellows", .lit "dout", .plain 0 0, .lit "readback"] }
/-- backfeed: bits [3:3]. -/
def doutBackfeed : Fld :=
  { base := 0x400510, lsb := 3, width := 1, acc := .w1c, n1 := 8, s1 := 0x20,
    path := [.lit "bellows", .lit "dout", .plain 0 0, .lit "backfeed"] }
/-- tied: bits [2:2]. -/
def doutTied : Fld :=
  { base := 0x400510, lsb := 2, width := 1, acc := .w1c, n1 := 8, s1 := 0x20,
    path := [.lit "bellows", .lit "dout", .plain 0 0, .lit "tied"] }
/-- overload: bits [1:1]. -/
def doutOverload : Fld :=
  { base := 0x400510, lsb := 1, width := 1, acc := .w1c, n1 := 8, s1 := 0x20,
    path := [.lit "bellows", .lit "dout", .plain 0 0, .lit "overload"] }
/-- skips: bits [31:0]. -/
def doutSkips : Fld :=
  { base := 0x400514, lsb := 0, width := 32, acc := .rc, n1 := 8, s1 := 0x20,
    path := [.lit "bellows", .lit "dout", .plain 0 0, .lit "skips"] }
/-! 08_bellows.md Table Bellows.4 -/

/-- wakeEn: bits [31:31]. -/
def dinWakeEn : Fld :=
  { base := 0x400600, lsb := 31, width := 1, acc := .rw, n1 := 8, s1 := 0x10,
    path := [.lit "bellows", .lit "din", .plain 0 0, .lit "wake"] }
/-- edge: bits [17:16]. -/
def dinEdge : Fld :=
  { base := 0x400600, lsb := 16, width := 2, acc := .rw, n1 := 8, s1 := 0x10,
    path := [.lit "bellows", .lit "din", .plain 0 0, .lit "edge"] }
/-- long: bits [12:12]. -/
def dinLong : Fld :=
  { base := 0x400600, lsb := 12, width := 1, acc := .rw, n1 := 8, s1 := 0x10,
    path := [.lit "bellows", .lit "din", .plain 0 0, .lit "long"] }
/-- filt: bits [7:0]. -/
def dinFilt : Fld :=
  { base := 0x400600, lsb := 0, width := 8, acc := .rw, n1 := 8, s1 := 0x10, rst := [25],
    path := [.lit "bellows", .lit "din", .plain 0 0, .lit "filter"] }
/-- level: bits [0:0]. -/
def dinLevel : Fld :=
  { base := 0x400604, lsb := 0, width := 1, acc := .ro, n1 := 8, s1 := 0x10,
    path := [.lit "bellows", .lit "din", .plain 0 0, .lit "level"] }
/-- edges: bits [31:0]. -/
def dinEdges : Fld :=
  { base := 0x400608, lsb := 0, width := 32, acc := .rc, n1 := 8, s1 := 0x10,
    path := [.lit "bellows", .lit "din", .plain 0 0, .lit "edges"] }
/-- lastStamp: bits [63:0] over the words from the first. -/
def dinLastStamp : Fld :=
  { base := 0x400680, lsb := 0, width := 64, acc := .rs, n1 := 8, s1 := 0x8,
    path := [.lit "bellows", .lit "din", .plain 0 0, .lit "stamp"] }
/-- cmpEn: bits [31:31]. -/
def encCmpEn : Fld :=
  { base := 0x400700, lsb := 31, width := 1, acc := .rw, n1 := 4, s1 := 0x20,
    path := [.lit "bellows", .lit "enc", .plain 0 0, .lit "cmp", .lit "enable"] }
/-- cmpDir: bits [30:30]. -/
def encCmpDir : Fld :=
  { base := 0x400700, lsb := 30, width := 1, acc := .rw, n1 := 4, s1 := 0x20,
    path := [.lit "bellows", .lit "enc", .plain 0 0, .lit "cmp", .lit "dir"] }
/-- dirInv: bits [29:29]. -/
def encDirInv : Fld :=
  { base := 0x400700, lsb := 29, width := 1, acc := .rw, n1 := 4, s1 := 0x20,
    path := [.lit "bellows", .lit "enc", .plain 0 0, .lit "invert"] }
/-- valid: bits [0:0]. -/
def encValid : Fld :=
  { base := 0x400700, lsb := 0, width := 1, acc := .ro, n1 := 4, s1 := 0x20,
    path := [.lit "bellows", .lit "enc", .plain 0 0, .lit "valid"] }
/-- pos: bits [31:0]. -/
def encPos : Fld :=
  { base := 0x400704, lsb := 0, width := 32, acc := .rw, n1 := 4, s1 := 0x20,
    path := [.lit "bellows", .lit "enc", .plain 0 0, .lit "pos"] }
/-- next: bits [31:0]. -/
def encNext : Fld :=
  { base := 0x400708, lsb := 0, width := 32, acc := .rw, n1 := 4, s1 := 0x20,
    path := [.lit "bellows", .lit "enc", .plain 0 0, .lit "next"] }
/-- pitch: bits [23:0]. -/
def encPitch : Fld :=
  { base := 0x40070C, lsb := 0, width := 24, acc := .rw, n1 := 4, s1 := 0x20, rst := [1],
    path := [.lit "bellows", .lit "enc", .plain 0 0, .lit "pitch"] }
/-- compares: bits [31:0]. -/
def encCompares : Fld :=
  { base := 0x400710, lsb := 0, width := 32, acc := .ro, n1 := 4, s1 := 0x20,
    path := [.lit "bellows", .lit "enc", .plain 0 0, .lit "compares"] }
/-- err: bits [31:0]. -/
def encErr : Fld :=
  { base := 0x400714, lsb := 0, width := 32, acc := .rc, n1 := 4, s1 := 0x20,
    path := [.lit "bellows", .lit "enc", .plain 0 0, .lit "err"] }
/-! 09_sfe_analogue.md R430 -/

/-- en: bits [31:31]. -/
def saEn : Fld :=
  { base := 0x3A0000, lsb := 31, width := 1, acc := .rw, n1 := 24, s1 := 0x40,
    path := [.lit "sfe", .obj 'S' 2 0, .lit "enable"] }
/-- rangeMode: bits [29:28]. -/
def saRangeMode : Fld :=
  { base := 0x3A0000, lsb := 28, width := 2, acc := .rw, n1 := 24, s1 := 0x40,
    path := [.lit "sfe", .obj 'S' 2 0, .lit "range", .lit "mode"] }
/-- gain: bits [26:24]. -/
def saGain : Fld :=
  { base := 0x3A0000, lsb := 24, width := 3, acc := .rw, n1 := 24, s1 := 0x40,
    path := [.lit "sfe", .obj 'S' 2 0, .lit "range", .lit "gain"] }
/-- gainMax: bits [22:20]. -/
def saGainMax : Fld :=
  { base := 0x3A0000, lsb := 20, width := 3, acc := .rw, n1 := 24, s1 := 0x40, rst := [7],
    path := [.lit "sfe", .obj 'S' 2 0, .lit "range", .lit "max"] }
/-- gainMin: bits [18:16]. -/
def saGainMin : Fld :=
  { base := 0x3A0000, lsb := 16, width := 3, acc := .rw, n1 := 24, s1 := 0x40,
    path := [.lit "sfe", .obj 'S' 2 0, .lit "range", .lit "min"] }
/-- blank: bits [13:12]. -/
def saBlank : Fld :=
  { base := 0x3A0000, lsb := 12, width := 2, acc := .rw, n1 := 24, s1 := 0x40,
    path := [.lit "sfe", .obj 'S' 2 0, .lit "blank"] }
/-- excSel: bits [10:8]. -/
def saExcSel : Fld :=
  { base := 0x3A0000, lsb := 8, width := 3, acc := .rw, n1 := 24, s1 := 0x40,
    path := [.lit "sfe", .obj 'S' 2 0, .lit "exc"] }
/-- preset: bits [1:0]. -/
def saPreset : Fld :=
  { base := 0x3A0000, lsb := 0, width := 2, acc := .rw, n1 := 24, s1 := 0x40, rst := [2],
    path := [.lit "sfe", .obj 'S' 2 0, .lit "preset"] }
/-- xpN: bits [19:16]. -/
def saXpN : Fld :=
  { base := 0x3A0004, lsb := 16, width := 4, acc := .rw, n1 := 24, s1 := 0x40,
    path := [.lit "sfe", .obj 'S' 2 0, .lit "xp", .lit "neg"] }
/-- xpP: bits [3:0]. -/
def saXpP : Fld :=
  { base := 0x3A0004, lsb := 0, width := 4, acc := .rw, n1 := 24, s1 := 0x40,
    path := [.lit "sfe", .obj 'S' 2 0, .lit "xp", .lit "pos"] }
/-- checkNow: bits [31:31]. -/
def saCheckNow : Fld :=
  { base := 0x3A0008, lsb := 31, width := 1, acc := .wo, n1 := 24, s1 := 0x40, attrs := [.command],
    path := [.lit "sfe", .obj 'S' 2 0, .lit "check", .lit "now"] }
/-- checkS: bits [15:0]. -/
def saCheckS : Fld :=
  { base := 0x3A0008, lsb := 0, width := 16, acc := .rw, n1 := 24, s1 := 0x40, rst := [10],
    path := [.lit "sfe", .obj 'S' 2 0, .lit "check", .lit "period"] }
/-- zOpen: bits [31:0]. -/
def saZOpen : Fld :=
  { base := 0x3A000C, lsb := 0, width := 32, acc := .rw, n1 := 24, s1 := 0x40, rst := [100000],
    path := [.lit "sfe", .obj 'S' 2 0, .lit "z_open"] }
/-- zShort: bits [15:0]. -/
def saZShort : Fld :=
  { base := 0x3A0010, lsb := 0, width := 16, acc := .rw, n1 := 24, s1 := 0x40, rst := [10],
    path := [.lit "sfe", .obj 'S' 2 0, .lit "z_short"] }
/-- zLast: bits [31:0]. -/
def saZLast : Fld :=
  { base := 0x3A0014, lsb := 0, width := 32, acc := .ro, n1 := 24, s1 := 0x40,
    path := [.lit "sfe", .obj 'S' 2 0, .lit "z"] }
/-- slots: bits [31:24]. -/
def saSlots : Fld :=
  { base := 0x3A0018, lsb := 24, width := 8, acc := .ro, n1 := 24, s1 := 0x40,
    path := [.lit "sfe", .obj 'S' 2 0, .lit "slots"] }
/-- mod: bits [19:16]. -/
def saMod : Fld :=
  { base := 0x3A0018, lsb := 16, width := 4, acc := .ro, n1 := 24, s1 := 0x40,
    path := [.lit "sfe", .obj 'S' 2 0, .lit "mod"] }
/-- range: bits [10:8]. -/
def saRange : Fld :=
  { base := 0x3A0018, lsb := 8, width := 3, acc := .ro, n1 := 24, s1 := 0x40,
    path := [.lit "sfe", .obj 'S' 2 0, .lit "range", .lit "tag"] }
/-- openF: bits [7:7]. -/
def saOpenF : Fld :=
  { base := 0x3A0018, lsb := 7, width := 1, acc := .ro, n1 := 24, s1 := 0x40,
    path := [.lit "sfe", .obj 'S' 2 0, .lit "open"] }
/-- short: bits [6:6]. -/
def saShort : Fld :=
  { base := 0x3A0018, lsb := 6, width := 1, acc := .ro, n1 := 24, s1 := 0x40,
    path := [.lit "sfe", .obj 'S' 2 0, .lit "short"] }
/-- leak: bits [5:5]. -/
def saLeak : Fld :=
  { base := 0x3A0018, lsb := 5, width := 1, acc := .ro, n1 := 24, s1 := 0x40,
    path := [.lit "sfe", .obj 'S' 2 0, .lit "leak"] }
/-- overvolt: bits [3:3]. -/
def saOvervolt : Fld :=
  { base := 0x3A0018, lsb := 3, width := 1, acc := .w1c, n1 := 24, s1 := 0x40,
    path := [.lit "sfe", .obj 'S' 2 0, .lit "overvolt"] }
/-- checking: bits [2:2]. -/
def saChecking : Fld :=
  { base := 0x3A0018, lsb := 2, width := 1, acc := .ro, n1 := 24, s1 := 0x40,
    path := [.lit "sfe", .obj 'S' 2 0, .lit "check", .lit "busy"] }
/-- checks: bits [31:0]. -/
def saChecks : Fld :=
  { base := 0x3A001C, lsb := 0, width := 32, acc := .ro, n1 := 24, s1 := 0x40,
    path := [.lit "sfe", .obj 'S' 2 0, .lit "check", .lit "count"] }
/-- fails: bits [31:0]. -/
def saFails : Fld :=
  { base := 0x3A0020, lsb := 0, width := 32, acc := .rc, n1 := 24, s1 := 0x40,
    path := [.lit "sfe", .obj 'S' 2 0, .lit "count", .lit "fails"] }
/-- rangeUp: bits [31:0]. -/
def saRangeUp : Fld :=
  { base := 0x3A0024, lsb := 0, width := 32, acc := .rc, n1 := 24, s1 := 0x40,
    path := [.lit "sfe", .obj 'S' 2 0, .lit "count", .lit "range_up"] }
/-- rangeDown: bits [31:0]. -/
def saRangeDown : Fld :=
  { base := 0x3A0028, lsb := 0, width := 32, acc := .rc, n1 := 24, s1 := 0x40,
    path := [.lit "sfe", .obj 'S' 2 0, .lit "count", .lit "range_down"] }
/-- overrange: bits [31:0]. -/
def saOverrange : Fld :=
  { base := 0x3A002C, lsb := 0, width := 32, acc := .rc, n1 := 24, s1 := 0x40,
    path := [.lit "sfe", .obj 'S' 2 0, .lit "count", .lit "overrange"] }
/-- overvoltN: bits [31:0]. -/
def saOvervoltN : Fld :=
  { base := 0x3A0030, lsb := 0, width := 32, acc := .rc, n1 := 24, s1 := 0x40,
    path := [.lit "sfe", .obj 'S' 2 0, .lit "count", .lit "overvolt"] }
/-! 09_sfe_analogue.md R431 -/

/-- xpRtn: bits [23:20]. -/
def excXpRtn : Fld :=
  { base := 0x3A0800, lsb := 20, width := 4, acc := .rw, n1 := 4, s1 := 0x20,
    path := [.lit "sfe", .lit "exc", .letter 0, .lit "xp_rtn"] }
/-- xpF: bits [19:16]. -/
def excXpF : Fld :=
  { base := 0x3A0800, lsb := 16, width := 4, acc := .rw, n1 := 4, s1 := 0x20,
    path := [.lit "sfe", .lit "exc", .letter 0, .lit "xp_f"] }
/-- dest: bits [8:8]. -/
def excDest : Fld :=
  { base := 0x3A0800, lsb := 8, width := 1, acc := .rw, n1 := 4, s1 := 0x20,
    path := [.lit "sfe", .lit "exc", .letter 0, .lit "dest"] }
/-- chop: bits [4:4]. -/
def excChop : Fld :=
  { base := 0x3A0800, lsb := 4, width := 1, acc := .rw, n1 := 4, s1 := 0x20, rst := [1],
    path := [.lit "sfe", .lit "exc", .letter 0, .lit "chop"] }
/-- mode: bits [1:0]. -/
def excMode : Fld :=
  { base := 0x3A0800, lsb := 0, width := 2, acc := .rw, n1 := 4, s1 := 0x20,
    path := [.lit "sfe", .lit "exc", .letter 0, .lit "mode"] }
/-- iUa: bits [9:0]. -/
def excIUa : Fld :=
  { base := 0x3A0804, lsb := 0, width := 10, acc := .rw, n1 := 4, s1 := 0x20, rst := [100],
    path := [.lit "sfe", .lit "exc", .letter 0, .lit "current"] }
/-- limit: bits [2:2]. -/
def excLimit : Fld :=
  { base := 0x3A0808, lsb := 2, width := 1, acc := .w1c, n1 := 4, s1 := 0x20,
    path := [.lit "sfe", .lit "exc", .letter 0, .lit "limit"] }
/-- comply: bits [1:1]. -/
def excComply : Fld :=
  { base := 0x3A0808, lsb := 1, width := 1, acc := .ro, n1 := 4, s1 := 0x20,
    path := [.lit "sfe", .lit "exc", .letter 0, .lit "comply"] }
/-- leak: bits [0:0]. -/
def excLeak : Fld :=
  { base := 0x3A0808, lsb := 0, width := 1, acc := .ro, n1 := 4, s1 := 0x20,
    path := [.lit "sfe", .lit "exc", .letter 0, .lit "leak"] }
/-- iDiff: bits [31:0]. -/
def excIDiff : Fld :=
  { base := 0x3A080C, lsb := 0, width := 32, acc := .ro, n1 := 4, s1 := 0x20, attrs := [.signed],
    path := [.lit "sfe", .lit "exc", .letter 0, .lit "i_diff"] }
/-- leakNa: bits [19:0]. -/
def excLeakNa : Fld :=
  { base := 0x3A0810, lsb := 0, width := 20, acc := .rw, n1 := 4, s1 := 0x20, rst := [5000],
    path := [.lit "sfe", .lit "exc", .letter 0, .lit "leak_na"] }
/-! 09_sfe_analogue.md R432 -/

/-- biasLimit: bits [12:12]. -/
def xpBiasLimit : Fld :=
  { base := 0x3A0A00, lsb := 12, width := 1, acc := .w1c, n1 := 16, s1 := 0x4,
    path := [.lit "sfe", .lit "xp", .two 0, .lit "bias_limit"] }
/-- drive: bits [10:9]. -/
def xpDrive : Fld :=
  { base := 0x3A0A00, lsb := 9, width := 2, acc := .ro, n1 := 16, s1 := 0x4,
    path := [.lit "sfe", .lit "xp", .two 0, .lit "drive"] }
/-- input: bits [8:8]. -/
def xpInput : Fld :=
  { base := 0x3A0A00, lsb := 8, width := 1, acc := .ro, n1 := 16, s1 := 0x4,
    path := [.lit "sfe", .lit "xp", .two 0, .lit "input"] }
/-- bias: bits [1:0]. -/
def xpBias : Fld :=
  { base := 0x3A0A00, lsb := 0, width := 2, acc := .rw, n1 := 16, s1 := 0x4,
    path := [.lit "sfe", .lit "xp", .two 0, .lit "bias"] }
/-- en: bits [31:31]. -/
def grdEn : Fld :=
  { base := 0x3A0B00, lsb := 31, width := 1, acc := .rw, n1 := 4, s1 := 0x4,
    path := [.lit "sfe", .lit "grd", .plain 0 0, .lit "enable"] }
/-- limit: bits [8:8]. -/
def grdLimit : Fld :=
  { base := 0x3A0B00, lsb := 8, width := 1, acc := .ro, n1 := 4, s1 := 0x4,
    path := [.lit "sfe", .lit "grd", .plain 0 0, .lit "limit"] }
/-- chan: bits [4:0]. -/
def grdChan : Fld :=
  { base := 0x3A0B00, lsb := 0, width := 5, acc := .rw, n1 := 4, s1 := 0x4, attrs := [.naming],
    path := [.lit "sfe", .lit "grd", .plain 0 0, .lit "chan"] }
/-- toneEn: bits [31:31]. -/
def sfeToneEn : Fld :=
  { base := 0x3A0C00, lsb := 31, width := 1, acc := .rw, rst := [1],
    path := [.lit "sfe", .lit "tone", .lit "enable"] }
/-- recheckMs: bits [15:0]. -/
def sfeRecheckMs : Fld :=
  { base := 0x3A0C00, lsb := 0, width := 16, acc := .rw, rst := [1000],
    path := [.lit "sfe", .lit "recheck"] }
/-- cal: bits [8:8]. -/
def modCal : Fld :=
  { base := 0x3A0C40, lsb := 8, width := 1, acc := .ro, n1 := 9, s1 := 0x4,
    path := [.lit "sfe", .lit "mod", .plain 0 0, .lit "cal"] }
/-- group: bits [3:0]. -/
def modGroup : Fld :=
  { base := 0x3A0C40, lsb := 0, width := 4, acc := .ro, n1 := 9, s1 := 0x4, rst := [0, 1, 2, 3, 4, 5, 6, 7, 15],
    path := [.lit "sfe", .lit "mod", .plain 0 0, .lit "group"] }
/-! 10_sfe_digital.md R476 -/

/-- value: bits [31:0]. -/
def sdValue : Fld :=
  { base := 0x3C0000, lsb := 0, width := 32, acc := .ro, n1 := 24, s1 := 0x40, attrs := [.latching, .signed],
    path := [.lit "sfe", .obj 'S' 2 0, .lit "value"] }
/-- stale: bits [31:31]. -/
def sdStale : Fld :=
  { base := 0x3C0004, lsb := 31, width := 1, acc := .rs, n1 := 24, s1 := 0x40 }
/-- tag: bits [30:28]. -/
def sdTag : Fld :=
  { base := 0x3C0004, lsb := 28, width := 3, acc := .rs, n1 := 24, s1 := 0x40, attrs := [.latching],
    path := [.lit "sfe", .obj 'S' 2 0, .lit "tag"] }
/-- flags: bits [27:16]. -/
def sdFlags : Fld :=
  { base := 0x3C0004, lsb := 16, width := 12, acc := .rs, n1 := 24, s1 := 0x40, attrs := [.latching],
    path := [.lit "sfe", .obj 'S' 2 0, .lit "flags"] }
/-- seq: bits [15:0]. -/
def sdSeq : Fld :=
  { base := 0x3C0004, lsb := 0, width := 16, acc := .rs, n1 := 24, s1 := 0x40, attrs := [.latching],
    path := [.lit "sfe", .obj 'S' 2 0, .lit "seq"] }
/-- stamp: bits [62:0] over the words from the first. -/
def sdStamp : Fld :=
  { base := 0x3C0008, lsb := 0, width := 63, acc := .rs, n1 := 24, s1 := 0x40, attrs := [.latching],
    path := [.lit "sfe", .obj 'S' 2 0, .lit "stamp"] }
/-- coarseTag: bits [14:12]. -/
def sdCoarseTag : Fld :=
  { base := 0x3C0010, lsb := 12, width := 3, acc := .ro, n1 := 24, s1 := 0x40,
    path := [.lit "sfe", .obj 'S' 2 0, .lit "coarse", .lit "tag"] }
/-- coarse: bits [11:0]. -/
def sdCoarse : Fld :=
  { base := 0x3C0010, lsb := 0, width := 12, acc := .ro, n1 := 24, s1 := 0x40, attrs := [.signed],
    path := [.lit "sfe", .obj 'S' 2 0, .lit "coarse"] }
/-- firSwap: bits [31:31]. -/
def sdFirSwap : Fld :=
  { base := 0x3C0014, lsb := 31, width := 1, acc := .wo, n1 := 24, s1 := 0x40, attrs := [.command],
    path := [.lit "sfe", .obj 'S' 2 0, .lit "fir", .lit "swap"] }
/-- firSrc: bits [28:28]. -/
def sdFirSrc : Fld :=
  { base := 0x3C0014, lsb := 28, width := 1, acc := .rw, n1 := 24, s1 := 0x40,
    path := [.lit "sfe", .obj 'S' 2 0, .lit "fir", .lit "source"] }
/-- minph: bits [27:27]. -/
def sdMinph : Fld :=
  { base := 0x3C0014, lsb := 27, width := 1, acc := .rw, n1 := 24, s1 := 0x40,
    path := [.lit "sfe", .obj 'S' 2 0, .lit "fir", .lit "minph"] }
/-- firActive: bits [26:26]. -/
def sdFirActive : Fld :=
  { base := 0x3C0014, lsb := 26, width := 1, acc := .ro, n1 := 24, s1 := 0x40,
    path := [.lit "sfe", .obj 'S' 2 0, .lit "fir", .lit "active"] }
/-- spike: bits [25:24]. -/
def sdSpike : Fld :=
  { base := 0x3C0014, lsb := 24, width := 2, acc := .rw, n1 := 24, s1 := 0x40,
    path := [.lit "sfe", .obj 'S' 2 0, .lit "spike"] }
/-- firLen1: bits [23:16]. -/
def sdFirLen1 : Fld :=
  { base := 0x3C0014, lsb := 16, width := 8, acc := .ro, n1 := 24, s1 := 0x40, rst := [1],
    path := [.lit "sfe", .obj 'S' 2 0, .lit "fir", .lit "len"] }
/-- firLen0: bits [7:0]. -/
def sdFirLen0 : Fld :=
  { base := 0x3C0014, lsb := 0, width := 8, acc := .ro, n1 := 24, s1 := 0x40, rst := [1],
    path := [.lit "sfe", .obj 'S' 2 0, .lit "fir", .lit "len"] }
/-- spikeThr: bits [30:0]. -/
def sdSpikeThr : Fld :=
  { base := 0x3C0018, lsb := 0, width := 31, acc := .rw, n1 := 24, s1 := 0x40, rst := [2147483647],
    path := [.lit "sfe", .obj 'S' 2 0, .lit "spike", .lit "thr"] }
/-- linSwap: bits [31:31]. -/
def sdLinSwap : Fld :=
  { base := 0x3C001C, lsb := 31, width := 1, acc := .wo, n1 := 24, s1 := 0x40, attrs := [.command],
    path := [.lit "sfe", .obj 'S' 2 0, .lit "lin", .lit "swap"] }
/-- linMode: bits [29:28]. -/
def sdLinMode : Fld :=
  { base := 0x3C001C, lsb := 28, width := 2, acc := .rw, n1 := 24, s1 := 0x40,
    path := [.lit "sfe", .obj 'S' 2 0, .lit "lin", .lit "mode"] }
/-- linBank: bits [27:27]. -/
def sdLinBank : Fld :=
  { base := 0x3C001C, lsb := 27, width := 1, acc := .ro, n1 := 24, s1 := 0x40,
    path := [.lit "sfe", .obj 'S' 2 0, .lit "lin", .lit "bank"] }
/-- linTable: bits [19:16]. -/
def sdLinTable : Fld :=
  { base := 0x3C001C, lsb := 16, width := 4, acc := .rw, n1 := 24, s1 := 0x40,
    path := [.lit "sfe", .obj 'S' 2 0, .lit "lin", .lit "table"] }
/-- tchan: bits [12:8]. -/
def sdTchan : Fld :=
  { base := 0x3C001C, lsb := 8, width := 5, acc := .rw, n1 := 24, s1 := 0x40, rst := [24],
    path := [.lit "sfe", .obj 'S' 2 0, .lit "lin", .lit "tchan"] }
/-- gdelay: bits [31:0]. -/
def sdGdelay : Fld :=
  { base := 0x3C0020, lsb := 0, width := 32, acc := .ro, n1 := 24, s1 := 0x40,
    path := [.lit "sfe", .obj 'S' 2 0, .lit "gdelay"] }
/-- samples: bits [31:0]. -/
def sdSamples : Fld :=
  { base := 0x3C0024, lsb := 0, width := 32, acc := .ro, n1 := 24, s1 := 0x40,
    path := [.lit "sfe", .obj 'S' 2 0, .lit "count", .lit "samples"] }
/-- monitor: bits [31:0]. -/
def sdMonitor : Fld :=
  { base := 0x3C0028, lsb := 0, width := 32, acc := .rc, n1 := 24, s1 := 0x40,
    path := [.lit "sfe", .obj 'S' 2 0, .lit "count", .lit "monitor"] }
/-- spikes: bits [31:0]. -/
def sdSpikes : Fld :=
  { base := 0x3C002C, lsb := 0, width := 32, acc := .rc, n1 := 24, s1 := 0x40,
    path := [.lit "sfe", .obj 'S' 2 0, .lit "count", .lit "spikes"] }
/-- satCount: bits [31:0]. -/
def sdSatCount : Fld :=
  { base := 0x3C0030, lsb := 0, width := 32, acc := .rc, n1 := 24, s1 := 0x40,
    path := [.lit "sfe", .obj 'S' 2 0, .lit "count", .lit "sat"] }
/-! 10_sfe_digital.md R477 -/

/-- selChan: bits [20:16]. -/
def firSelChan : Fld :=
  { base := 0x2003C1000, lsb := 16, width := 5, acc := .rw, n1 := 96, s1 := 0x1000000, bank := .master, attrs := [.selector] }
/-- selBank: bits [8:8]. -/
def firSelBank : Fld :=
  { base := 0x2003C1000, lsb := 8, width := 1, acc := .rw, n1 := 96, s1 := 0x1000000, bank := .master, attrs := [.selector] }
/-- addr: bits [6:0]. -/
def firAddr : Fld :=
  { base := 0x2003C1004, lsb := 0, width := 7, acc := .rw, n1 := 96, s1 := 0x1000000, bank := .master, attrs := [.selector] }
/-- tap: bits [23:0]. -/
def firTap : Fld :=
  { base := 0x3C1008, lsb := 0, width := 24, acc := .rw, rst := [4194304] }
/-- commit: bits [31:31]. -/
def firCommit : Fld :=
  { base := 0x3C100C, lsb := 31, width := 1, acc := .wo, attrs := [.command] }
/-- len: bits [7:0]. -/
def firLen : Fld :=
  { base := 0x3C100C, lsb := 0, width := 8, acc := .wo, attrs := [.datum] }
/-- selBank: bits [16:16]. -/
def linSelBank : Fld :=
  { base := 0x2003C1010, lsb := 16, width := 1, acc := .rw, n1 := 96, s1 := 0x1000000, bank := .master, attrs := [.selector] }
/-- selTable: bits [12:8]. -/
def linSelTable : Fld :=
  { base := 0x2003C1010, lsb := 8, width := 5, acc := .rw, n1 := 96, s1 := 0x1000000, bank := .master, attrs := [.selector] }
/-- selKind: bits [4:4]. -/
def linSelKind : Fld :=
  { base := 0x2003C1010, lsb := 4, width := 1, acc := .rw, n1 := 96, s1 := 0x1000000, bank := .master, attrs := [.selector] }
/-- addr: bits [6:0]. -/
def linAddr : Fld :=
  { base := 0x2003C1014, lsb := 0, width := 7, acc := .rw, n1 := 96, s1 := 0x1000000, bank := .master, attrs := [.selector] }
/-- data: bits [31:0]. -/
def linData : Fld :=
  { base := 0x3C1018, lsb := 0, width := 32, acc := .rw }
/-- commit: bits [31:31]. -/
def linCommit : Fld :=
  { base := 0x3C101C, lsb := 31, width := 1, acc := .wo, attrs := [.command] }
/-- np: bits [6:0]. -/
def linNp : Fld :=
  { base := 0x3C101C, lsb := 0, width := 7, acc := .wo, attrs := [.datum] }
/-- busy: bits [2:2]. -/
def bankBusy : Fld :=
  { base := 0x3C1020, lsb := 2, width := 1, acc := .rc }
/-- valid: bits [1:1]. -/
def bankValid : Fld :=
  { base := 0x3C1020, lsb := 1, width := 1, acc := .ro, rst := [1] }
/-- error: bits [0:0]. -/
def bankError : Fld :=
  { base := 0x3C1020, lsb := 0, width := 1, acc := .rc }
/-- gain: bits [31:0]. -/
def modtGain : Fld :=
  { base := 0x3C1100, lsb := 0, width := 32, acc := .ro, n1 := 9, s1 := 0x8, rst := [4194304],
    path := [.lit "sfe", .lit "mod", .plain 0 0, .lit "gain"] }
/-- ofs: bits [31:0]. -/
def modtOfs : Fld :=
  { base := 0x3C1104, lsb := 0, width := 32, acc := .ro, n1 := 9, s1 := 0x8, attrs := [.signed],
    path := [.lit "sfe", .lit "mod", .plain 0 0, .lit "ofs"] }
/-! 11_live_calibration.md R511 -/

/-- now: bits [31:31]. -/
def calNow : Fld :=
  { base := 0x3C2000, lsb := 31, width := 1, acc := .wo, attrs := [.command],
    path := [.lit "cal", .lit "rotation", .lit "now"] }
/-- rotEn: bits [30:30]. -/
def calRotEn : Fld :=
  { base := 0x3C2000, lsb := 30, width := 1, acc := .rw, rst := [1],
    path := [.lit "cal", .lit "rotation", .lit "enable"] }
/-- interval: bits [15:0]. -/
def calInterval : Fld :=
  { base := 0x3C2000, lsb := 0, width := 16, acc := .rw, rst := [8000],
    path := [.lit "cal", .lit "rotation", .lit "interval"] }
/-- phase: bits [30:28]. -/
def calPhase : Fld :=
  { base := 0x3C2004, lsb := 28, width := 3, acc := .ro,
    path := [.lit "cal", .lit "rotation", .lit "phase"] }
/-- group: bits [19:16]. -/
def calGroup : Fld :=
  { base := 0x3C2004, lsb := 16, width := 4, acc := .ro,
    path := [.lit "cal", .lit "rotation", .lit "group"] }
/-- step: bits [15:8]. -/
def calStep : Fld :=
  { base := 0x3C2004, lsb := 8, width := 8, acc := .ro,
    path := [.lit "cal", .lit "rotation", .lit "step"] }
/-- parked: bits [0:0]. -/
def calParked : Fld :=
  { base := 0x3C2004, lsb := 0, width := 1, acc := .ro,
    path := [.lit "cal", .lit "rotation", .lit "parked"] }
/-- rotations: bits [31:0]. -/
def calRotations : Fld :=
  { base := 0x3C2008, lsb := 0, width := 32, acc := .ro,
    path := [.lit "cal", .lit "rotation", .lit "count"] }
/-- late: bits [31:0]. -/
def calLate : Fld :=
  { base := 0x3C200C, lsb := 0, width := 32, acc := .rc,
    path := [.lit "cal", .lit "rotation", .lit "late"] }
/-- state: bits [1:0]. -/
def modcState : Fld :=
  { base := 0x3C2040, lsb := 0, width := 2, acc := .ro, n1 := 9, s1 := 0x4,
    path := [.lit "sfe", .lit "mod", .plain 0 0, .lit "state"] }
/-- en: bits [31:31]. -/
def flkEn : Fld :=
  { base := 0x3C2100, lsb := 31, width := 1, acc := .rw,
    path := [.lit "flicker", .lit "enable"] }
/-- chan: bits [28:24]. -/
def flkChan : Fld :=
  { base := 0x3C2100, lsb := 24, width := 5, acc := .rw, attrs := [.naming], rst := [17],
    path := [.lit "flicker", .lit "chan"] }
/-- mains: bits [17:16]. -/
def flkMains : Fld :=
  { base := 0x3C2100, lsb := 16, width := 2, acc := .rw,
    path := [.lit "flicker", .lit "mains"] }
/-- win: bits [15:8]. -/
def flkWin : Fld :=
  { base := 0x3C2100, lsb := 8, width := 8, acc := .rw, rst := [20],
    path := [.lit "flicker", .lit "window"] }
/-- depthMin: bits [7:0]. -/
def flkDepthMin : Fld :=
  { base := 0x3C2100, lsb := 0, width := 8, acc := .rw, rst := [20],
    path := [.lit "flicker", .lit "depth_min"] }
/-- locked: bits [31:31]. -/
def flkLocked : Fld :=
  { base := 0x3C2104, lsb := 31, width := 1, acc := .ro,
    path := [.lit "flicker", .lit "locked"] }
/-- depth: bits [15:0]. -/
def flkDepth : Fld :=
  { base := 0x3C2104, lsb := 0, width := 16, acc := .ro,
    path := [.lit "flicker", .lit "depth"] }
/-- freq: bits [31:0]. -/
def flkFreq : Fld :=
  { base := 0x3C2108, lsb := 0, width := 32, acc := .ro,
    path := [.lit "flicker", .lit "freq"] }
/-- phaseNow: bits [15:0]. -/
def flkPhaseNow : Fld :=
  { base := 0x3C210C, lsb := 0, width := 16, acc := .ro,
    path := [.lit "flicker", .lit "phase"] }
/-- err: bits [31:0]. -/
def flkErr : Fld :=
  { base := 0x3C2110, lsb := 0, width := 32, acc := .ro, attrs := [.signed],
    path := [.lit "flicker", .lit "error"] }
/-- unlocks: bits [31:0]. -/
def flkUnlocks : Fld :=
  { base := 0x3C2114, lsb := 0, width := 32, acc := .rc,
    path := [.lit "flicker", .lit "count", .lit "unlocks"] }

end Sys2Proof.Machine.Rg
end

