-- ==== Sys2Proof/Machine/RegMapLane.lean ====
section
/-! DEFINITION. The register fields of the Lane blocks, from the register tables of the spec: one definition a field, named
by its block and its name in the table. -/
namespace Sys2Proof.Machine.Rg

/-! 01_bell_timetable.md Table Bell.12 -/

/-- maxSym: bits [21:16]. -/
def lnMaxSym : Fld :=
  { base := 0x100400, lsb := 16, width := 6, acc := .rw, n1 := 64, s1 := 0x1000, attrs := [.binding], rst := [4],
    path := [.lit "lane", .obj 'L' 2 0, .lit "max_symbols"] }
/-- decode: bits [14:12]. -/
def lnDecode : Fld :=
  { base := 0x100400, lsb := 12, width := 3, acc := .rw, n1 := 64, s1 := 0x1000, attrs := [.binding], rst := [1],
    path := [.lit "lane", .obj 'L' 2 0, .lit "decode"] }
/-- tail: bits [9:8]. -/
def lnTail : Fld :=
  { base := 0x100400, lsb := 8, width := 2, acc := .rw, n1 := 64, s1 := 0x1000, attrs := [.binding], rst := [1],
    path := [.lit "lane", .obj 'L' 2 0, .lit "tail"] }
/-- weight: bits [7:0]. -/
def lnWeight : Fld :=
  { base := 0x100400, lsb := 0, width := 8, acc := .rw, n1 := 64, s1 := 0x1000, rst := [16],
    path := [.lit "lane", .obj 'L' 2 0, .lit "weight"] }
/-- lineMax: bits [23:0]. -/
def lnLineMax : Fld :=
  { base := 0x100404, lsb := 0, width := 24, acc := .rw, n1 := 64, s1 := 0x1000, attrs := [.binding], rst := [3750],
    path := [.lit "lane", .obj 'L' 2 0, .lit "line_max"] }
/-- span: bits [25:16]. -/
def lnSpan : Fld :=
  { base := 0x100408, lsb := 16, width := 10, acc := .ro, n1 := 64, s1 := 0x1000,
    path := [.lit "lane", .obj 'L' 2 0, .lit "span"] }
/-- unfit: bits [8:8]. -/
def lnUnfit : Fld :=
  { base := 0x100408, lsb := 8, width := 1, acc := .ro, n1 := 64, s1 := 0x1000,
    path := [.lit "lane", .obj 'L' 2 0, .lit "door", .lit "unfit"] }
/-- doorLast: bits [2:0]. -/
def lnDoorLast : Fld :=
  { base := 0x100408, lsb := 0, width := 3, acc := .ro, n1 := 64, s1 := 0x1000,
    path := [.lit "lane", .obj 'L' 2 0, .lit "door", .lit "last"] }
/-- credit: bits [15:0]. -/
def lnCredit : Fld :=
  { base := 0x10040C, lsb := 0, width := 16, acc := .ro, n1 := 64, s1 := 0x1000, rst := [256],
    path := [.lit "lane", .obj 'L' 2 0, .lit "credit"] }
/-- accepted: bits [63:0] over the words from the first. -/
def lnAccepted : Fld :=
  { base := 0x100410, lsb := 0, width := 64, acc := .rs, n1 := 64, s1 := 0x1000,
    path := [.lit "lane", .obj 'L' 2 0, .lit "door", .lit "accepted"] }
/-- refused: bits [63:0] over the words from the first. -/
def lnRefused : Fld :=
  { base := 0x100418, lsb := 0, width := 64, acc := .rs, n1 := 64, s1 := 0x1000,
    path := [.lit "lane", .obj 'L' 2 0, .lit "door", .lit "refused"] }
/-- late: bits [31:0]. -/
def lnLate : Fld :=
  { base := 0x100420, lsb := 0, width := 32, acc := .rc, n1 := 64, s1 := 0x1000,
    path := [.lit "lane", .obj 'L' 2 0, .lit "door", .lit "late"] }
/-- frameInt: bits [31:0]. -/
def lnFrameInt : Fld :=
  { base := 0x100424, lsb := 0, width := 32, acc := .ro, n1 := 64, s1 := 0x1000,
    path := [.lit "lane", .obj 'L' 2 0, .lit "frame_int"] }
/-! 03_capture_lanes.md R184 -/

/-- subwin: bits [21:20]. -/
def lnSubwin : Fld :=
  { base := 0x100000, lsb := 20, width := 2, acc := .rw, n1 := 64, s1 := 0x1000, attrs := [.binding],
    path := [.lit "lane", .obj 'L' 2 0, .lit "subwin"] }
/-- exposures: bits [17:16]. -/
def lnExposures : Fld :=
  { base := 0x100000, lsb := 16, width := 2, acc := .rw, n1 := 64, s1 := 0x1000, attrs := [.binding],
    path := [.lit "lane", .obj 'L' 2 0, .lit "exposures"] }
/-- vc2: bits [15:12]. -/
def lnVc2 : Fld :=
  { base := 0x100000, lsb := 12, width := 4, acc := .rw, n1 := 64, s1 := 0x1000, attrs := [.binding],
    path := [.lit "lane", .obj 'L' 2 0, .lit "vc"] }
/-- vc1: bits [11:8]. -/
def lnVc1 : Fld :=
  { base := 0x100000, lsb := 8, width := 4, acc := .rw, n1 := 64, s1 := 0x1000, attrs := [.binding],
    path := [.lit "lane", .obj 'L' 2 0, .lit "vc"] }
/-- vc0: bits [7:4]. -/
def lnVc0 : Fld :=
  { base := 0x100000, lsb := 4, width := 4, acc := .rw, n1 := 64, s1 := 0x1000, attrs := [.binding],
    path := [.lit "lane", .obj 'L' 2 0, .lit "vc"] }
/-- port: bits [2:0]. -/
def lnPort : Fld :=
  { base := 0x100000, lsb := 0, width := 3, acc := .rw, n1 := 64, s1 := 0x1000, attrs := [.binding], rst := [7],
    path := [.lit "lane", .obj 'L' 2 0, .lit "port"] }
/-- tagOffset: bits [27:16]. -/
def lnTagOffset : Fld :=
  { base := 0x100004, lsb := 16, width := 12, acc := .rw, n1 := 64, s1 := 0x1000, attrs := [.binding],
    path := [.lit "lane", .obj 'L' 2 0, .lit "tag", .lit "offset"] }
/-- tagSrc: bits [8:8]. -/
def lnTagSrc : Fld :=
  { base := 0x100004, lsb := 8, width := 1, acc := .rw, n1 := 64, s1 := 0x1000, attrs := [.binding],
    path := [.lit "lane", .obj 'L' 2 0, .lit "tag", .lit "source"] }
/-- dt: bits [5:0]. -/
def lnDt : Fld :=
  { base := 0x100004, lsb := 0, width := 6, acc := .rw, n1 := 64, s1 := 0x1000, attrs := [.binding], rst := [42],
    path := [.lit "lane", .obj 'L' 2 0, .lit "dt"] }
/-- height: bits [29:16]. -/
def lnHeight : Fld :=
  { base := 0x100008, lsb := 16, width := 14, acc := .rw, n1 := 64, s1 := 0x1000, attrs := [.binding],
    path := [.lit "lane", .obj 'L' 2 0, .lit "height"] }
/-- width: bits [13:0]. -/
def lnWidth : Fld :=
  { base := 0x100008, lsb := 0, width := 14, acc := .rw, n1 := 64, s1 := 0x1000, attrs := [.binding],
    path := [.lit "lane", .obj 'L' 2 0, .lit "width"] }
/-- y0: bits [29:16]. -/
def lnY0 : Fld :=
  { base := 0x10000C, lsb := 16, width := 14, acc := .rw, n1 := 64, s1 := 0x1000, attrs := [.binding],
    path := [.lit "lane", .obj 'L' 2 0, .lit "y0"] }
/-- x0: bits [13:0]. -/
def lnX0 : Fld :=
  { base := 0x10000C, lsb := 0, width := 14, acc := .rw, n1 := 64, s1 := 0x1000, attrs := [.binding],
    path := [.lit "lane", .obj 'L' 2 0, .lit "x0"] }
/-- errClass: bits [31:16]. -/
def lnErrClass : Fld :=
  { base := 0x100010, lsb := 16, width := 16, acc := .rw, n1 := 64, s1 := 0x1000, rst := [5893],
    path := [.lit "lane", .obj 'L' 2 0, .lit "err_class"] }
/-- probClean: bits [11:8]. -/
def lnProbClean : Fld :=
  { base := 0x100010, lsb := 8, width := 4, acc := .rw, n1 := 64, s1 := 0x1000, rst := [2],
    path := [.lit "lane", .obj 'L' 2 0, .lit "prob_clean"] }
/-- fnCheck: bits [3:3]. -/
def lnFnCheck : Fld :=
  { base := 0x100010, lsb := 3, width := 1, acc := .rw, n1 := 64, s1 := 0x1000, rst := [1],
    path := [.lit "lane", .obj 'L' 2 0, .lit "fn_check"] }
/-- badLine: bits [2:2]. -/
def lnBadLine : Fld :=
  { base := 0x100010, lsb := 2, width := 1, acc := .rw, n1 := 64, s1 := 0x1000,
    path := [.lit "lane", .obj 'L' 2 0, .lit "bad_line"] }
/-- onError: bits [1:1]. -/
def lnOnError : Fld :=
  { base := 0x100010, lsb := 1, width := 1, acc := .rw, n1 := 64, s1 := 0x1000,
    path := [.lit "lane", .obj 'L' 2 0, .lit "on_error"] }
/-- policy: bits [0:0]. -/
def lnPolicy : Fld :=
  { base := 0x100010, lsb := 0, width := 1, acc := .rw, n1 := 64, s1 := 0x1000,
    path := [.lit "lane", .obj 'L' 2 0, .lit "policy"] }
/-- bufFrames: bits [4:0]. -/
def lnBufFrames : Fld :=
  { base := 0x100014, lsb := 0, width := 5, acc := .rw, n1 := 64, s1 := 0x1000, attrs := [.binding], rst := [4],
    path := [.lit "lane", .obj 'L' 2 0, .lit "buffers"] }
/-- cmdReset: bits [2:2]. -/
def lnCmdReset : Fld :=
  { base := 0x100018, lsb := 2, width := 1, acc := .wo, n1 := 64, s1 := 0x1000, attrs := [.command] }
/-- cmdStop: bits [1:1]. -/
def lnCmdStop : Fld :=
  { base := 0x100018, lsb := 1, width := 1, acc := .wo, n1 := 64, s1 := 0x1000, attrs := [.command] }
/-- cmdStart: bits [0:0]. -/
def lnCmdStart : Fld :=
  { base := 0x100018, lsb := 0, width := 1, acc := .wo, n1 := 64, s1 := 0x1000, attrs := [.command] }
/-- state: bits [2:0]. -/
def lnState : Fld :=
  { base := 0x10001C, lsb := 0, width := 3, acc := .ro, n1 := 64, s1 := 0x1000,
    path := [.lit "lane", .obj 'L' 2 0, .lit "state"] }
/-- bindPend: bits [8:8]. -/
def lnBindPend : Fld :=
  { base := 0x10001C, lsb := 8, width := 1, acc := .ro, n1 := 64, s1 := 0x1000,
    path := [.lit "lane", .obj 'L' 2 0, .lit "bind_pending"] }
/-- frameNum: bits [31:0]. -/
def lnFrameNum : Fld :=
  { base := 0x100020, lsb := 0, width := 32, acc := .ro, n1 := 64, s1 := 0x1000,
    path := [.lit "lane", .obj 'L' 2 0, .lit "frame"] }
/-- markLast: bits [31:16]. -/
def lnMarkLast : Fld :=
  { base := 0x100024, lsb := 16, width := 16, acc := .ro, n1 := 64, s1 := 0x1000,
    path := [.lit "lane", .obj 'L' 2 0, .lit "mark"] }
/-- sensorFn: bits [15:0]. -/
def lnSensorFn : Fld :=
  { base := 0x100024, lsb := 0, width := 16, acc := .ro, n1 := 64, s1 := 0x1000,
    path := [.lit "lane", .obj 'L' 2 0, .lit "sensor_fn"] }
/-- frameStamp: bits [63:0] over the words from the first. -/
def lnFrameStamp : Fld :=
  { base := 0x100028, lsb := 0, width := 64, acc := .rs, n1 := 64, s1 := 0x1000,
    path := [.lit "lane", .obj 'L' 2 0, .lit "stamp"] }
/-- frames: bits [63:0] over the words from the first. -/
def lnFrames : Fld :=
  { base := 0x100030, lsb := 0, width := 64, acc := .rs, n1 := 64, s1 := 0x1000,
    path := [.lit "lane", .obj 'L' 2 0, .lit "count", .lit "frames"] }
/-- crcErr: bits [31:0]. -/
def lnCrcErr : Fld :=
  { base := 0x100040, lsb := 0, width := 32, acc := .rc, n1 := 64, s1 := 0x1000,
    path := [.lit "lane", .obj 'L' 2 0, .lit "count", .lit "crc"] }
/-- eccFixed: bits [31:0]. -/
def lnEccFixed : Fld :=
  { base := 0x100044, lsb := 0, width := 32, acc := .rc, n1 := 64, s1 := 0x1000,
    path := [.lit "lane", .obj 'L' 2 0, .lit "count", .lit "ecc_fixed"] }
/-- hdrLost: bits [31:0]. -/
def lnHdrLost : Fld :=
  { base := 0x100048, lsb := 0, width := 32, acc := .rc, n1 := 64, s1 := 0x1000,
    path := [.lit "lane", .obj 'L' 2 0, .lit "count", .lit "hdr_lost"] }
/-- shortLine: bits [31:0]. -/
def lnShortLine : Fld :=
  { base := 0x10004C, lsb := 0, width := 32, acc := .rc, n1 := 64, s1 := 0x1000,
    path := [.lit "lane", .obj 'L' 2 0, .lit "count", .lit "short_line"] }
/-- longLine: bits [31:0]. -/
def lnLongLine : Fld :=
  { base := 0x100050, lsb := 0, width := 32, acc := .rc, n1 := 64, s1 := 0x1000,
    path := [.lit "lane", .obj 'L' 2 0, .lit "count", .lit "long_line"] }
/-- shortFrame: bits [31:0]. -/
def lnShortFrame : Fld :=
  { base := 0x100054, lsb := 0, width := 32, acc := .rc, n1 := 64, s1 := 0x1000,
    path := [.lit "lane", .obj 'L' 2 0, .lit "count", .lit "short_frame"] }
/-- longFrame: bits [31:0]. -/
def lnLongFrame : Fld :=
  { base := 0x100058, lsb := 0, width := 32, acc := .rc, n1 := 64, s1 := 0x1000,
    path := [.lit "lane", .obj 'L' 2 0, .lit "count", .lit "long_frame"] }
/-- noFe: bits [31:0]. -/
def lnNoFe : Fld :=
  { base := 0x10005C, lsb := 0, width := 32, acc := .rc, n1 := 64, s1 := 0x1000,
    path := [.lit "lane", .obj 'L' 2 0, .lit "count", .lit "no_fe"] }
/-- overflow: bits [31:0]. -/
def lnOverflow : Fld :=
  { base := 0x100060, lsb := 0, width := 32, acc := .rc, n1 := 64, s1 := 0x1000,
    path := [.lit "lane", .obj 'L' 2 0, .lit "count", .lit "overflow"] }
/-- trailer: bits [31:0]. -/
def lnTrailer : Fld :=
  { base := 0x100064, lsb := 0, width := 32, acc := .rc, n1 := 64, s1 := 0x1000,
    path := [.lit "lane", .obj 'L' 2 0, .lit "count", .lit "trailer"] }
/-- lineSkip: bits [31:0]. -/
def lnLineSkip : Fld :=
  { base := 0x100068, lsb := 0, width := 32, acc := .rc, n1 := 64, s1 := 0x1000,
    path := [.lit "lane", .obj 'L' 2 0, .lit "count", .lit "line_skip"] }
/-- fnJump: bits [31:0]. -/
def lnFnJump : Fld :=
  { base := 0x10006C, lsb := 0, width := 32, acc := .rc, n1 := 64, s1 := 0x1000,
    path := [.lit "lane", .obj 'L' 2 0, .lit "count", .lit "fn_jump"] }
/-- dtMismatch: bits [31:0]. -/
def lnDtMismatch : Fld :=
  { base := 0x100070, lsb := 0, width := 32, acc := .rc, n1 := 64, s1 := 0x1000,
    path := [.lit "lane", .obj 'L' 2 0, .lit "count", .lit "dt_mismatch"] }
/-- orphan: bits [31:0]. -/
def lnOrphan : Fld :=
  { base := 0x100074, lsb := 0, width := 32, acc := .rc, n1 := 64, s1 := 0x1000,
    path := [.lit "lane", .obj 'L' 2 0, .lit "count", .lit "orphan"] }
/-- discarded: bits [31:0]. -/
def lnDiscarded : Fld :=
  { base := 0x100078, lsb := 0, width := 32, acc := .rc, n1 := 64, s1 := 0x1000,
    path := [.lit "lane", .obj 'L' 2 0, .lit "count", .lit "discarded"] }
/-- nobuf: bits [31:0]. -/
def lnNobuf : Fld :=
  { base := 0x10007C, lsb := 0, width := 32, acc := .rc, n1 := 64, s1 := 0x1000,
    path := [.lit "lane", .obj 'L' 2 0, .lit "count", .lit "nobuf"] }
/-- stopped: bits [31:0]. -/
def lnStopped : Fld :=
  { base := 0x100080, lsb := 0, width := 32, acc := .rc, n1 := 64, s1 := 0x1000,
    path := [.lit "lane", .obj 'L' 2 0, .lit "count", .lit "stopped"] }
/-! 04_pixel_pipeline.md R238 -/

/-- latchHold: bits [31:31]. -/
def lnLatchHold : Fld :=
  { base := 0x100800, lsb := 31, width := 1, acc := .rw, n1 := 64, s1 := 0x1000,
    path := [.lit "lane", .obj 'L' 2 0, .lit "latch_hold"] }
/-- profile: bits [19:16]. -/
def lnProfile : Fld :=
  { base := 0x100800, lsb := 16, width := 4, acc := .rw, n1 := 64, s1 := 0x1000, attrs := [.shadow],
    path := [.lit "lane", .obj 'L' 2 0, .lit "profile"] }
/-- bank: bits [12:12]. -/
def lnBank : Fld :=
  { base := 0x100800, lsb := 12, width := 1, acc := .rw, n1 := 64, s1 := 0x1000, attrs := [.shadow],
    path := [.lit "lane", .obj 'L' 2 0, .lit "bank"] }
/-- cfa: bits [10:8]. -/
def lnCfa : Fld :=
  { base := 0x100800, lsb := 8, width := 3, acc := .rw, n1 := 64, s1 := 0x1000, attrs := [.binding], rst := [4],
    path := [.lit "lane", .obj 'L' 2 0, .lit "cfa"] }
/-- stripe: bits [6:5]. -/
def lnStripe : Fld :=
  { base := 0x100800, lsb := 5, width := 2, acc := .rw, n1 := 64, s1 := 0x1000, attrs := [.binding], rst := [2],
    path := [.lit "lane", .obj 'L' 2 0, .lit "stripe"] }
/-- frameMode: bits [4:4]. -/
def lnFrameMode : Fld :=
  { base := 0x100800, lsb := 4, width := 1, acc := .rw, n1 := 64, s1 := 0x1000, attrs := [.binding],
    path := [.lit "lane", .obj 'L' 2 0, .lit "frame_mode"] }
/-- dynEn: bits [3:3]. -/
def lnDynEn : Fld :=
  { base := 0x100800, lsb := 3, width := 1, acc := .rw, n1 := 64, s1 := 0x1000, attrs := [.shadow], rst := [1],
    path := [.lit "lane", .obj 'L' 2 0, .lit "dyn", .lit "enable"] }
/-- shadeEn: bits [2:2]. -/
def lnShadeEn : Fld :=
  { base := 0x100800, lsb := 2, width := 1, acc := .rw, n1 := 64, s1 := 0x1000, attrs := [.shadow],
    path := [.lit "lane", .obj 'L' 2 0, .lit "shading", .lit "enable"] }
/-- staticEn: bits [1:1]. -/
def lnStaticEn : Fld :=
  { base := 0x100800, lsb := 1, width := 1, acc := .rw, n1 := 64, s1 := 0x1000, attrs := [.shadow], rst := [1],
    path := [.lit "lane", .obj 'L' 2 0, .lit "static", .lit "enable"] }
/-- order: bits [0:0]. -/
def lnOrder : Fld :=
  { base := 0x100800, lsb := 0, width := 1, acc := .rw, n1 := 64, s1 := 0x1000, attrs := [.binding],
    path := [.lit "lane", .obj 'L' 2 0, .lit "order"] }
/-- wg: bits [15:0]. -/
def lnWg : Fld :=
  { base := 0x100814, lsb := 0, width := 16, acc := .rw, n1 := 64, s1 := 0x1000, attrs := [.shadow], rst := [16384],
    path := [.lit "lane", .obj 'L' 2 0, .lit "white_gain"] }
/-- obTrack: bits [31:31]. -/
def lnObTrack : Fld :=
  { base := 0x100818, lsb := 31, width := 1, acc := .rw, n1 := 64, s1 := 0x1000, attrs := [.shadow],
    path := [.lit "lane", .obj 'L' 2 0, .lit "ob", .lit "track"] }
/-- obRows: bits [28:24]. -/
def lnObRows : Fld :=
  { base := 0x100818, lsb := 24, width := 5, acc := .rw, n1 := 64, s1 := 0x1000, attrs := [.shadow],
    path := [.lit "lane", .obj 'L' 2 0, .lit "ob", .lit "rows"] }
/-- obY0: bits [13:0]. -/
def lnObY0 : Fld :=
  { base := 0x100818, lsb := 0, width := 14, acc := .rw, n1 := 64, s1 := 0x1000, attrs := [.shadow],
    path := [.lit "lane", .obj 'L' 2 0, .lit "ob", .lit "y0"] }
/-- obCols: bits [29:16]. -/
def lnObCols : Fld :=
  { base := 0x10081C, lsb := 16, width := 14, acc := .rw, n1 := 64, s1 := 0x1000, attrs := [.shadow],
    path := [.lit "lane", .obj 'L' 2 0, .lit "ob", .lit "cols"] }
/-- obX0: bits [13:0]. -/
def lnObX0 : Fld :=
  { base := 0x10081C, lsb := 0, width := 14, acc := .rw, n1 := 64, s1 := 0x1000, attrs := [.shadow],
    path := [.lit "lane", .obj 'L' 2 0, .lit "ob", .lit "x0"] }
/-- slew: bits [15:0]. -/
def lnSlew : Fld :=
  { base := 0x100820, lsb := 0, width := 16, acc := .rw, n1 := 64, s1 := 0x1000, attrs := [.shadow], rst := [256],
    path := [.lit "lane", .obj 'L' 2 0, .lit "ob", .lit "slew"] }
/-- dynThr: bits [19:0]. -/
def lnDynThr : Fld :=
  { base := 0x100834, lsb := 0, width := 20, acc := .rw, n1 := 64, s1 := 0x1000, attrs := [.shadow], rst := [32768],
    path := [.lit "lane", .obj 'L' 2 0, .lit "dyn", .lit "threshold"] }
/-- refFill: bits [31:31]. -/
def lnRefFill : Fld :=
  { base := 0x100840, lsb := 31, width := 1, acc := .wo, n1 := 64, s1 := 0x1000, attrs := [.command],
    path := [.lit "lane", .obj 'L' 2 0, .lit "ref", .lit "fill"] }
/-- refSlot: bits [12:8]. -/
def lnRefSlot : Fld :=
  { base := 0x100840, lsb := 8, width := 5, acc := .rw, n1 := 64, s1 := 0x1000, attrs := [.shadow],
    path := [.lit "lane", .obj 'L' 2 0, .lit "ref", .lit "slot"] }
/-- refMode: bits [1:0]. -/
def lnRefMode : Fld :=
  { base := 0x100840, lsb := 0, width := 2, acc := .rw, n1 := 64, s1 := 0x1000, attrs := [.shadow],
    path := [.lit "lane", .obj 'L' 2 0, .lit "ref", .lit "mode"] }
/-- refTol: bits [7:0]. -/
def lnRefTol : Fld :=
  { base := 0x100844, lsb := 0, width := 8, acc := .rw, n1 := 64, s1 := 0x1000, attrs := [.shadow], rst := [8],
    path := [.lit "lane", .obj 'L' 2 0, .lit "ref", .lit "tol"] }
/-- refMatch: bits [23:0]. -/
def lnRefMatch : Fld :=
  { base := 0x100848, lsb := 0, width := 24, acc := .rw, n1 := 64, s1 := 0x1000, attrs := [.shadow],
    path := [.lit "lane", .obj 'L' 2 0, .lit "ref", .lit "match"] }
/-- pmarkLast: bits [23:16]. -/
def lnPmarkLast : Fld :=
  { base := 0x100850, lsb := 16, width := 8, acc := .ro, n1 := 64, s1 := 0x1000,
    path := [.lit "lane", .obj 'L' 2 0, .lit "pmark"] }
/-- missLast: bits [2:0]. -/
def lnMissLast : Fld :=
  { base := 0x100850, lsb := 0, width := 3, acc := .ro, n1 := 64, s1 := 0x1000,
    path := [.lit "lane", .obj 'L' 2 0, .lit "merge", .lit "missing"] }
/-- fillPend: bits [8:8]. -/
def lnFillPend : Fld :=
  { base := 0x100850, lsb := 8, width := 1, acc := .ro, n1 := 64, s1 := 0x1000,
    path := [.lit "lane", .obj 'L' 2 0, .lit "ref", .lit "pending"] }
/-- missTag: bits [15:0]. -/
def lnMissTag : Fld :=
  { base := 0x100854, lsb := 0, width := 16, acc := .ro, n1 := 64, s1 := 0x1000,
    path := [.lit "lane", .obj 'L' 2 0, .lit "merge", .lit "tag"] }
/-- verdict: bits [2:0]. -/
def lnVerdict : Fld :=
  { base := 0x100858, lsb := 0, width := 3, acc := .ro, n1 := 64, s1 := 0x1000,
    path := [.lit "lane", .obj 'L' 2 0, .lit "ref", .lit "verdict"] }
/-- diffLast: bits [23:0]. -/
def lnDiffLast : Fld :=
  { base := 0x10085C, lsb := 0, width := 24, acc := .ro, n1 := 64, s1 := 0x1000,
    path := [.lit "lane", .obj 'L' 2 0, .lit "ref", .lit "diff"] }
/-- dynCount: bits [23:0]. -/
def lnDynCount : Fld :=
  { base := 0x100860, lsb := 0, width := 24, acc := .ro, n1 := 64, s1 := 0x1000,
    path := [.lit "lane", .obj 'L' 2 0, .lit "dyn", .lit "count"] }
/-- partial: bits [31:0]. -/
def lnPartial : Fld :=
  { base := 0x100870, lsb := 0, width := 32, acc := .rc, n1 := 64, s1 := 0x1000,
    path := [.lit "lane", .obj 'L' 2 0, .lit "count", .lit "partial"] }
/-- noRef: bits [31:0]. -/
def lnNoRef : Fld :=
  { base := 0x100874, lsb := 0, width := 32, acc := .rc, n1 := 64, s1 := 0x1000,
    path := [.lit "lane", .obj 'L' 2 0, .lit "count", .lit "no_ref"] }
/-- partnerOrphan: bits [31:0]. -/
def lnPartnerOrphan : Fld :=
  { base := 0x100878, lsb := 0, width := 32, acc := .rc, n1 := 64, s1 := 0x1000,
    path := [.lit "lane", .obj 'L' 2 0, .lit "count", .lit "partner_orphan"] }
/-- partnerLate: bits [31:0]. -/
def lnPartnerLate : Fld :=
  { base := 0x10087C, lsb := 0, width := 32, acc := .rc, n1 := 64, s1 := 0x1000,
    path := [.lit "lane", .obj 'L' 2 0, .lit "count", .lit "partner_late"] }
/-- blBase: bits [19:0]. -/
def lnBlBase : Fld :=
  { base := 0x100804, lsb := 0, width := 20, acc := .rw, n1 := 64, s1 := 0x1000, n2 := 4, s2 := 0x4, attrs := [.shadow],
    path := [.lit "lane", .obj 'L' 2 0, .lit "black", .plain 1 0] }
/-- blTrack: bits [19:0]. -/
def lnBlTrack : Fld :=
  { base := 0x100824, lsb := 0, width := 20, acc := .ro, n1 := 64, s1 := 0x1000, n2 := 4, s2 := 0x4,
    path := [.lit "lane", .obj 'L' 2 0, .lit "black", .plain 1 0, .lit "tracked"] }
/-- sat: bits [31:16]. -/
def lnSat : Fld :=
  { base := 0x100838, lsb := 16, width := 16, acc := .rw, n1 := 64, s1 := 0x1000, n2 := 2, s2 := 0x4, attrs := [.shadow], rst := [61440],
    path := [.lit "lane", .obj 'L' 2 0, .lit "merge", .plain 1 0, .lit "sat"] }
/-- knee: bits [15:0]. -/
def lnKnee : Fld :=
  { base := 0x100838, lsb := 0, width := 16, acc := .rw, n1 := 64, s1 := 0x1000, n2 := 2, s2 := 0x4, attrs := [.shadow], rst := [4096],
    path := [.lit "lane", .obj 'L' 2 0, .lit "merge", .plain 1 0, .lit "knee"] }
/-! 05_statistics_outputs.md R274 -/

/-- statEn: bits [31:31]. -/
def lnStatEn : Fld :=
  { base := 0x100900, lsb := 31, width := 1, acc := .rw, n1 := 64, s1 := 0x1000, attrs := [.shadow], rst := [1],
    path := [.lit "lane", .obj 'L' 2 0, .lit "stats", .lit "enable"] }
/-- histCh: bits [2:0]. -/
def lnHistCh : Fld :=
  { base := 0x100900, lsb := 0, width := 3, acc := .rw, n1 := 64, s1 := 0x1000, attrs := [.shadow],
    path := [.lit "lane", .obj 'L' 2 0, .lit "stats", .lit "hist_ch"] }
/-- statY0: bits [29:16]. -/
def lnStatY0 : Fld :=
  { base := 0x100904, lsb := 16, width := 14, acc := .rw, n1 := 64, s1 := 0x1000, attrs := [.shadow],
    path := [.lit "lane", .obj 'L' 2 0, .lit "stats", .lit "y0"] }
/-- statX0: bits [13:0]. -/
def lnStatX0 : Fld :=
  { base := 0x100904, lsb := 0, width := 14, acc := .rw, n1 := 64, s1 := 0x1000, attrs := [.shadow],
    path := [.lit "lane", .obj 'L' 2 0, .lit "stats", .lit "x0"] }
/-- statH: bits [29:16]. -/
def lnStatH : Fld :=
  { base := 0x100908, lsb := 16, width := 14, acc := .rw, n1 := 64, s1 := 0x1000, attrs := [.shadow],
    path := [.lit "lane", .obj 'L' 2 0, .lit "stats", .lit "h"] }
/-- statW: bits [13:0]. -/
def lnStatW : Fld :=
  { base := 0x100908, lsb := 0, width := 14, acc := .rw, n1 := 64, s1 := 0x1000, attrs := [.shadow],
    path := [.lit "lane", .obj 'L' 2 0, .lit "stats", .lit "w"] }
/-- posted: bits [31:0]. -/
def lnPosted : Fld :=
  { base := 0x10090C, lsb := 0, width := 32, acc := .ro, n1 := 64, s1 := 0x1000,
    path := [.lit "lane", .obj 'L' 2 0, .lit "stats", .lit "posted"] }
/-- statSkip: bits [31:0]. -/
def lnStatSkip : Fld :=
  { base := 0x100910, lsb := 0, width := 32, acc := .rc, n1 := 64, s1 := 0x1000,
    path := [.lit "lane", .obj 'L' 2 0, .lit "count", .lit "stat_skip"] }
/-- statCur: bits [0:0]. -/
def lnStatCur : Fld :=
  { base := 0x100914, lsb := 0, width := 1, acc := .ro, n1 := 64, s1 := 0x1000,
    path := [.lit "lane", .obj 'L' 2 0, .lit "stats", .lit "cur"] }
/-- mirrorAddr: bits [63:0] over the words from the first. -/
def lnMirrorAddr : Fld :=
  { base := 0x100918, lsb := 0, width := 64, acc := .rw, n1 := 64, s1 := 0x1000,
    path := [.lit "lane", .obj 'L' 2 0, .lit "stats", .lit "mirror"] }
/-- mirrorFn: bits [3:0]. -/
def lnMirrorFn : Fld :=
  { base := 0x100920, lsb := 0, width := 4, acc := .rw, n1 := 64, s1 := 0x1000, attrs := [.function],
    path := [.lit "lane", .obj 'L' 2 0, .lit "stats", .lit "mirror_fn"] }
/-- mirrorDrop: bits [31:0]. -/
def lnMirrorDrop : Fld :=
  { base := 0x100924, lsb := 0, width := 32, acc := .rc, n1 := 64, s1 := 0x1000,
    path := [.lit "lane", .obj 'L' 2 0, .lit "count", .lit "mirror_drop"] }
/-- aeEn: bits [31:31]. -/
def lnAeEn : Fld :=
  { base := 0x100980, lsb := 31, width := 1, acc := .rw, n1 := 64, s1 := 0x1000, attrs := [.shadow],
    path := [.lit "lane", .obj 'L' 2 0, .lit "ae", .lit "enable"] }
/-- aeRb: bits [27:26]. -/
def lnAeRb : Fld :=
  { base := 0x100980, lsb := 26, width := 2, acc := .rw, n1 := 64, s1 := 0x1000, attrs := [.shadow], rst := [2],
    path := [.lit "lane", .obj 'L' 2 0, .lit "ae", .lit "reg_bytes"] }
/-- aeCci: bits [25:24]. -/
def lnAeCci : Fld :=
  { base := 0x100980, lsb := 24, width := 2, acc := .rw, n1 := 64, s1 := 0x1000, attrs := [.shadow, .naming],
    path := [.lit "lane", .obj 'L' 2 0, .lit "ae", .lit "cci"] }
/-- aeDev: bits [22:16]. -/
def lnAeDev : Fld :=
  { base := 0x100980, lsb := 16, width := 7, acc := .rw, n1 := 64, s1 := 0x1000, attrs := [.shadow],
    path := [.lit "lane", .obj 'L' 2 0, .lit "ae", .lit "dev"] }
/-- aeReg: bits [15:0]. -/
def lnAeReg : Fld :=
  { base := 0x100980, lsb := 0, width := 16, acc := .rw, n1 := 64, s1 := 0x1000, attrs := [.shadow],
    path := [.lit "lane", .obj 'L' 2 0, .lit "ae", .lit "reg"] }
/-- aeDeadband: bits [31:24]. -/
def lnAeDeadband : Fld :=
  { base := 0x100984, lsb := 24, width := 8, acc := .rw, n1 := 64, s1 := 0x1000, attrs := [.shadow], rst := [8],
    path := [.lit "lane", .obj 'L' 2 0, .lit "ae", .lit "deadband"] }
/-- aeTarget: bits [19:0]. -/
def lnAeTarget : Fld :=
  { base := 0x100984, lsb := 0, width := 20, acc := .rw, n1 := 64, s1 := 0x1000, attrs := [.shadow], rst := [262144],
    path := [.lit "lane", .obj 'L' 2 0, .lit "ae", .lit "target"] }
/-- aeMax: bits [31:16]. -/
def lnAeMax : Fld :=
  { base := 0x100988, lsb := 16, width := 16, acc := .rw, n1 := 64, s1 := 0x1000, attrs := [.shadow], rst := [65535],
    path := [.lit "lane", .obj 'L' 2 0, .lit "ae", .lit "max"] }
/-- aeMin: bits [15:0]. -/
def lnAeMin : Fld :=
  { base := 0x100988, lsb := 0, width := 16, acc := .rw, n1 := 64, s1 := 0x1000, attrs := [.shadow], rst := [1],
    path := [.lit "lane", .obj 'L' 2 0, .lit "ae", .lit "min"] }
/-- aeSkip: bits [27:24]. -/
def lnAeSkip : Fld :=
  { base := 0x10098C, lsb := 24, width := 4, acc := .rw, n1 := 64, s1 := 0x1000, attrs := [.shadow], rst := [2],
    path := [.lit "lane", .obj 'L' 2 0, .lit "ae", .lit "skip"] }
/-- aeQuant: bits [23:16]. -/
def lnAeQuant : Fld :=
  { base := 0x10098C, lsb := 16, width := 8, acc := .rw, n1 := 64, s1 := 0x1000, attrs := [.shadow], rst := [1],
    path := [.lit "lane", .obj 'L' 2 0, .lit "ae", .lit "quant"] }
/-- aeExp: bits [15:0]. -/
def lnAeExp : Fld :=
  { base := 0x10098C, lsb := 0, width := 16, acc := .rw, n1 := 64, s1 := 0x1000,
    path := [.lit "lane", .obj 'L' 2 0, .lit "ae", .lit "exposure"] }
/-- aeZones: bits [255:0] over the words from the first. -/
def lnAeZones : Fld :=
  { base := 0x100990, lsb := 0, width := 256, acc := .rw, n1 := 64, s1 := 0x1000, attrs := [.shadow], rst := [115792089237316195423570985008687907853269984665640564039457584007913129639935],
    path := [.lit "lane", .obj 'L' 2 0, .lit "ae", .lit "zones"] }
/-- wbEn: bits [31:31]. -/
def lnWbEn : Fld :=
  { base := 0x1009B0, lsb := 31, width := 1, acc := .rw, n1 := 64, s1 := 0x1000, attrs := [.shadow],
    path := [.lit "lane", .obj 'L' 2 0, .lit "wb", .lit "enable"] }
/-- wbUnity: bits [15:0]. -/
def lnWbUnity : Fld :=
  { base := 0x1009B0, lsb := 0, width := 16, acc := .rw, n1 := 64, s1 := 0x1000, attrs := [.shadow], rst := [256],
    path := [.lit "lane", .obj 'L' 2 0, .lit "wb", .lit "unity"] }
/-- wbRegB: bits [31:16]. -/
def lnWbRegB : Fld :=
  { base := 0x1009B4, lsb := 16, width := 16, acc := .rw, n1 := 64, s1 := 0x1000, attrs := [.shadow],
    path := [.lit "lane", .obj 'L' 2 0, .lit "wb", .lit "reg_b"] }
/-- wbRegR: bits [15:0]. -/
def lnWbRegR : Fld :=
  { base := 0x1009B4, lsb := 0, width := 16, acc := .rw, n1 := 64, s1 := 0x1000, attrs := [.shadow],
    path := [.lit "lane", .obj 'L' 2 0, .lit "wb", .lit "reg_r"] }
/-- wbLastB: bits [31:16]. -/
def lnWbLastB : Fld :=
  { base := 0x1009B8, lsb := 16, width := 16, acc := .ro, n1 := 64, s1 := 0x1000,
    path := [.lit "lane", .obj 'L' 2 0, .lit "wb", .lit "last"] }
/-- wbLastR: bits [15:0]. -/
def lnWbLastR : Fld :=
  { base := 0x1009B8, lsb := 0, width := 16, acc := .ro, n1 := 64, s1 := 0x1000,
    path := [.lit "lane", .obj 'L' 2 0, .lit "wb", .lit "last"] }
/-- aeFail: bits [31:0]. -/
def lnAeFail : Fld :=
  { base := 0x1009C0, lsb := 0, width := 32, acc := .rc, n1 := 64, s1 := 0x1000,
    path := [.lit "lane", .obj 'L' 2 0, .lit "count", .lit "ae_fail"] }
/-- dvY0: bits [29:16]. -/
def lnDvY0 : Fld :=
  { base := 0x100B00, lsb := 16, width := 14, acc := .rw, n1 := 64, s1 := 0x1000, attrs := [.binding],
    path := [.lit "lane", .obj 'L' 2 0, .lit "dv", .lit "y0"] }
/-- dvX0: bits [13:0]. -/
def lnDvX0 : Fld :=
  { base := 0x100B00, lsb := 0, width := 14, acc := .rw, n1 := 64, s1 := 0x1000, attrs := [.binding],
    path := [.lit "lane", .obj 'L' 2 0, .lit "dv", .lit "x0"] }
/-- dvH: bits [29:16]. -/
def lnDvH : Fld :=
  { base := 0x100B04, lsb := 16, width := 14, acc := .rw, n1 := 64, s1 := 0x1000, attrs := [.binding],
    path := [.lit "lane", .obj 'L' 2 0, .lit "dv", .lit "h"] }
/-- dvW: bits [13:0]. -/
def lnDvW : Fld :=
  { base := 0x100B04, lsb := 0, width := 14, acc := .rw, n1 := 64, s1 := 0x1000, attrs := [.binding],
    path := [.lit "lane", .obj 'L' 2 0, .lit "dv", .lit "w"] }
/-- en: bits [31:31]. -/
def osEn : Fld :=
  { base := 0x100A00, lsb := 31, width := 1, acc := .rw, n1 := 64, s1 := 0x1000, n2 := 4, s2 := 0x40,
    path := [.lit "lane", .obj 'L' 2 0, .lit "out", .plain 1 0, .lit "enable"] }
/-- fn: bits [19:16]. -/
def osFn : Fld :=
  { base := 0x100A00, lsb := 16, width := 4, acc := .rw, n1 := 64, s1 := 0x1000, n2 := 4, s2 := 0x40, attrs := [.function],
    path := [.lit "lane", .obj 'L' 2 0, .lit "out", .plain 1 0, .lit "fn"] }
/-- fmt: bits [2:0]. -/
def osFmt : Fld :=
  { base := 0x100A00, lsb := 0, width := 3, acc := .rw, n1 := 64, s1 := 0x1000, n2 := 4, s2 := 0x40, attrs := [.shadow],
    path := [.lit "lane", .obj 'L' 2 0, .lit "out", .plain 1 0, .lit "format"] }
/-- ny: bits [25:16]. -/
def osNy : Fld :=
  { base := 0x100A04, lsb := 16, width := 10, acc := .rw, n1 := 64, s1 := 0x1000, n2 := 4, s2 := 0x40, attrs := [.shadow], rst := [64],
    path := [.lit "lane", .obj 'L' 2 0, .lit "out", .plain 1 0, .lit "ny"] }
/-- nx: bits [9:0]. -/
def osNx : Fld :=
  { base := 0x100A04, lsb := 0, width := 10, acc := .rw, n1 := 64, s1 := 0x1000, n2 := 4, s2 := 0x40, attrs := [.shadow], rst := [64],
    path := [.lit "lane", .obj 'L' 2 0, .lit "out", .plain 1 0, .lit "nx"] }
/-- cy0: bits [29:16]. -/
def osCy0 : Fld :=
  { base := 0x100A08, lsb := 16, width := 14, acc := .rw, n1 := 64, s1 := 0x1000, n2 := 4, s2 := 0x40, attrs := [.shadow],
    path := [.lit "lane", .obj 'L' 2 0, .lit "out", .plain 1 0, .lit "y0"] }
/-- cx0: bits [13:0]. -/
def osCx0 : Fld :=
  { base := 0x100A08, lsb := 0, width := 14, acc := .rw, n1 := 64, s1 := 0x1000, n2 := 4, s2 := 0x40, attrs := [.shadow],
    path := [.lit "lane", .obj 'L' 2 0, .lit "out", .plain 1 0, .lit "x0"] }
/-- ch: bits [29:16]. -/
def osCh : Fld :=
  { base := 0x100A0C, lsb := 16, width := 14, acc := .rw, n1 := 64, s1 := 0x1000, n2 := 4, s2 := 0x40, attrs := [.shadow],
    path := [.lit "lane", .obj 'L' 2 0, .lit "out", .plain 1 0, .lit "h"] }
/-- cw: bits [13:0]. -/
def osCw : Fld :=
  { base := 0x100A0C, lsb := 0, width := 14, acc := .rw, n1 := 64, s1 := 0x1000, n2 := 4, s2 := 0x40, attrs := [.shadow],
    path := [.lit "lane", .obj 'L' 2 0, .lit "out", .plain 1 0, .lit "w"] }
/-- base: bits [63:0] over the words from the first. -/
def osBase : Fld :=
  { base := 0x100A10, lsb := 0, width := 64, acc := .rw, n1 := 64, s1 := 0x1000, n2 := 4, s2 := 0x40,
    path := [.lit "lane", .obj 'L' 2 0, .lit "out", .plain 1 0, .lit "base"] }
/-- slots: bits [22:16]. -/
def osSlots : Fld :=
  { base := 0x100A18, lsb := 16, width := 7, acc := .rw, n1 := 64, s1 := 0x1000, n2 := 4, s2 := 0x40, rst := [8],
    path := [.lit "lane", .obj 'L' 2 0, .lit "out", .plain 1 0, .lit "slots"] }
/-- stride: bits [15:0]. -/
def osStride : Fld :=
  { base := 0x100A18, lsb := 0, width := 16, acc := .rw, n1 := 64, s1 := 0x1000, n2 := 4, s2 := 0x40,
    path := [.lit "lane", .obj 'L' 2 0, .lit "out", .plain 1 0, .lit "stride"] }
/-- cons: bits [31:0]. -/
def osCons : Fld :=
  { base := 0x100A1C, lsb := 0, width := 32, acc := .rw, n1 := 64, s1 := 0x1000, n2 := 4, s2 := 0x40,
    path := [.lit "lane", .obj 'L' 2 0, .lit "out", .plain 1 0, .lit "cons"] }
/-- prod: bits [31:0]. -/
def osProd : Fld :=
  { base := 0x100A20, lsb := 0, width := 32, acc := .ro, n1 := 64, s1 := 0x1000, n2 := 4, s2 := 0x40,
    path := [.lit "lane", .obj 'L' 2 0, .lit "out", .plain 1 0, .lit "prod"] }
/-- drop: bits [31:0]. -/
def osDrop : Fld :=
  { base := 0x100A24, lsb := 0, width := 32, acc := .rc, n1 := 64, s1 := 0x1000, n2 := 4, s2 := 0x40,
    path := [.lit "lane", .obj 'L' 2 0, .lit "out", .plain 1 0, .lit "drop"] }
/-- outH: bits [29:16]. -/
def osOutH : Fld :=
  { base := 0x100A28, lsb := 16, width := 14, acc := .ro, n1 := 64, s1 := 0x1000, n2 := 4, s2 := 0x40,
    path := [.lit "lane", .obj 'L' 2 0, .lit "out", .plain 1 0, .lit "out_h"] }
/-- outW: bits [13:0]. -/
def osOutW : Fld :=
  { base := 0x100A28, lsb := 0, width := 14, acc := .ro, n1 := 64, s1 := 0x1000, n2 := 4, s2 := 0x40,
    path := [.lit "lane", .obj 'L' 2 0, .lit "out", .plain 1 0, .lit "out_w"] }
/-! 06_finding_decoding.md R312 -/

/-- qzEdge: bits [28:28]. -/
def lnQzEdge : Fld :=
  { base := 0x100C00, lsb := 28, width := 1, acc := .rw, n1 := 64, s1 := 0x1000, attrs := [.shadow],
    path := [.lit "lane", .obj 'L' 2 0, .lit "qz", .lit "edge"] }
/-- qzReq: bits [27:26]. -/
def lnQzReq : Fld :=
  { base := 0x100C00, lsb := 26, width := 2, acc := .rw, n1 := 64, s1 := 0x1000, attrs := [.shadow],
    path := [.lit "lane", .obj 'L' 2 0, .lit "qz", .lit "req"] }
/-- polarity: bits [25:24]. -/
def lnPolarity : Fld :=
  { base := 0x100C00, lsb := 24, width := 2, acc := .rw, n1 := 64, s1 := 0x1000, attrs := [.shadow],
    path := [.lit "lane", .obj 'L' 2 0, .lit "polarity"] }
/-- gs1En: bits [21:21]. -/
def lnGs1En : Fld :=
  { base := 0x100C00, lsb := 21, width := 1, acc := .rw, n1 := 64, s1 := 0x1000, attrs := [.binding],
    path := [.lit "lane", .obj 'L' 2 0, .lit "gs1", .lit "enable"] }
/-- gradeEn: bits [20:20]. -/
def lnGradeEn : Fld :=
  { base := 0x100C00, lsb := 20, width := 1, acc := .rw, n1 := 64, s1 := 0x1000, attrs := [.binding],
    path := [.lit "lane", .obj 'L' 2 0, .lit "grade", .lit "enable"] }
/-- symSet: bits [18:16]. -/
def lnSymSet : Fld :=
  { base := 0x100C00, lsb := 16, width := 3, acc := .rw, n1 := 64, s1 := 0x1000, attrs := [.shadow],
    path := [.lit "lane", .obj 'L' 2 0, .lit "sym", .lit "set"] }
/-- symEn: bits [15:0]. -/
def lnSymEn : Fld :=
  { base := 0x100C00, lsb := 0, width := 16, acc := .rw, n1 := 64, s1 := 0x1000, attrs := [.binding],
    path := [.lit "lane", .obj 'L' 2 0, .lit "sym", .lit "enable"] }
/-- aperture: bits [27:16]. -/
def lnAperture : Fld :=
  { base := 0x100C04, lsb := 16, width := 12, acc := .rw, n1 := 64, s1 := 0x1000, attrs := [.shadow],
    path := [.lit "lane", .obj 'L' 2 0, .lit "grade", .lit "aperture"] }
/-- expect: bits [14:8]. -/
def lnExpect : Fld :=
  { base := 0x100C04, lsb := 8, width := 7, acc := .rw, n1 := 64, s1 := 0x1000, attrs := [.shadow],
    path := [.lit "lane", .obj 'L' 2 0, .lit "expect"] }
/-- contrastMin: bits [7:0]. -/
def lnContrastMin : Fld :=
  { base := 0x100C04, lsb := 0, width := 8, acc := .rw, n1 := 64, s1 := 0x1000, attrs := [.shadow], rst := [24],
    path := [.lit "lane", .obj 'L' 2 0, .lit "contrast_min"] }
/-- refHi: bits [31:24]. -/
def lnRefHi : Fld :=
  { base := 0x100C08, lsb := 24, width := 8, acc := .rw, n1 := 64, s1 := 0x1000, attrs := [.shadow], rst := [100],
    path := [.lit "lane", .obj 'L' 2 0, .lit "grade", .lit "ref_hi"] }
/-- refLo: bits [23:16]. -/
def lnRefLo : Fld :=
  { base := 0x100C08, lsb := 16, width := 8, acc := .rw, n1 := 64, s1 := 0x1000, attrs := [.shadow],
    path := [.lit "lane", .obj 'L' 2 0, .lit "grade", .lit "ref_lo"] }
/-- calHi: bits [15:8]. -/
def lnCalHi : Fld :=
  { base := 0x100C08, lsb := 8, width := 8, acc := .rw, n1 := 64, s1 := 0x1000, attrs := [.shadow], rst := [255],
    path := [.lit "lane", .obj 'L' 2 0, .lit "grade", .lit "cal_hi"] }
/-- calLo: bits [7:0]. -/
def lnCalLo : Fld :=
  { base := 0x100C08, lsb := 0, width := 8, acc := .rw, n1 := 64, s1 := 0x1000, attrs := [.shadow],
    path := [.lit "lane", .obj 'L' 2 0, .lit "grade", .lit "cal_lo"] }
/-- anvil: bits [2:0]. -/
def lnAnvil : Fld :=
  { base := 0x100C0C, lsb := 0, width := 3, acc := .ro, n1 := 64, s1 := 0x1000,
    path := [.lit "lane", .obj 'L' 2 0, .lit "anvil"] }
/-- cand: bits [31:0]. -/
def lnCand : Fld :=
  { base := 0x100C10, lsb := 0, width := 32, acc := .rc, n1 := 64, s1 := 0x1000,
    path := [.lit "lane", .obj 'L' 2 0, .lit "count", .lit "cand"] }
/-- decoded: bits [31:0]. -/
def lnDecoded : Fld :=
  { base := 0x100C14, lsb := 0, width := 32, acc := .rc, n1 := 64, s1 := 0x1000,
    path := [.lit "lane", .obj 'L' 2 0, .lit "count", .lit "decoded"] }
/-- failFormat: bits [31:0]. -/
def lnFailFormat : Fld :=
  { base := 0x100C18, lsb := 0, width := 32, acc := .rc, n1 := 64, s1 := 0x1000,
    path := [.lit "lane", .obj 'L' 2 0, .lit "count", .lit "fail_format"] }
/-- failEcc: bits [31:0]. -/
def lnFailEcc : Fld :=
  { base := 0x100C1C, lsb := 0, width := 32, acc := .rc, n1 := 64, s1 := 0x1000,
    path := [.lit "lane", .obj 'L' 2 0, .lit "count", .lit "fail_ecc"] }
/-- failCheck: bits [31:0]. -/
def lnFailCheck : Fld :=
  { base := 0x100C20, lsb := 0, width := 32, acc := .rc, n1 := 64, s1 := 0x1000,
    path := [.lit "lane", .obj 'L' 2 0, .lit "count", .lit "fail_check"] }
/-- failLength: bits [31:0]. -/
def lnFailLength : Fld :=
  { base := 0x100C24, lsb := 0, width := 32, acc := .rc, n1 := 64, s1 := 0x1000,
    path := [.lit "lane", .obj 'L' 2 0, .lit "count", .lit "fail_length"] }
/-- failTimeout: bits [31:0]. -/
def lnFailTimeout : Fld :=
  { base := 0x100C28, lsb := 0, width := 32, acc := .rc, n1 := 64, s1 := 0x1000,
    path := [.lit "lane", .obj 'L' 2 0, .lit "count", .lit "fail_timeout"] }
/-- candExtra: bits [31:0]. -/
def lnCandExtra : Fld :=
  { base := 0x100C2C, lsb := 0, width := 32, acc := .rc, n1 := 64, s1 := 0x1000,
    path := [.lit "lane", .obj 'L' 2 0, .lit "count", .lit "cand_extra"] }
/-- noRead: bits [31:0]. -/
def lnNoRead : Fld :=
  { base := 0x100C30, lsb := 0, width := 32, acc := .rc, n1 := 64, s1 := 0x1000,
    path := [.lit "lane", .obj 'L' 2 0, .lit "count", .lit "no_read"] }
/-! 07_slate_tag.md R350 -/

/-- contEn: bits [31:31]. -/
def lnContEn : Fld :=
  { base := 0x100D00, lsb := 31, width := 1, acc := .rw, n1 := 64, s1 := 0x1000,
    path := [.lit "lane", .obj 'L' 2 0, .lit "slate", .lit "enable"] }
/-- freezeFill: bits [30:30]. -/
def lnFreezeFill : Fld :=
  { base := 0x100D00, lsb := 30, width := 1, acc := .rw, n1 := 64, s1 := 0x1000,
    path := [.lit "lane", .obj 'L' 2 0, .lit "slate", .lit "freeze_fill"] }
/-- sidCheck: bits [24:24]. -/
def lnSidCheck : Fld :=
  { base := 0x100D00, lsb := 24, width := 1, acc := .rw, n1 := 64, s1 := 0x1000,
    path := [.lit "lane", .obj 'L' 2 0, .lit "slate", .lit "sid_check"] }
/-- sidExpect: bits [23:16]. -/
def lnSidExpect : Fld :=
  { base := 0x100D00, lsb := 16, width := 8, acc := .rw, n1 := 64, s1 := 0x1000,
    path := [.lit "lane", .obj 'L' 2 0, .lit "slate", .lit "sid_expect"] }
/-- reorderWin: bits [13:8]. -/
def lnReorderWin : Fld :=
  { base := 0x100D00, lsb := 8, width := 6, acc := .rw, n1 := 64, s1 := 0x1000, rst := [8],
    path := [.lit "lane", .obj 'L' 2 0, .lit "slate", .lit "reorder_win"] }
/-- freezeRun: bits [7:0]. -/
def lnFreezeRun : Fld :=
  { base := 0x100D00, lsb := 0, width := 8, acc := .rw, n1 := 64, s1 := 0x1000, rst := [2],
    path := [.lit "lane", .obj 'L' 2 0, .lit "slate", .lit "freeze_run"] }
/-- gapMax: bits [23:0]. -/
def lnGapMax : Fld :=
  { base := 0x100D04, lsb := 0, width := 24, acc := .rw, n1 := 64, s1 := 0x1000, rst := [4096],
    path := [.lit "lane", .obj 'L' 2 0, .lit "slate", .lit "gap_max"] }
/-- classLast: bits [27:24]. -/
def lnClassLast : Fld :=
  { base := 0x100D08, lsb := 24, width := 4, acc := .ro, n1 := 64, s1 := 0x1000,
    path := [.lit "lane", .obj 'L' 2 0, .lit "slate", .lit "class"] }
/-- sidLast: bits [15:8]. -/
def lnSidLast : Fld :=
  { base := 0x100D08, lsb := 8, width := 8, acc := .ro, n1 := 64, s1 := 0x1000,
    path := [.lit "lane", .obj 'L' 2 0, .lit "slate", .lit "sid"] }
/-- highLast: bits [63:0] over the words from the first. -/
def lnHighLast : Fld :=
  { base := 0x100D0C, lsb := 0, width := 64, acc := .rs, n1 := 64, s1 := 0x1000,
    path := [.lit "lane", .obj 'L' 2 0, .lit "slate", .lit "high"] }
/-- cNext: bits [31:0]. -/
def lnCNext : Fld :=
  { base := 0x100D20, lsb := 0, width := 32, acc := .rc, n1 := 64, s1 := 0x1000,
    path := [.lit "lane", .obj 'L' 2 0, .lit "slate", .lit "count", .lit "next"] }
/-- cSkip: bits [31:0]. -/
def lnCSkip : Fld :=
  { base := 0x100D24, lsb := 0, width := 32, acc := .rc, n1 := 64, s1 := 0x1000,
    path := [.lit "lane", .obj 'L' 2 0, .lit "slate", .lit "count", .lit "skip"] }
/-- cDrops: bits [31:0]. -/
def lnCDrops : Fld :=
  { base := 0x100D28, lsb := 0, width := 32, acc := .rc, n1 := 64, s1 := 0x1000,
    path := [.lit "lane", .obj 'L' 2 0, .lit "slate", .lit "count", .lit "drops"] }
/-- cUnexamined: bits [31:0]. -/
def lnCUnexamined : Fld :=
  { base := 0x100D2C, lsb := 0, width := 32, acc := .rc, n1 := 64, s1 := 0x1000,
    path := [.lit "lane", .obj 'L' 2 0, .lit "slate", .lit "count", .lit "unexamined"] }
/-- cRepeat: bits [31:0]. -/
def lnCRepeat : Fld :=
  { base := 0x100D30, lsb := 0, width := 32, acc := .rc, n1 := 64, s1 := 0x1000,
    path := [.lit "lane", .obj 'L' 2 0, .lit "slate", .lit "count", .lit "repeat"] }
/-- cFrozen: bits [31:0]. -/
def lnCFrozen : Fld :=
  { base := 0x100D34, lsb := 0, width := 32, acc := .rc, n1 := 64, s1 := 0x1000,
    path := [.lit "lane", .obj 'L' 2 0, .lit "slate", .lit "count", .lit "frozen"] }
/-- cTagStuck: bits [31:0]. -/
def lnCTagStuck : Fld :=
  { base := 0x100D38, lsb := 0, width := 32, acc := .rc, n1 := 64, s1 := 0x1000,
    path := [.lit "lane", .obj 'L' 2 0, .lit "slate", .lit "count", .lit "tag_stuck"] }
/-- cCadence: bits [31:0]. -/
def lnCCadence : Fld :=
  { base := 0x100D3C, lsb := 0, width := 32, acc := .rc, n1 := 64, s1 := 0x1000,
    path := [.lit "lane", .obj 'L' 2 0, .lit "slate", .lit "count", .lit "cadence"] }
/-- cLate: bits [31:0]. -/
def lnCLate : Fld :=
  { base := 0x100D40, lsb := 0, width := 32, acc := .rc, n1 := 64, s1 := 0x1000,
    path := [.lit "lane", .obj 'L' 2 0, .lit "slate", .lit "count", .lit "late"] }
/-- cStale: bits [31:0]. -/
def lnCStale : Fld :=
  { base := 0x100D44, lsb := 0, width := 32, acc := .rc, n1 := 64, s1 := 0x1000,
    path := [.lit "lane", .obj 'L' 2 0, .lit "slate", .lit "count", .lit "stale"] }
/-- cRestart: bits [31:0]. -/
def lnCRestart : Fld :=
  { base := 0x100D48, lsb := 0, width := 32, acc := .rc, n1 := 64, s1 := 0x1000,
    path := [.lit "lane", .obj 'L' 2 0, .lit "slate", .lit "count", .lit "restart"] }
/-- cFirst: bits [31:0]. -/
def lnCFirst : Fld :=
  { base := 0x100D4C, lsb := 0, width := 32, acc := .rc, n1 := 64, s1 := 0x1000,
    path := [.lit "lane", .obj 'L' 2 0, .lit "slate", .lit "count", .lit "first"] }
/-- cMissing: bits [31:0]. -/
def lnCMissing : Fld :=
  { base := 0x100D50, lsb := 0, width := 32, acc := .rc, n1 := 64, s1 := 0x1000,
    path := [.lit "lane", .obj 'L' 2 0, .lit "slate", .lit "count", .lit "missing"] }
/-- cSidMismatch: bits [31:0]. -/
def lnCSidMismatch : Fld :=
  { base := 0x100D54, lsb := 0, width := 32, acc := .rc, n1 := 64, s1 := 0x1000,
    path := [.lit "lane", .obj 'L' 2 0, .lit "slate", .lit "count", .lit "sid_mismatch"] }
/-! 11_live_calibration.md R512 -/

/-- obDev: bits [19:0]. -/
def lnObDev : Fld :=
  { base := 0x100E00, lsb := 0, width := 20, acc := .rw, n1 := 64, s1 := 0x1000, rst := [65536],
    path := [.lit "lane", .obj 'L' 2 0, .lit "ob", .lit "dev"] }
/-- obSlewN: bits [7:0]. -/
def lnObSlewN : Fld :=
  { base := 0x100E04, lsb := 0, width := 8, acc := .rw, n1 := 64, s1 := 0x1000, rst := [16],
    path := [.lit "lane", .obj 'L' 2 0, .lit "ob", .lit "slew_n"] }
/-- obSlewed: bits [31:0]. -/
def lnObSlewed : Fld :=
  { base := 0x100E08, lsb := 0, width := 32, acc := .rc, n1 := 64, s1 := 0x1000,
    path := [.lit "lane", .obj 'L' 2 0, .lit "count", .lit "ob_slewed"] }
/-- obClamped: bits [31:0]. -/
def lnObClamped : Fld :=
  { base := 0x100E0C, lsb := 0, width := 32, acc := .rc, n1 := 64, s1 := 0x1000,
    path := [.lit "lane", .obj 'L' 2 0, .lit "count", .lit "ob_clamped"] }
/-- flkLineNs: bits [23:0]. -/
def lnFlkLineNs : Fld :=
  { base := 0x100E10, lsb := 0, width := 24, acc := .rw, n1 := 64, s1 := 0x1000,
    path := [.lit "lane", .obj 'L' 2 0, .lit "flicker", .lit "line_ns"] }
/-- flkStep: bits [15:0]. -/
def lnFlkStep : Fld :=
  { base := 0x100E14, lsb := 0, width := 16, acc := .ro, n1 := 64, s1 := 0x1000,
    path := [.lit "lane", .obj 'L' 2 0, .lit "flicker", .lit "step"] }

end Sys2Proof.Machine.Rg
end

