-- ==== Sys2Proof/Machine/RegMapNet.lean ====
section
/-! DEFINITION. The register fields of the Net blocks, from the register tables of the spec: one definition a field, named
by its block and its name in the table. -/
namespace Sys2Proof.Machine.Rg

/-! 12_delivery.md R557 -/

/-- sel: bits [11:0]. -/
def corrSel : Fld :=
  { base := 0x200300000, lsb := 0, width := 12, acc := .rw, n1 := 96, s1 := 0x1000000, bank := .master, attrs := [.selector] }
/-- apply: bits [31:31]. -/
def corrApply : Fld :=
  { base := 0x110000040, lsb := 31, width := 1, acc := .wo, n1 := 4096, s1 := 0x80, bank := .corrWin, attrs := [.command],
    path := [.lit "corr", .obj 'C' 4 0, .lit "apply"] }
/-- pending: bits [30:30]. -/
def corrPending : Fld :=
  { base := 0x110000040, lsb := 30, width := 1, acc := .ro, n1 := 4096, s1 := 0x80, bank := .corrWin,
    path := [.lit "corr", .obj 'C' 4 0, .lit "pending"] }
/-- kind: bits [29:28]. -/
def corrKind : Fld :=
  { base := 0x110000040, lsb := 28, width := 2, acc := .rw, n1 := 4096, s1 := 0x80, bank := .corrWin, attrs := [.staged],
    path := [.lit "corr", .obj 'C' 4 0, .lit "route", .lit "kind"] }
/-- route: bits [23:16]. -/
def corrRoute : Fld :=
  { base := 0x110000040, lsb := 16, width := 8, acc := .rw, n1 := 4096, s1 := 0x80, bank := .corrWin, attrs := [.staged],
    path := [.lit "corr", .obj 'C' 4 0, .lit "route"] }
/-- tenant: bits [13:8]. -/
def corrTenant : Fld :=
  { base := 0x110000040, lsb := 8, width := 6, acc := .rw, n1 := 4096, s1 := 0x80, bank := .corrWin, attrs := [.staged, .t00],
    path := [.lit "corr", .obj 'C' 4 0, .lit "tenant"] }
/-- suspended: bits [4:4]. -/
def corrSuspended : Fld :=
  { base := 0x110000040, lsb := 4, width := 1, acc := .ro, n1 := 4096, s1 := 0x80, bank := .corrWin,
    path := [.lit "corr", .obj 'C' 4 0, .lit "suspended"] }
/-- stalled: bits [3:3]. -/
def corrStalled : Fld :=
  { base := 0x110000040, lsb := 3, width := 1, acc := .ro, n1 := 4096, s1 := 0x80, bank := .corrWin,
    path := [.lit "corr", .obj 'C' 4 0, .lit "stalled"] }
/-- lanes: bits [63:0] over the words from the first. -/
def corrLanes : Fld :=
  { base := 0x110000044, lsb := 0, width := 64, acc := .rw, n1 := 4096, s1 := 0x80, bank := .corrWin, attrs := [.staged, .naming],
    path := [.lit "corr", .obj 'C' 4 0, .lit "lanes"] }
/-- symMask: bits [15:0]. -/
def corrSymMask : Fld :=
  { base := 0x11000004C, lsb := 0, width := 16, acc := .rw, n1 := 4096, s1 := 0x80, bank := .corrWin, attrs := [.staged], rst := [16383],
    path := [.lit "corr", .obj 'C' 4 0, .lit "symbologies"] }
/-- noticeCap: bits [27:16]. -/
def corrNoticeCap : Fld :=
  { base := 0x110000050, lsb := 16, width := 12, acc := .rw, n1 := 4096, s1 := 0x80, bank := .corrWin, attrs := [.staged], rst := [256],
    path := [.lit "corr", .obj 'C' 4 0, .lit "notice_cap"] }
/-- quota: bits [11:0]. -/
def corrQuota : Fld :=
  { base := 0x110000050, lsb := 0, width := 12, acc := .rw, n1 := 4096, s1 := 0x80, bank := .corrWin, attrs := [.staged], rst := [64],
    path := [.lit "corr", .obj 'C' 4 0, .lit "quota"] }
/-- resume: bits [19:16]. -/
def corrResume : Fld :=
  { base := 0x110000054, lsb := 16, width := 4, acc := .rw, n1 := 4096, s1 := 0x80, bank := .corrWin, rst := [8],
    path := [.lit "corr", .obj 'C' 4 0, .lit "resume"] }
/-- stallTimeout: bits [15:0]. -/
def corrStallTimeout : Fld :=
  { base := 0x110000054, lsb := 0, width := 16, acc := .rw, n1 := 4096, s1 := 0x80, bank := .corrWin, rst := [5000],
    path := [.lit "corr", .obj 'C' 4 0, .lit "stall_timeout"] }
/-- jxCode: bits [31:0]. -/
def corrJxCode : Fld :=
  { base := 0x110000058, lsb := 0, width := 32, acc := .wo, n1 := 4096, s1 := 0x80, bank := .corrWin, attrs := [.datum],
    path := [.lit "corr", .obj 'C' 4 0, .lit "code"] }
/-- used: bits [21:0]. -/
def corrUsed : Fld :=
  { base := 0x11000005C, lsb := 0, width := 22, acc := .ro, n1 := 4096, s1 := 0x80, bank := .corrWin,
    path := [.lit "corr", .obj 'C' 4 0, .lit "used"] }
/-- notices: bits [19:0]. -/
def corrNotices : Fld :=
  { base := 0x110000060, lsb := 0, width := 20, acc := .ro, n1 := 4096, s1 := 0x80, bank := .corrWin,
    path := [.lit "corr", .obj 'C' 4 0, .lit "notices"] }
/-- stalls: bits [31:0]. -/
def corrStalls : Fld :=
  { base := 0x110000064, lsb := 0, width := 32, acc := .rc, n1 := 4096, s1 := 0x80, bank := .corrWin,
    path := [.lit "corr", .obj 'C' 4 0, .lit "count", .lit "stalls"] }
/-- stallMs: bits [31:0]. -/
def corrStallMs : Fld :=
  { base := 0x110000068, lsb := 0, width := 32, acc := .ro, n1 := 4096, s1 := 0x80, bank := .corrWin,
    path := [.lit "corr", .obj 'C' 4 0, .lit "stall_ms"] }
/-- sessionValid: bits [7:7]. -/
def corrSessionValid : Fld :=
  { base := 0x11000006C, lsb := 7, width := 1, acc := .ro, n1 := 4096, s1 := 0x80, bank := .corrWin,
    path := [.lit "corr", .obj 'C' 4 0, .lit "session", .lit "valid"] }
/-- session: bits [5:0]. -/
def corrSession : Fld :=
  { base := 0x11000006C, lsb := 0, width := 6, acc := .ro, n1 := 4096, s1 := 0x80, bank := .corrWin,
    path := [.lit "corr", .obj 'C' 4 0, .lit "session"] }
/-! 12_delivery.md R558 -/

/-- arm: bits [31:31]. -/
def ringArm : Fld :=
  { base := 0x340000, lsb := 31, width := 1, acc := .rw, n1 := 256, s1 := 0x40,
    path := [.lit "ring", .plain 0 0, .lit "arm"] }
/-- armed: bits [30:30]. -/
def ringArmed : Fld :=
  { base := 0x340000, lsb := 30, width := 1, acc := .ro, n1 := 256, s1 := 0x40,
    path := [.lit "ring", .plain 0 0, .lit "armed"] }
/-- batchOpen: bits [29:29]. -/
def ringBatchOpen : Fld :=
  { base := 0x340000, lsb := 29, width := 1, acc := .ro, n1 := 256, s1 := 0x40,
    path := [.lit "ring", .plain 0 0, .lit "batch_open"] }
/-- fn: bits [27:24]. -/
def ringFn : Fld :=
  { base := 0x340000, lsb := 24, width := 4, acc := .rw, n1 := 256, s1 := 0x40, attrs := [.function],
    path := [.lit "ring", .plain 0 0, .lit "fn"] }
/-- vector: bits [21:16]. -/
def ringVector : Fld :=
  { base := 0x340000, lsb := 16, width := 6, acc := .rw, n1 := 256, s1 := 0x40,
    path := [.lit "ring", .plain 0 0, .lit "vector"] }
/-- slotsLog2: bits [4:0]. -/
def ringSlotsLog2 : Fld :=
  { base := 0x340000, lsb := 0, width := 5, acc := .rw, n1 := 256, s1 := 0x40, rst := [12],
    path := [.lit "ring", .plain 0 0, .lit "slots_log2"] }
/-- pageList: bits [63:0] over the words from the first. -/
def ringPageList : Fld :=
  { base := 0x340004, lsb := 0, width := 64, acc := .rw, n1 := 256, s1 := 0x40,
    path := [.lit "ring", .plain 0 0, .lit "page_list"] }
/-- prodAddr: bits [63:0] over the words from the first. -/
def ringProdAddr : Fld :=
  { base := 0x34000C, lsb := 0, width := 64, acc := .rw, n1 := 256, s1 := 0x40,
    path := [.lit "ring", .plain 0 0, .lit "prod_addr"] }
/-- coalCount: bits [23:16]. -/
def ringCoalCount : Fld :=
  { base := 0x340014, lsb := 16, width := 8, acc := .rw, n1 := 256, s1 := 0x40, rst := [8],
    path := [.lit "ring", .plain 0 0, .lit "coal", .lit "count"] }
/-- coalUs: bits [15:0]. -/
def ringCoalUs : Fld :=
  { base := 0x340014, lsb := 0, width := 16, acc := .rw, n1 := 256, s1 := 0x40, rst := [50],
    path := [.lit "ring", .plain 0 0, .lit "coal", .lit "us"] }
/-- cons: bits [31:0]. -/
def ringCons : Fld :=
  { base := 0x340018, lsb := 0, width := 32, acc := .rw, n1 := 256, s1 := 0x40,
    path := [.lit "ring", .plain 0 0, .lit "cons"] }
/-- prod: bits [31:0]. -/
def ringProd : Fld :=
  { base := 0x34001C, lsb := 0, width := 32, acc := .ro, n1 := 256, s1 := 0x40,
    path := [.lit "ring", .plain 0 0, .lit "prod"] }
/-- epoch: bits [7:0]. -/
def ringEpoch : Fld :=
  { base := 0x340020, lsb := 0, width := 8, acc := .ro, n1 := 256, s1 := 0x40,
    path := [.lit "ring", .plain 0 0, .lit "epoch"] }
/-- consBad: bits [31:0]. -/
def ringConsBad : Fld :=
  { base := 0x340024, lsb := 0, width := 32, acc := .rc, n1 := 256, s1 := 0x40,
    path := [.lit "ring", .plain 0 0, .lit "count", .lit "cons_bad"] }
/-- vecMiss: bits [31:0]. -/
def ringVecMiss : Fld :=
  { base := 0x340028, lsb := 0, width := 32, acc := .rc, n1 := 256, s1 := 0x40,
    path := [.lit "ring", .plain 0 0, .lit "count", .lit "vec_miss"] }
/-- batches: bits [31:0]. -/
def ringBatches : Fld :=
  { base := 0x34002C, lsb := 0, width := 32, acc := .ro, n1 := 256, s1 := 0x40,
    path := [.lit "ring", .plain 0 0, .lit "count", .lit "batches"] }
/-- winBase: bits [31:23]. -/
def pcieWinBase : Fld :=
  { base := 0x344000, lsb := 23, width := 9, acc := .rw, n1 := 16, s1 := 0x4,
    path := [.lit "pcie", .plain 0 0, .lit "window"] }
/-- link: bits [8:8]. -/
def pcieLink : Fld :=
  { base := 0x344100, lsb := 8, width := 1, acc := .ro,
    path := [.lit "pcie", .lit "link"] }
/-- width: bits [6:4]. -/
def pcieWidth : Fld :=
  { base := 0x344100, lsb := 4, width := 3, acc := .ro,
    path := [.lit "pcie", .lit "width"] }
/-- speed: bits [1:0]. -/
def pcieSpeed : Fld :=
  { base := 0x344100, lsb := 0, width := 2, acc := .ro,
    path := [.lit "pcie", .lit "speed"] }
/-- vecFn: bits [3:0]. -/
def pcieVecFn : Fld :=
  { base := 0x344200, lsb := 0, width := 4, acc := .rw, n1 := 64, s1 := 0x4,
    path := [.lit "pcie", .lit "vector", .plain 0 0, .lit "fn"] }
/-! 12_delivery.md R559 -/

/-- en: bits [31:31]. -/
def ethEn : Fld :=
  { base := 0x360000, lsb := 31, width := 1, acc := .rw, n1 := 2, s1 := 0x1000,
    path := [.lit "eth", .plain 0 0, .lit "enable"] }
/-- mode: bits [30:30]. -/
def ethMode : Fld :=
  { base := 0x360000, lsb := 30, width := 1, acc := .rw, n1 := 2, s1 := 0x1000,
    path := [.lit "eth", .plain 0 0, .lit "mode"] }
/-- vlanEn: bits [29:29]. -/
def ethVlanEn : Fld :=
  { base := 0x360000, lsb := 29, width := 1, acc := .rw, n1 := 2, s1 := 0x1000,
    path := [.lit "eth", .plain 0 0, .lit "vlan", .lit "enable"] }
/-- vlanId: bits [27:16]. -/
def ethVlanId : Fld :=
  { base := 0x360000, lsb := 16, width := 12, acc := .rw, n1 := 2, s1 := 0x1000,
    path := [.lit "eth", .plain 0 0, .lit "vlan", .lit "id"] }
/-- mtu: bits [13:0]. -/
def ethMtu : Fld :=
  { base := 0x360000, lsb := 0, width := 14, acc := .rw, n1 := 2, s1 := 0x1000, rst := [1500],
    path := [.lit "eth", .plain 0 0, .lit "mtu"] }
/-- mac: bits [47:0] over the words from the first. -/
def ethMac : Fld :=
  { base := 0x360004, lsb := 0, width := 48, acc := .rw, n1 := 2, s1 := 0x1000,
    path := [.lit "eth", .plain 0 0, .lit "mac"] }
/-- ip: bits [31:0]. -/
def ethIp : Fld :=
  { base := 0x36000C, lsb := 0, width := 32, acc := .rw, n1 := 2, s1 := 0x1000,
    path := [.lit "eth", .plain 0 0, .lit "ip"] }
/-- netmask: bits [31:0]. -/
def ethNetmask : Fld :=
  { base := 0x360010, lsb := 0, width := 32, acc := .rw, n1 := 2, s1 := 0x1000,
    path := [.lit "eth", .plain 0 0, .lit "netmask"] }
/-- gateway: bits [31:0]. -/
def ethGateway : Fld :=
  { base := 0x360014, lsb := 0, width := 32, acc := .rw, n1 := 2, s1 := 0x1000,
    path := [.lit "eth", .plain 0 0, .lit "gateway"] }
/-- ptpEn: bits [24:24]. -/
def ethPtpEn : Fld :=
  { base := 0x360018, lsb := 24, width := 1, acc := .rw, n1 := 2, s1 := 0x1000,
    path := [.lit "eth", .plain 0 0, .lit "ptp", .lit "enable"] }
/-- ptpDomain: bits [23:16]. -/
def ethPtpDomain : Fld :=
  { base := 0x360018, lsb := 16, width := 8, acc := .rw, n1 := 2, s1 := 0x1000,
    path := [.lit "eth", .plain 0 0, .lit "ptp", .lit "domain"] }
/-- jxPort: bits [15:0]. -/
def ethJxPort : Fld :=
  { base := 0x360018, lsb := 0, width := 16, acc := .rw, n1 := 2, s1 := 0x1000, rst := [5441],
    path := [.lit "eth", .plain 0 0, .lit "jx_port"] }
/-- ptpLock: bits [2:2]. -/
def ethPtpLock : Fld :=
  { base := 0x36001C, lsb := 2, width := 1, acc := .ro, n1 := 2, s1 := 0x1000,
    path := [.lit "eth", .plain 0 0, .lit "ptp", .lit "locked"] }
/-- link: bits [0:0]. -/
def ethLink : Fld :=
  { base := 0x36001C, lsb := 0, width := 1, acc := .ro, n1 := 2, s1 := 0x1000,
    path := [.lit "eth", .plain 0 0, .lit "link"] }
/-- ptpOffset: bits [31:0]. -/
def ethPtpOffset : Fld :=
  { base := 0x360020, lsb := 0, width := 32, acc := .ro, n1 := 2, s1 := 0x1000, attrs := [.signed],
    path := [.lit "eth", .plain 0 0, .lit "ptp", .lit "offset"] }
/-- badDgram: bits [31:0]. -/
def ethBadDgram : Fld :=
  { base := 0x360024, lsb := 0, width := 32, acc := .rc, n1 := 2, s1 := 0x1000,
    path := [.lit "eth", .plain 0 0, .lit "count", .lit "bad_dgram"] }
/-- window: bits [10:0]. -/
def jxWindow : Fld :=
  { base := 0x368000, lsb := 0, width := 11, acc := .rw, rst := [256],
    path := [.lit "jx", .lit "window"] }
/-- rtoMax: bits [31:16]. -/
def jxRtoMax : Fld :=
  { base := 0x368004, lsb := 16, width := 16, acc := .rw, rst := [2000],
    path := [.lit "jx", .lit "rto", .lit "max"] }
/-- rtoInit: bits [15:0]. -/
def jxRtoInit : Fld :=
  { base := 0x368004, lsb := 0, width := 16, acc := .rw, rst := [20],
    path := [.lit "jx", .lit "rto", .lit "init"] }
/-- keepalive: bits [31:16]. -/
def jxKeepalive : Fld :=
  { base := 0x368008, lsb := 16, width := 16, acc := .rw, rst := [1000],
    path := [.lit "jx", .lit "keepalive"] }
/-- rtoMin: bits [15:0]. -/
def jxRtoMin : Fld :=
  { base := 0x368008, lsb := 0, width := 16, acc := .rw, rst := [2],
    path := [.lit "jx", .lit "rto", .lit "min"] }
/-- sessTimeout: bits [15:0]. -/
def jxSessTimeout : Fld :=
  { base := 0x36800C, lsb := 0, width := 16, acc := .rw, rst := [10],
    path := [.lit "jx", .lit "timeout"] }
/-- boot: bits [31:0]. -/
def jxBoot : Fld :=
  { base := 0x368010, lsb := 0, width := 32, acc := .ro,
    path := [.lit "jx", .lit "boot"] }
/-- close: bits [31:31]. -/
def jxsClose : Fld :=
  { base := 0x369000, lsb := 31, width := 1, acc := .wo, n1 := 62, s1 := 0x40, attrs := [.command],
    path := [.lit "jx", .plain 0 0, .lit "close"] }
/-- state: bits [29:28]. -/
def jxsState : Fld :=
  { base := 0x369000, lsb := 28, width := 2, acc := .ro, n1 := 62, s1 := 0x40,
    path := [.lit "jx", .plain 0 0, .lit "state"] }
/-- port: bits [24:24]. -/
def jxsPort : Fld :=
  { base := 0x369000, lsb := 24, width := 1, acc := .ro, n1 := 62, s1 := 0x40,
    path := [.lit "jx", .plain 0 0, .lit "port"] }
/-- corr: bits [11:0]. -/
def jxsCorr : Fld :=
  { base := 0x369000, lsb := 0, width := 12, acc := .ro, n1 := 62, s1 := 0x40,
    path := [.lit "jx", .plain 0 0, .lit "corr"] }
/-- token: bits [31:0]. -/
def jxsToken : Fld :=
  { base := 0x369004, lsb := 0, width := 32, acc := .ro, n1 := 62, s1 := 0x40,
    path := [.lit "jx", .plain 0 0, .lit "token"] }
/-- peerIp: bits [31:0]. -/
def jxsPeerIp : Fld :=
  { base := 0x369008, lsb := 0, width := 32, acc := .ro, n1 := 62, s1 := 0x40,
    path := [.lit "jx", .plain 0 0, .lit "peer"] }
/-- peerUdp: bits [15:0]. -/
def jxsPeerUdp : Fld :=
  { base := 0x36900C, lsb := 0, width := 16, acc := .ro, n1 := 62, s1 := 0x40,
    path := [.lit "jx", .plain 0 0, .lit "peer"] }
/-- acked: bits [63:0] over the words from the first. -/
def jxsAcked : Fld :=
  { base := 0x369010, lsb := 0, width := 64, acc := .rs, n1 := 62, s1 := 0x40,
    path := [.lit "jx", .plain 0 0, .lit "acked"] }
/-- srtt: bits [31:0]. -/
def jxsSrtt : Fld :=
  { base := 0x369018, lsb := 0, width := 32, acc := .ro, n1 := 62, s1 := 0x40,
    path := [.lit "jx", .plain 0 0, .lit "srtt"] }
/-- rto: bits [31:0]. -/
def jxsRto : Fld :=
  { base := 0x36901C, lsb := 0, width := 32, acc := .ro, n1 := 62, s1 := 0x40,
    path := [.lit "jx", .plain 0 0, .lit "rto"] }
/-- retrans: bits [31:0]. -/
def jxsRetrans : Fld :=
  { base := 0x369020, lsb := 0, width := 32, acc := .rc, n1 := 62, s1 := 0x40,
    path := [.lit "jx", .plain 0 0, .lit "retrans"] }
/-- badAck: bits [31:0]. -/
def jxsBadAck : Fld :=
  { base := 0x369024, lsb := 0, width := 32, acc := .rc, n1 := 62, s1 := 0x40,
    path := [.lit "jx", .plain 0 0, .lit "count", .lit "bad_ack"] }
/-- outstanding: bits [10:0]. -/
def jxsOutstanding : Fld :=
  { base := 0x369028, lsb := 0, width := 11, acc := .ro, n1 := 62, s1 := 0x40,
    path := [.lit "jx", .plain 0 0, .lit "outstanding"] }
/-! 13_thotor_language.md R605 -/

/-- close: bits [31:31]. -/
def sesClose : Fld :=
  { base := 0x380000, lsb := 31, width := 1, acc := .wo, n1 := 16, s1 := 0x40, attrs := [.command],
    path := [.lit "session", .two 0, .lit "close"] }
/-- tenant: bits [21:16]. -/
def sesTenant : Fld :=
  { base := 0x380000, lsb := 16, width := 6, acc := .ro, n1 := 16, s1 := 0x40,
    path := [.lit "session", .two 0, .lit "tenant"] }
/-- events: bits [8:8]. -/
def sesEvents : Fld :=
  { base := 0x380000, lsb := 8, width := 1, acc := .rw, n1 := 16, s1 := 0x40,
    path := [.lit "session", .two 0, .lit "events"] }
/-- logged: bits [5:5]. -/
def sesLogged : Fld :=
  { base := 0x380000, lsb := 5, width := 1, acc := .ro, n1 := 16, s1 := 0x40,
    path := [.lit "session", .two 0, .lit "logged_in"] }
/-- echo: bits [4:4]. -/
def sesEcho : Fld :=
  { base := 0x380000, lsb := 4, width := 1, acc := .rw, n1 := 16, s1 := 0x40, rst := [1, 1, 0],
    path := [.lit "session", .two 0, .lit "echo"] }
/-- mode: bits [3:3]. -/
def sesMode : Fld :=
  { base := 0x380000, lsb := 3, width := 1, acc := .ro, n1 := 16, s1 := 0x40,
    path := [.lit "session", .two 0, .lit "mode"] }
/-- state: bits [1:0]. -/
def sesState : Fld :=
  { base := 0x380000, lsb := 0, width := 2, acc := .ro, n1 := 16, s1 := 0x40, rst := [1, 1, 0],
    path := [.lit "session", .two 0, .lit "state"] }
/-- flow: bits [11:8]. -/
def sesFlow : Fld :=
  { base := 0x380004, lsb := 8, width := 4, acc := .rw, n1 := 16, s1 := 0x40,
    path := [.lit "session", .two 0, .lit "flow"] }
/-- baud: bits [3:0]. -/
def sesBaud : Fld :=
  { base := 0x380004, lsb := 0, width := 4, acc := .rw, n1 := 16, s1 := 0x40, rst := [4],
    path := [.lit "session", .two 0, .lit "baud"] }
/-- idleS: bits [15:0]. -/
def sesIdleS : Fld :=
  { base := 0x380008, lsb := 0, width := 16, acc := .rw, n1 := 16, s1 := 0x40, rst := [0, 0, 600],
    path := [.lit "session", .two 0, .lit "idle"] }
/-- lines: bits [31:0]. -/
def sesLines : Fld :=
  { base := 0x38000C, lsb := 0, width := 32, acc := .ro, n1 := 16, s1 := 0x40,
    path := [.lit "session", .two 0, .lit "count", .lit "lines"] }
/-- errors: bits [31:0]. -/
def sesErrors : Fld :=
  { base := 0x380010, lsb := 0, width := 32, acc := .rc, n1 := 16, s1 := 0x40,
    path := [.lit "session", .two 0, .lit "count", .lit "errors"] }
/-- checkFail: bits [31:0]. -/
def sesCheckFail : Fld :=
  { base := 0x380014, lsb := 0, width := 32, acc := .rc, n1 := 16, s1 := 0x40,
    path := [.lit "session", .two 0, .lit "count", .lit "check_fail"] }
/-- evtLost: bits [31:0]. -/
def sesEvtLost : Fld :=
  { base := 0x380018, lsb := 0, width := 32, acc := .rc, n1 := 16, s1 := 0x40,
    path := [.lit "session", .two 0, .lit "count", .lit "evt_lost"] }
/-- peerIp: bits [31:0]. -/
def sesPeerIp : Fld :=
  { base := 0x38001C, lsb := 0, width := 32, acc := .ro, n1 := 16, s1 := 0x40,
    path := [.lit "session", .two 0, .lit "peer"] }
/-- peerPortEth: bits [16:16]. -/
def sesPeerPortEth : Fld :=
  { base := 0x380020, lsb := 16, width := 1, acc := .ro, n1 := 16, s1 := 0x40,
    path := [.lit "session", .two 0, .lit "peer"] }
/-- peerTcp: bits [15:0]. -/
def sesPeerTcp : Fld :=
  { base := 0x380020, lsb := 0, width := 16, acc := .ro, n1 := 16, s1 := 0x40,
    path := [.lit "session", .two 0, .lit "peer"] }
/-- fails: bits [1:0]. -/
def sesFails : Fld :=
  { base := 0x380024, lsb := 0, width := 2, acc := .ro, n1 := 16, s1 := 0x40,
    path := [.lit "session", .two 0, .lit "login_fails"] }
/-! 13_thotor_language.md R606 -/

/-- consoleAuto: bits [31:31]. -/
def thConsoleAuto : Fld :=
  { base := 0x380600, lsb := 31, width := 1, acc := .rw,
    path := [.lit "thotor", .lit "console_auto"] }
/-- tcpEn: bits [17:16]. -/
def thTcpEn : Fld :=
  { base := 0x380600, lsb := 16, width := 2, acc := .rw,
    path := [.lit "thotor", .lit "tcp", .lit "enable"] }
/-- lockS: bits [7:0]. -/
def thLockS : Fld :=
  { base := 0x380600, lsb := 0, width := 8, acc := .rw, rst := [10],
    path := [.lit "thotor", .lit "lock"] }
/-- code: bits [31:0]. -/
def thCode : Fld :=
  { base := 0x380400, lsb := 0, width := 32, acc := .wo, n1 := 64, s1 := 0x4, attrs := [.datum],
    path := [.lit "tenant", .obj 'T' 2 0, .lit "code"] }
/-- allow: bits [15:0]. -/
def thAllow : Fld :=
  { base := 0x380500, lsb := 0, width := 16, acc := .rw, n1 := 64, s1 := 0x4, rst := [65535],
    path := [.lit "tenant", .obj 'T' 2 0, .lit "sessions"] }

end Sys2Proof.Machine.Rg
end

