-- ==== Sys2Proof/Machine/RegMap.lean ====
section
/-! DEFINITION. The catalogue: every register field of the spec, for accesses by address and by Thotor path. -/
namespace Sys2Proof.Machine

/-- Part 0 of the catalogue. -/
def catalogue0 : List Fld :=
  [Rg.hearthPart, Rg.hearthVendor, Rg.hearthSlot, Rg.hearthStepMajor, Rg.hearthStepMinor, Rg.hearthTimebase,
   Rg.hearthSnapStale, Rg.hearthSnapValid, Rg.hearthSnapTarget, Rg.hearthSnapWord, Rg.mbindBound,
   Rg.mbindTenant, Rg.mbindSource, Rg.mbindUnbind, Rg.wakeEn, Rg.wakeLast, Rg.wakeStamp, Rg.wakeCount,
   Rg.wakeHold, Rg.wakeInPol, Rg.wakeUdp, Rg.wakeCode, Rg.wakeSavePage, Rg.wakeBad, Rg.wakeTrip, Rg.wakeMask,
   Rg.fwStart, Rg.fwImage, Rg.fwResult, Rg.fwState, Rg.dramUe, Rg.dramCe, Rg.dramRetired, Rg.bootReady,
   Rg.bootFatal, Rg.bootDegraded, Rg.bootPhase, Rg.bootMode, Rg.bootCauseB, Rg.bootCauseA]

/-- Part 1 of the catalogue. -/
def catalogue1 : List Fld :=
  [Rg.bootFallback, Rg.bootCause, Rg.bootBistFail, Rg.bootTimeUs, Rg.bootCount, Rg.bootVersion, Rg.bootPushGo,
   Rg.bootPushCause, Rg.bootHold, Rg.bootMinSvn, Rg.bootRevoked, Rg.bootBurnSvn, Rg.bootRevoke,
   Rg.bootFuseVal, Rg.bootFlashAddr, Rg.bootFlashData, Rg.bootFlashOp, Rg.bootFlashBusy, Rg.bootFlashError,
   Rg.supplyVioHOk, Rg.supplyVioPOk, Rg.supplyVioH3v3, Rg.supplyVioP3v3, Rg.supplyVinMv, Rg.bellReserve,
   Rg.bellAdmitPause, Rg.bellInEdge, Rg.bellOutPol, Rg.bellOutEn, Rg.bellSrc, Rg.bellPeriod, Rg.bellPeriodAct,
   Rg.bellOutAdvance, Rg.bellOutWidth, Rg.bellPtpPhase, Rg.bellCount, Rg.bellStamp, Rg.bellEarly,
   Rg.bellPendTemper, Rg.bellPendPeriod]

/-- Part 2 of the catalogue. -/
def catalogue2 : List Fld :=
  [Rg.bellPaused, Rg.bellRationed, Rg.bellHoldover, Rg.bellSrcAct, Rg.bellTtScale, Rg.bellTtBind, Rg.ttCap,
   Rg.ttNow, Rg.ttPeak, Rg.jnlForceCkpt, Rg.jnlCkptPeriods, Rg.jnlFill, Rg.jnlBootKind, Rg.jnlTorn,
   Rg.jnlReplay, Rg.jnlCkptSlot, Rg.jnlCkptBusy, Rg.jnlSerial, Rg.jnlStaged, Rg.jnlDoorOrdinal, Rg.jnlPfEn,
   Rg.jnlPfThresh, Rg.jnlPfArmed, Rg.jnlPfFlushUs, Rg.jnlGbOpen, Rg.jnlGbDataLost, Rg.jnlGbDups,
   Rg.jnlGbVoided, Rg.jnlGbSel, Rg.gbNextSeq, Rg.gbVisibleSeq, Rg.gbHeld, Rg.gbBlocker, Rg.gbState,
   Rg.pwVoteUp, Rg.pwVoteDown, Rg.pwTemperReq, Rg.pwRamping, Rg.pwCap, Rg.pwTarget]

/-- Part 3 of the catalogue. -/
def catalogue3 : List Fld :=
  [Rg.pwActive, Rg.pwTemperMax, Rg.pwVcore, Rg.pwPadHeld, Rg.pwPadRelease, Rg.rollState, Rg.rollVotes,
   Rg.rollInternal, Rg.rollHolding, Rg.rollDownAccess, Rg.rollSaveValid, Rg.rollRestoreOk, Rg.rollSaveLen,
   Rg.pwTemperReqT, Rg.th2State, Rg.th2DieTemp, Rg.th2SensorFault, Rg.th2ThrWarm, Rg.th2ThrHot, Rg.th2ThrCrit,
   Rg.th2Hyst, Rg.th2Dwell, Rg.th2TcapHot, Rg.th2TcapWarm, Rg.th2WarmUp, Rg.th2HotUp, Rg.th2CritUp,
   Rg.th2Downs, Rg.th2Sensor, Rg.evtPinPol, Rg.evtPend, Rg.srcEn, Rg.srcVecEn, Rg.srcVector, Rg.srcPins,
   Rg.srcQmask, Rg.srcRaised, Rg.qPop, Rg.qStampLo, Rg.qStampHi]

/-- Part 4 of the catalogue. -/
def catalogue4 : List Fld :=
  [Rg.qArg0, Rg.qArg1, Rg.qDepth, Rg.qLost, Rg.unitEpoch, Rg.unitReset, Rg.unitState, Rg.unitFaults,
   Rg.evtStaleReplies, Rg.evtDomReset, Rg.injEn, Rg.injFull, Rg.injGroups, Rg.injEvent, Rg.injArg0,
   Rg.injArg1, Rg.injFire, Rg.injLastMode, Rg.injLastEvent, Rg.injCount, Rg.testHold, Rg.testJtagRefused,
   Rg.testLoopPcie, Rg.testLoopEth, Rg.testPrbsPcie, Rg.testPrbsEth, Rg.testPrbsErr, Rg.testMbistRun,
   Rg.accOwn, Rg.accRun, Rg.accSet, Rg.accLook, Rg.accOwner, Rg.accShare, Rg.accObjects, Rg.accTarget,
   Rg.accDeniedReads, Rg.accDeniedWrites, Rg.accLastWrite, Rg.accLastMaster]

/-- Part 5 of the catalogue. -/
def catalogue5 : List Fld :=
  [Rg.accLastTenant, Rg.accLastWord, Rg.lnMaxSym, Rg.lnDecode, Rg.lnTail, Rg.lnWeight, Rg.lnLineMax,
   Rg.lnSpan, Rg.lnUnfit, Rg.lnDoorLast, Rg.lnCredit, Rg.lnAccepted, Rg.lnRefused, Rg.lnLate, Rg.lnFrameInt,
   Rg.lnSubwin, Rg.lnExposures, Rg.lnVc2, Rg.lnVc1, Rg.lnVc0, Rg.lnPort, Rg.lnTagOffset, Rg.lnTagSrc, Rg.lnDt,
   Rg.lnHeight, Rg.lnWidth, Rg.lnY0, Rg.lnX0, Rg.lnErrClass, Rg.lnProbClean, Rg.lnFnCheck, Rg.lnBadLine,
   Rg.lnOnError, Rg.lnPolicy, Rg.lnBufFrames, Rg.lnCmdReset, Rg.lnCmdStop, Rg.lnCmdStart, Rg.lnState,
   Rg.lnBindPend]

/-- Part 6 of the catalogue. -/
def catalogue6 : List Fld :=
  [Rg.lnFrameNum, Rg.lnMarkLast, Rg.lnSensorFn, Rg.lnFrameStamp, Rg.lnFrames, Rg.lnCrcErr, Rg.lnEccFixed,
   Rg.lnHdrLost, Rg.lnShortLine, Rg.lnLongLine, Rg.lnShortFrame, Rg.lnLongFrame, Rg.lnNoFe, Rg.lnOverflow,
   Rg.lnTrailer, Rg.lnLineSkip, Rg.lnFnJump, Rg.lnDtMismatch, Rg.lnOrphan, Rg.lnDiscarded, Rg.lnNobuf,
   Rg.lnStopped, Rg.lnLatchHold, Rg.lnProfile, Rg.lnBank, Rg.lnCfa, Rg.lnStripe, Rg.lnFrameMode, Rg.lnDynEn,
   Rg.lnShadeEn, Rg.lnStaticEn, Rg.lnOrder, Rg.lnWg, Rg.lnObTrack, Rg.lnObRows, Rg.lnObY0, Rg.lnObCols,
   Rg.lnObX0, Rg.lnSlew, Rg.lnDynThr]

/-- Part 7 of the catalogue. -/
def catalogue7 : List Fld :=
  [Rg.lnRefFill, Rg.lnRefSlot, Rg.lnRefMode, Rg.lnRefTol, Rg.lnRefMatch, Rg.lnPmarkLast, Rg.lnMissLast,
   Rg.lnFillPend, Rg.lnMissTag, Rg.lnVerdict, Rg.lnDiffLast, Rg.lnDynCount, Rg.lnPartial, Rg.lnNoRef,
   Rg.lnPartnerOrphan, Rg.lnPartnerLate, Rg.lnBlBase, Rg.lnBlTrack, Rg.lnSat, Rg.lnKnee, Rg.lnStatEn,
   Rg.lnHistCh, Rg.lnStatY0, Rg.lnStatX0, Rg.lnStatH, Rg.lnStatW, Rg.lnPosted, Rg.lnStatSkip, Rg.lnStatCur,
   Rg.lnMirrorAddr, Rg.lnMirrorFn, Rg.lnMirrorDrop, Rg.lnAeEn, Rg.lnAeRb, Rg.lnAeCci, Rg.lnAeDev, Rg.lnAeReg,
   Rg.lnAeDeadband, Rg.lnAeTarget, Rg.lnAeMax]

/-- Part 8 of the catalogue. -/
def catalogue8 : List Fld :=
  [Rg.lnAeMin, Rg.lnAeSkip, Rg.lnAeQuant, Rg.lnAeExp, Rg.lnAeZones, Rg.lnWbEn, Rg.lnWbUnity, Rg.lnWbRegB,
   Rg.lnWbRegR, Rg.lnWbLastB, Rg.lnWbLastR, Rg.lnAeFail, Rg.lnDvY0, Rg.lnDvX0, Rg.lnDvH, Rg.lnDvW, Rg.osEn,
   Rg.osFn, Rg.osFmt, Rg.osNy, Rg.osNx, Rg.osCy0, Rg.osCx0, Rg.osCh, Rg.osCw, Rg.osBase, Rg.osSlots,
   Rg.osStride, Rg.osCons, Rg.osProd, Rg.osDrop, Rg.osOutH, Rg.osOutW, Rg.lnQzEdge, Rg.lnQzReq, Rg.lnPolarity,
   Rg.lnGs1En, Rg.lnGradeEn, Rg.lnSymSet, Rg.lnSymEn]

/-- Part 9 of the catalogue. -/
def catalogue9 : List Fld :=
  [Rg.lnAperture, Rg.lnExpect, Rg.lnContrastMin, Rg.lnRefHi, Rg.lnRefLo, Rg.lnCalHi, Rg.lnCalLo, Rg.lnAnvil,
   Rg.lnCand, Rg.lnDecoded, Rg.lnFailFormat, Rg.lnFailEcc, Rg.lnFailCheck, Rg.lnFailLength, Rg.lnFailTimeout,
   Rg.lnCandExtra, Rg.lnNoRead, Rg.lnContEn, Rg.lnFreezeFill, Rg.lnSidCheck, Rg.lnSidExpect, Rg.lnReorderWin,
   Rg.lnFreezeRun, Rg.lnGapMax, Rg.lnClassLast, Rg.lnSidLast, Rg.lnHighLast, Rg.lnCNext, Rg.lnCSkip,
   Rg.lnCDrops, Rg.lnCUnexamined, Rg.lnCRepeat, Rg.lnCFrozen, Rg.lnCTagStuck, Rg.lnCCadence, Rg.lnCLate,
   Rg.lnCStale, Rg.lnCRestart, Rg.lnCFirst, Rg.lnCMissing]

/-- Part 10 of the catalogue. -/
def catalogue10 : List Fld :=
  [Rg.lnCSidMismatch, Rg.lnObDev, Rg.lnObSlewN, Rg.lnObSlewed, Rg.lnObClamped, Rg.lnFlkLineNs, Rg.lnFlkStep,
   Rg.csiRate, Rg.csiLinkTimeout, Rg.csiWakeEn, Rg.csiContClk, Rg.csiDlanes, Rg.parPclkMhz, Rg.parLinkTimeout,
   Rg.parFieldMode, Rg.parTrailGap, Rg.parTrailEn, Rg.parPclkEdge, Rg.parDeEn, Rg.parDePol, Rg.parVsPol,
   Rg.parHsPol, Rg.parSync, Rg.parWidth, Rg.parVStart, Rg.parHStart, Rg.portEn, Rg.portWakeSeen, Rg.portLp,
   Rg.portDeskewed, Rg.portLink, Rg.portHdrUncorr, Rg.portUnbound, Rg.portOverflow, Rg.portXyFixed,
   Rg.portLinkDowns, Rg.capBudget, Rg.cciStretchMs, Rg.cciSpeed, Rg.cciEn]

/-- Part 11 of the catalogue. -/
def catalogue11 : List Fld :=
  [Rg.cciCmdTag, Rg.cciCmdLane, Rg.cciCmdTrig, Rg.cciCmdDataBytes, Rg.cciCmdRegBytes, Rg.cciCmdRead,
   Rg.cciCmdDev, Rg.cciCmdReg, Rg.cciCmdData, Rg.cciResValid, Rg.cciResStatus, Rg.cciResTag, Rg.cciRdata,
   Rg.cciFull, Rg.cciResults, Rg.cciQueued, Rg.pipeIdle, Rg.pipeLane, Rg.pipeMhz, Rg.pipeSwitches,
   Rg.pipeCtxParity, Rg.pipeDataLost, Rg.pipeTblProfile, Rg.pipeTblBank, Rg.pipeTblTable, Rg.pipeTblAddr,
   Rg.pipeTblData, Rg.pipeTblCommit, Rg.pipeTblBusy, Rg.pipeTblValid, Rg.pipeTblError, Rg.pipeRefClear,
   Rg.pipeRefClearSlot, Rg.pipeRefHalf, Rg.pipeRefValid, Rg.statDramBase, Rg.outLive, Rg.outCoefLane,
   Rg.outCoefStream, Rg.outCoefPhase]

/-- Part 12 of the catalogue. -/
def catalogue12 : List Fld :=
  [Rg.outCoefBusy, Rg.outCoefTapHi, Rg.outCoefTapLo, Rg.anvState, Rg.anvEpoch, Rg.anvOpen, Rg.anvCoresBusy,
   Rg.anvFinderCycles, Rg.anvSramCorr, Rg.anvOpenLimit, Rg.anvDecodes, Rg.symMaxLen, Rg.symMinLen, Rg.symOpt,
   Rg.gs1Valid, Rg.gs1Variable, Rg.gs1Digits, Rg.gs1Len, Rg.gs1Ai, Rg.gs1TableVer, Rg.latEn, Rg.latPol,
   Rg.latChan, Rg.latLane, Rg.latClear, Rg.latThr, Rg.latHyst, Rg.latWindow, Rg.latOffset, Rg.latLast,
   Rg.latLastFc, Rg.latMin, Rg.latMax, Rg.latSum, Rg.latPairs, Rg.latUnpairedEdge, Rg.latUnpairedMark,
   Rg.blwVfieldMv, Rg.blwField, Rg.ledEn]

/-- Part 13 of the catalogue. -/
def catalogue13 : List Fld :=
  [Rg.ledGang, Rg.ledTrimEn, Rg.ledFlkEn, Rg.ledQen, Rg.ledRefSel, Rg.ledRefIdx, Rg.ledMaxPulses, Rg.ledRetry,
   Rg.ledDelay, Rg.ledWidth, Rg.ledISet, Rg.ledTrim, Rg.ledFlkPhase, Rg.ledFlkMax, Rg.ledQchan,
   Rg.ledFailStep, Rg.ledQDwell, Rg.ledQTimeout, Rg.ledQHyst, Rg.ledSkipLast, Rg.ledIMeas, Rg.ledVSink,
   Rg.ledQStep, Rg.ledShortV, Rg.ledQFault, Rg.ledLowCurrent, Rg.ledOpenF, Rg.ledShort, Rg.ledRetries,
   Rg.ledPulses, Rg.ledQUp, Rg.ledQDown, Rg.ledFlkMiss, Rg.ledSkOverlap, Rg.ledSkOverRate, Rg.ledSkNoField,
   Rg.ledSkFault, Rg.ledSkQuenched, Rg.ledThr, Rg.ledQ]

/-- Part 14 of the catalogue. -/
def catalogue14 : List Fld :=
  [Rg.ledTrimChan, Rg.ledTrimEvery, Rg.ledTrimDelay, Rg.ledTrimSpan, Rg.ledLref, Rg.ledTrimCapture,
   Rg.ledTrimLimit, Rg.ledTrimStepMax, Rg.ledTrimAvg, Rg.ledTrimLastM, Rg.ledTrimFlashes, Rg.ledTrimBad,
   Rg.doutOut, Rg.doutRestore, Rg.doutRefSel, Rg.doutRefIdx, Rg.doutMode, Rg.doutFollow, Rg.doutPol,
   Rg.doutRetry, Rg.doutDelay, Rg.doutWidth, Rg.doutLimitTime, Rg.doutIMeas, Rg.doutRetries, Rg.doutReadback,
   Rg.doutBackfeed, Rg.doutTied, Rg.doutOverload, Rg.doutSkips, Rg.dinWakeEn, Rg.dinEdge, Rg.dinLong,
   Rg.dinFilt, Rg.dinLevel, Rg.dinEdges, Rg.dinLastStamp, Rg.encCmpEn, Rg.encCmpDir, Rg.encDirInv]

/-- Part 15 of the catalogue. -/
def catalogue15 : List Fld :=
  [Rg.encValid, Rg.encPos, Rg.encNext, Rg.encPitch, Rg.encCompares, Rg.encErr, Rg.saEn, Rg.saRangeMode,
   Rg.saGain, Rg.saGainMax, Rg.saGainMin, Rg.saBlank, Rg.saExcSel, Rg.saPreset, Rg.saXpN, Rg.saXpP,
   Rg.saCheckNow, Rg.saCheckS, Rg.saZOpen, Rg.saZShort, Rg.saZLast, Rg.saSlots, Rg.saMod, Rg.saRange,
   Rg.saOpenF, Rg.saShort, Rg.saLeak, Rg.saOvervolt, Rg.saChecking, Rg.saChecks, Rg.saFails, Rg.saRangeUp,
   Rg.saRangeDown, Rg.saOverrange, Rg.saOvervoltN, Rg.excXpRtn, Rg.excXpF, Rg.excDest, Rg.excChop, Rg.excMode]

/-- Part 16 of the catalogue. -/
def catalogue16 : List Fld :=
  [Rg.excIUa, Rg.excLimit, Rg.excComply, Rg.excLeak, Rg.excIDiff, Rg.excLeakNa, Rg.xpBiasLimit, Rg.xpDrive,
   Rg.xpInput, Rg.xpBias, Rg.grdEn, Rg.grdLimit, Rg.grdChan, Rg.sfeToneEn, Rg.sfeRecheckMs, Rg.modCal,
   Rg.modGroup, Rg.sdValue, Rg.sdStale, Rg.sdTag, Rg.sdFlags, Rg.sdSeq, Rg.sdStamp, Rg.sdCoarseTag,
   Rg.sdCoarse, Rg.sdFirSwap, Rg.sdFirSrc, Rg.sdMinph, Rg.sdFirActive, Rg.sdSpike, Rg.sdFirLen1, Rg.sdFirLen0,
   Rg.sdSpikeThr, Rg.sdLinSwap, Rg.sdLinMode, Rg.sdLinBank, Rg.sdLinTable, Rg.sdTchan, Rg.sdGdelay,
   Rg.sdSamples]

/-- Part 17 of the catalogue. -/
def catalogue17 : List Fld :=
  [Rg.sdMonitor, Rg.sdSpikes, Rg.sdSatCount, Rg.firSelChan, Rg.firSelBank, Rg.firAddr, Rg.firTap,
   Rg.firCommit, Rg.firLen, Rg.linSelBank, Rg.linSelTable, Rg.linSelKind, Rg.linAddr, Rg.linData,
   Rg.linCommit, Rg.linNp, Rg.bankBusy, Rg.bankValid, Rg.bankError, Rg.modtGain, Rg.modtOfs, Rg.calNow,
   Rg.calRotEn, Rg.calInterval, Rg.calPhase, Rg.calGroup, Rg.calStep, Rg.calParked, Rg.calRotations,
   Rg.calLate, Rg.modcState, Rg.flkEn, Rg.flkChan, Rg.flkMains, Rg.flkWin, Rg.flkDepthMin, Rg.flkLocked,
   Rg.flkDepth, Rg.flkFreq, Rg.flkPhaseNow]

/-- Part 18 of the catalogue. -/
def catalogue18 : List Fld :=
  [Rg.flkErr, Rg.flkUnlocks, Rg.corrSel, Rg.corrApply, Rg.corrPending, Rg.corrKind, Rg.corrRoute,
   Rg.corrTenant, Rg.corrSuspended, Rg.corrStalled, Rg.corrLanes, Rg.corrSymMask, Rg.corrNoticeCap,
   Rg.corrQuota, Rg.corrResume, Rg.corrStallTimeout, Rg.corrJxCode, Rg.corrUsed, Rg.corrNotices,
   Rg.corrStalls, Rg.corrStallMs, Rg.corrSessionValid, Rg.corrSession, Rg.ringArm, Rg.ringArmed,
   Rg.ringBatchOpen, Rg.ringFn, Rg.ringVector, Rg.ringSlotsLog2, Rg.ringPageList, Rg.ringProdAddr,
   Rg.ringCoalCount, Rg.ringCoalUs, Rg.ringCons, Rg.ringProd, Rg.ringEpoch, Rg.ringConsBad, Rg.ringVecMiss,
   Rg.ringBatches, Rg.pcieWinBase]

/-- Part 19 of the catalogue. -/
def catalogue19 : List Fld :=
  [Rg.pcieLink, Rg.pcieWidth, Rg.pcieSpeed, Rg.pcieVecFn, Rg.ethEn, Rg.ethMode, Rg.ethVlanEn, Rg.ethVlanId,
   Rg.ethMtu, Rg.ethMac, Rg.ethIp, Rg.ethNetmask, Rg.ethGateway, Rg.ethPtpEn, Rg.ethPtpDomain, Rg.ethJxPort,
   Rg.ethPtpLock, Rg.ethLink, Rg.ethPtpOffset, Rg.ethBadDgram, Rg.jxWindow, Rg.jxRtoMax, Rg.jxRtoInit,
   Rg.jxKeepalive, Rg.jxRtoMin, Rg.jxSessTimeout, Rg.jxBoot, Rg.jxsClose, Rg.jxsState, Rg.jxsPort, Rg.jxsCorr,
   Rg.jxsToken, Rg.jxsPeerIp, Rg.jxsPeerUdp, Rg.jxsAcked, Rg.jxsSrtt, Rg.jxsRto, Rg.jxsRetrans, Rg.jxsBadAck,
   Rg.jxsOutstanding]

/-- Part 20 of the catalogue. -/
def catalogue20 : List Fld :=
  [Rg.sesClose, Rg.sesTenant, Rg.sesEvents, Rg.sesLogged, Rg.sesEcho, Rg.sesMode, Rg.sesState, Rg.sesFlow,
   Rg.sesBaud, Rg.sesIdleS, Rg.sesLines, Rg.sesErrors, Rg.sesCheckFail, Rg.sesEvtLost, Rg.sesPeerIp,
   Rg.sesPeerPortEth, Rg.sesPeerTcp, Rg.sesFails, Rg.thConsoleAuto, Rg.thTcpEn, Rg.thLockS, Rg.thCode,
   Rg.thAllow]

/-- Every register field of the engine. -/
def catalogue : List Fld :=
  catalogue0 ++ catalogue1 ++ catalogue2 ++ catalogue3 ++ catalogue4 ++ catalogue5 ++ catalogue6 ++ catalogue7 ++ catalogue8 ++ catalogue9 ++ catalogue10 ++ catalogue11 ++ catalogue12 ++ catalogue13 ++ catalogue14 ++ catalogue15 ++ catalogue16 ++ catalogue17 ++ catalogue18 ++ catalogue19 ++ catalogue20

end Sys2Proof.Machine
end

