-- ==== Sys2Proof/Machine/State.lean ====
section
/-! DEFINITION. The state of the engine as plain data, the faults and refusals, and the state after reset. -/
namespace Sys2Proof.Machine

/-- One lane beside its registers. -/
structure LaneSt where
  /-- the binding in force, by lane key (R826) -/
  bound : Kv Nat := []
  capture : Option Capture := none
  /-- credit in frames, R62 -/
  credit : Rat := 1
  /-- a Door decision has been made for the lane, R152 -/
  decided : Bool := false
  /-- Door ordinal of its last decision -/
  lastOrdinal : Nat := 0
  /-- clean frames in a row under PROBATION, R165 -/
  probClean : Nat := 0
  /-- frame number of the previous frame-start packet, R153 -/
  prevFn : Option Nat := none
  /-- a STOP waits for the open capture, R168 -/
  stopPending : Bool := false
  /-- lines count in DISCARDED, R156 -/
  deaf : Bool := false
  /-- tick of the last frame start, R228 -/
  lastFs : Option Nat := none
  /-- Period of the last frame start, R59 -/
  lastFsPeriod : Option Nat := none
  partners : List PartnerFrame := []
  /-- working set of the previous latch, R195 -/
  prevWs : Option (Kv Nat) := none
  prevSym : List (Nat × Nat × Nat) := []
  /-- tick of the last write of the shadow set or its symbology set, and what stood before that tick: LATCH_HOLD, the shadow
  fields and the symbology words, R194 and R291 -/
  shadowOld : Option ShadowCopy := none
  /-- OB_TRACK went from 0 to 1: the next latch restarts tracking, R206 -/
  obRestart : Bool := false
  /-- frames in a row whose update SLEW cut, by phase, R493 -/
  obSlew : List Nat := [0, 0, 0, 0]
  /-- tag, stamp and frame number of the last refused frame, whose partners are discarded, R231 -/
  refusedTag : Option (Option Nat × Nat × Nat) := none
  /-- tick at which a STOP last took effect at once, and the state before, R181 -/
  stoppedAt : Option (Nat × Nat) := none
  /-- the posted statistics block of each buffer, R249 -/
  stat0 : List Byte := []
  stat1 : List Byte := []
  /-- posts since the exposure loop's last write, R254 -/
  aeSince : Nat := 15
  /-- the four output streams -/
  streams : List StreamSt := [{}, {}, {}, {}]
  /-- continuity: most recently used first, at most 4, R333 -/
  trackers : List Tracker := []
  /-- lane frame number of the last examined Billet, R334 -/
  lastExamined : Option Nat := none
  deriving DecidableEq, Repr

/-- The machine: every register, queue, buffer, mode and pin, and the commands that wait, first in, first out. -/
structure State where
  /-- the timebase, in ticks of 4 ns -/
  now : Nat := 0
  /-- the register file by field key; a field that is not listed holds its reset value -/
  regs : Kv Nat := []
  /-- counter of the free values: the model's own -/
  freeCount : Nat := 0
  evt : EvtSt := {}
  acc : AccessSt := {}
  bell : BellSt := {}
  /-- jobs placed in the ledger, R34 -/
  jobs : List TJob := []
  /-- standing reservations of the strobes by unit, R358 -/
  standing : Kv Nat := []
  ration : RationSt := {}
  lanes : Kv LaneSt := []
  billets : List Billet := []
  corrs : Kv CorrSt := []
  /-- the batch in flight of each ring -/
  batches : Kv Batch := []
  jnl : JournalSt := {}
  powerFail : PowerFail := .off
  ports : Kv PortSt := []
  cci : Kv CciSt := []
  /-- results of the camera control transactions that a session waits for: session, status, data -/
  cciTold : List (Nat × Nat × Nat) := []
  anvils : Kv AnvilSt := []
  pipe : PipeSt := {}
  /-- profile memory by word key; an unlisted word holds its default table's word, R222 and R223 -/
  profiles : Kv Nat := []
  /-- banks that are not valid, by 2 × profile + bank, R225 -/
  badBanks : List Nat := []
  refs : Kv RefSlot := []
  /-- scaler coefficients by key; an unlisted one is bilinear, R261 -/
  coefs : Kv Int := []
  /-- writes to host memory, latest first -/
  hostWrites : List HostWrite := []
  lats : Kv LatSt := []
  blw : BellowsSt := {}
  sfe : SfeSt := {}
  eths : Kv EthSt := []
  rings : Kv RingSt := []
  jxs : Kv JxSt := []
  /-- datagrams sent on the Ethernet ports, latest first -/
  netOut : List NetOut := []
  thotor : ThotorSt := {}
  power : PowerSt := {}
  boot : BootSt := {}
  fw : FwSt := {}
  pcie : PcieSt := {}
  flash : FlashSt := {}
  jtag : TapSt := {}
  /-- commands that wait, first in, first out -/
  pending : List Instr := []
  deriving DecidableEq, Repr

/-- Faults: none of the spec's conditions stops the model. -/
inductive Fault where
  deriving DecidableEq, Repr

/-- Refusals. -/
inductive Refusal where
  /-- The command has no meaning yet: raised by the arms of exec. Safe: the model stops. -/
  | notModelled (mnemonic : String)
  deriving DecidableEq, Repr

/-- The machine right after reset. -/
def State.reset : State := {}

end Sys2Proof.Machine
end

