-- ==== Sys2Proof/Machine/Ops.lean ====
section
/-! DEFINITION. The named operations over registers and time. -/
namespace Sys2Proof.Machine

/-- Read element `(i, j)` of a register field. -/
def State.rd (s : State) (f : Fld) (i : Nat := 0) (j : Nat := 0) : Nat :=
  kvGet (f.reset i j) s.regs (f.key i j)

/-- Write element `(i, j)` of a register field; bits above its width are dropped. -/
def State.wr (s : State) (f : Fld) (v : Nat) (i : Nat := 0) (j : Nat := 0) : State :=
  { s with regs := kvSet (f.reset i j) s.regs (f.key i j) (v % 2 ^ f.width) }

/-- Let element `(i, j)` of a field follow a value: nothing is written where it holds that value. -/
def State.follow (s : State) (f : Fld) (v : Nat) (i : Nat := 0) (j : Nat := 0) : State :=
  if s.rd f i j = v % 2 ^ f.width then s else s.wr f v i j

/-- Read a one-bit field. -/
def State.on (s : State) (f : Fld) (i : Nat := 0) (j : Nat := 0) : Bool := s.rd f i j == 1

/-- Read a field as a two's complement number. -/
def State.rdI (s : State) (f : Fld) (i : Nat := 0) (j : Nat := 0) : Int := toSigned f.width (s.rd f i j)

/-- Write a two's complement number. -/
def State.wrI (s : State) (f : Fld) (v : Int) (i : Nat := 0) (j : Nat := 0) : State :=
  s.wr f (ofSigned f.width v) i j

/-- Add to a counter that saturates at the largest value of its width (R162 and the RC counters). -/
def State.addSat (s : State) (f : Fld) (n : Nat) (i : Nat := 0) (j : Nat := 0) : State :=
  s.wr f (min (s.rd f i j + n) (2 ^ f.width - 1)) i j

/-- Count one occurrence. -/
def State.bumpSat (s : State) (f : Fld) (i : Nat := 0) (j : Nat := 0) : State := s.addSat f 1 i j

/-- Count one in a counter that wraps. -/
def State.bump (s : State) (f : Fld) (i : Nat := 0) (j : Nat := 0) : State := s.wr f (s.rd f i j + 1) i j

/-- Index of the current Period (R15). -/
def State.period (s : State) : Nat := s.rd Rg.bellCount

/-- The nominal Period in force, in ticks. -/
def State.periodTicks (s : State) : Nat := s.rd Rg.bellPeriodAct

/-- The timebase runs on to an instant: an instant that has passed leaves it. -/
def State.reach (s : State) (t : Nat) : State := { s with now := max s.now t }

/-- Ticks of a number of milliseconds and of microseconds (one tick is 4 ns). -/
def msTicks (ms : Nat) : Nat := ms * 250000

def usTicks (us : Nat) : Nat := us * 250

/-- A fresh free value of `w` bits: the counter advances. -/
def State.free (s : State) (w : Nat) : State × Nat :=
  ({ s with freeCount := s.freeCount + 1 }, (Config.freeValue s.freeCount w).toNat)

/-- Fold a change of the state over a list. -/
def State.each {α : Type} (s : State) (l : List α) (f : State → α → State) : State := l.foldl f s

/-- Change one lane's internal state. -/
def State.modLane (s : State) (n : Nat) (f : LaneSt → LaneSt) : State :=
  { s with lanes := kvMod {} s.lanes n f }

/-- One lane's internal state. -/
def State.lane (s : State) (n : Nat) : LaneSt := kvGet {} s.lanes n

/-- Change one correspondent's internal state. -/
def State.modCorr (s : State) (c : Nat) (f : CorrSt → CorrSt) : State :=
  { s with corrs := kvMod {} s.corrs c f }

/-- One correspondent's internal state. -/
def State.corr (s : State) (c : Nat) : CorrSt := kvGet {} s.corrs c

/-- The open Billet of a Door ordinal. -/
def State.billet? (s : State) (o : Nat) : Option Billet := s.billets.find? (fun b => b.ordinal == o)

/-- Change the open Billet of a Door ordinal. -/
def State.modBillet (s : State) (o : Nat) (f : Billet → Billet) : State :=
  { s with billets := s.billets.map (fun b => if b.ordinal == o then f b else b) }

end Sys2Proof.Machine
end

