-- ==== Sys2Proof/Machine/Events.lean ====
section
/-! DEFINITION. Raising an event: counting, rate limits, the pending bit, the tenant queues, the MSI-X message and the
EVT pins (R712 to R720). -/
namespace Sys2Proof.Machine

/-- First and last source number of every range that a rule of the spec names (R712). -/
def sourceRanges : List (Nat × Nat) :=
  [(0, 5), (8, 13), (16, 21), (24, 27), (32, 47), (64, 75), (128, 136), (192, 255), (256, 319), (320, 325),
   (328, 333), (336, 341), (344, 349), (352, 355), (360, 364), (448, 456), (512, 532), (640, 658), (736, 745),
   (768, 775), (784, 787), (832, 859), (860, 887), (888, 914), (916, 925), (928, 951), (952, 962), (963, 984), (992, 997),
   (1008, 1008)]

/-- Whether a source is named by a rule; the others are reserved (R712). -/
def isSource (e : Nat) : Bool := sourceRanges.any (fun r => r.1 ≤ e && e ≤ r.2)

/-- Key of a rate limit: the source and its scope. -/
def limitKey (src scope : Nat) : Nat := src * 65536 + scope

/-- Place an entry in a queue: in order of stamp, then of ascending source (R718); of one tick and source, a real detection
stands before an injected one (R746). -/
def enqueueOrdered (x : EvEntry) : List EvEntry → List EvEntry
  | [] => [x]
  | y :: ys =>
    if x.stamp < y.stamp ∨ (x.stamp = y.stamp ∧
        (x.src < y.src ∨ (x.src = y.src ∧ x.injected = false ∧ y.injected = true))) then x :: y :: ys
    else y :: enqueueOrdered x ys

/-- Append an entry to the queue of tenant t, which holds at most 256 (R718). -/
def State.pushEvent (s : State) (t : Nat) (x : EvEntry) : State :=
  let q := kvGet [] s.evt.queues t
  if 256 ≤ q.length then
    let s1 := s.bumpSat Rg.qLost t
    { s1 with evt := { s1.evt with lostNext := if s1.evt.lostNext.contains t then s1.evt.lostNext
                                               else t :: s1.evt.lostNext
                                   refused := s1.evt.refused.filter (fun e => e.2.1.stamp == x.stamp) ++
                                              [(t, x, s1.evt.lostNext.contains t)] } }
  else
    let x' := { x with lost := s.evt.lostNext.contains t }
    let q' := enqueueOrdered x' q
    let s1 := { s with evt := { s.evt with queues := kvSet [] s.evt.queues t q',
                                           lostNext := s.evt.lostNext.erase t,
                                           fresh := s.evt.fresh ++ [(t, x')] } }
    s1.wr Rg.qDepth q'.length t

/-- Whether the message of a vector can go at once (R717): READY, link, MSI-X enabled, vector unmasked. -/
def State.msixCanGo (s : State) (v : Nat) : Bool :=
  let fn := s.rd Rg.pcieVecFn v
  s.on Rg.bootReady && s.on Rg.pcieLink && s.pcie.msixEnabled.contains fn && !s.pcie.masked.contains v

/-- Send the message of a vector to the function VEC_FN assigns, or leave one pending message (R717, R535). -/
def State.sendVector (s : State) (v : Nat) : State :=
  if s.msixCanGo v then
    { s with evt := { s.evt with msixSent := (s.rd Rg.pcieVecFn v, v) :: s.evt.msixSent,
                                 msixPending := s.evt.msixPending.erase v } }
  else if s.evt.msixPending.contains v then s
  else { s with evt := { s.evt with msixPending := v :: s.evt.msixPending } }

/-- The tenants of a 64-bit mask. -/
def maskBits (n m : Nat) : List Nat := (List.range n).filter (fun i => m.testBit i)

/-- Deliver a raise: PEND, the tenant queues, the vector (R717). -/
def State.deliver (s : State) (src a0 a1 : Nat) : State :=
  let s1 := s.wr Rg.evtPend (s.rd Rg.evtPend (src / 32) ||| 2 ^ (src % 32)) (src / 32)
  let x : EvEntry := { src := src, stamp := s.now, a0 := a0 % 2 ^ 32, a1 := a1 % 2 ^ 32, injected := s.evt.injecting.contains src }
  let s2 := s1.each (maskBits 64 (s.rd Rg.srcQmask src)) (fun st t => st.pushEvent t x)
  if s.on Rg.srcVecEn src then s2.sendVector (s.rd Rg.srcVector src) else s2

/-- The next entry of a source carries INJECTED, or no longer does (R725). -/
def State.markInjected (s : State) (src : Nat) : State :=
  { s with evt := { s.evt with injecting := src :: s.evt.injecting.erase src } }

def State.unmarkInjected (s : State) (src : Nat) : State :=
  { s with evt := { s.evt with injecting := s.evt.injecting.erase src } }

/-- Raise a source without a rate limit: it counts in RAISED, and it is delivered when EN is 1 (R714, R716). -/
def State.raise (s : State) (src : Nat) (a0 : Nat := 0) (a1 : Nat := 0) : State :=
  let s1 := s.bumpSat Rg.srcRaised src
  (if s.on Rg.srcEn src then s1.deliver src a0 a1 else s1).unmarkInjected src

/-- Whether a limited raise is delivered: the Period exceeds that of the last delivered one by `n` or more (R714). -/
def State.limitOpen (s : State) (n src scope : Nat) : Bool :=
  match (kvGet {} s.evt.limits (limitKey src scope)).last with
  | none => true
  | some k => decide (k + n ≤ s.period)

/-- Raise a source limited to once per `n` Periods within a scope; argument 1 is a function of the detections since the
last delivered raise, this one included (R714, R715). -/
def State.raiseWith (s : State) (n src scope a0 : Nat) (a1 : Nat → Nat) : State :=
  let l := kvGet {} s.evt.limits (limitKey src scope)
  let s1 := s.bumpSat Rg.srcRaised src
  let go := s.limitOpen n src scope && s.on Rg.srcEn src
  let s2 := if go then s1.deliver src a0 (a1 (l.since + 1)) else s1
  let l' : Limit := if go then { last := some s.period, since := 0 } else { l with since := l.since + 1 }
  { s2 with evt := { s2.evt with limits := kvSet {} s2.evt.limits (limitKey src scope) l'
                                 injecting := s2.evt.injecting.erase src } }

/-- A limited raise with a fixed second argument. -/
def State.raiseLim (s : State) (n src scope a0 a1 : Nat) : State := s.raiseWith n src scope a0 (fun _ => a1)

/-- A limited raise whose second argument counts the detections. -/
def State.raiseCnt (s : State) (n src scope a0 : Nat) : State := s.raiseWith n src scope a0 (fun c => c)

/-- Whether EVT_i is asserted: some pending source has EN = 1 and PINS bit i (R720), from READY onward (R758). -/
def State.evtAsserted (s : State) (i : Nat) : Bool :=
  s.on Rg.bootReady && (List.range 32).any fun g =>
    let p := s.rd Rg.evtPend g
    p != 0 && (List.range 32).any fun j =>
      p.testBit j && s.on Rg.srcEn (32 * g + j) && (s.rd Rg.srcPins (32 * g + j)).testBit i

/-- The level of the pins EVT_0 to EVT_3: PIN_POL selects active-high or active-low (R720). -/
def State.evtLevels (s : State) : Nat :=
  (List.range 4).foldl (fun acc i =>
    acc + (if s.evtAsserted i != (s.rd Rg.evtPinPol).testBit i then 2 ^ i else 0)) 0

/-- After a pop of tenant t's queue, the first entry that found it full on this tick enters it, since the pop comes first
(R747): LOST no longer counts it. -/
def State.refusedEnter (s : State) (t : Nat) : State :=
  let mine : Nat × EvEntry × Bool → Bool := fun e => e.1 == t && e.2.1.stamp == s.now
  match s.evt.refused.filter mine with
  | [] => s
  | (_, x, l) :: rest =>
    let others := s.evt.lostNext.erase t
    let later := match rest with
      | [] => []
      | (t', y, _) :: more => (t', y, false) :: more
    let s1 := s.wr Rg.qLost (s.rd Rg.qLost t - 1) t
    let s2 := ({ s1 with evt := { s1.evt with lostNext := if l then t :: others else others
                                              refused := s1.evt.refused.filter (fun e => !mine e) ++ later } }).pushEvent t x
    if rest.isEmpty then s2 else { s2 with evt := { s2.evt with lostNext := t :: s2.evt.lostNext.erase t } }

/-- Remove the oldest entry of tenant t's queue (R718, R719). -/
def State.popEvent (s : State) (t : Nat) : State × Option EvEntry :=
  match kvGet [] s.evt.queues t with
  | [] => (s, none)
  | x :: q =>
    let s1 := { s with evt := { s.evt with queues := kvSet [] s.evt.queues t q } }
    ((s1.wr Rg.qDepth q.length t).refusedEnter t, some x)

/-- Word 0 of an entry as POP returns it (R719). -/
def EvEntry.word0 (x : EvEntry) : Nat := 2 ^ 31 + b2n x.lost * 2 ^ 30 + b2n x.injected * 2 ^ 29 + x.src

/-- Take an armed full injection of a source whose object is `obj`, if there is one: its entry carries INJECTED (R724,
R725). -/
def State.takeArmed (s : State) (src obj : Nat) : State × Bool :=
  match kvGet none (s.evt.armed.map (fun e => (e.1, some e.2))) src with
  | some a =>
    if a.a0 = obj then ({ s with evt := { s.evt with armed := kvDel s.evt.armed src } }.markInjected src, true)
    else (s, false)
  | none => (s, false)

end Sys2Proof.Machine
end

