-- ==== Sys2Proof/Machine/Access.lean ====
section
/-! DEFINITION. Masters, tenants, targets and rights: which access is allowed, what a refused one does, and the accesses
to a domain that is not up or to an engine that is not READY (chapters 15, 16 and 18). -/
namespace Sys2Proof.Machine

/-! ### Targets -/

/-- The target number that holds a BAR0 address, or none (R646, R647, Table Access.2). -/
def targetOf (a : Nat) : Option Nat :=
  let p := a / 0x10000
  if p < 2 then some p
  else if p < 4 then some 2
  else if p < 6 then some p
  else if p < 8 then some 6
  else if p < 0x10 then some 8
  else if p < 0x14 then some 0x10
  else if p < 0x18 then some 0x14
  else if p < 0x1C then some 0x18
  else if p < 0x20 then some 0x1C
  else if p < 0x28 then some p
  else if p < 0x30 then some 0x28
  else if p < 0x34 then some 0x30
  else if p < 0x36 then some 0x34
  else if p < 0x38 then some 0x36
  else if p < 0x3A then some 0x38
  else if p < 0x3C then some 0x3A
  else if p < 0x40 then some 0x3C
  else if p < 0x42 then some 0x40
  else if p = 0x42 then some 0x42
  else if p = 0x43 then some 0x10
  else none

/-- The page of 64 KiB whose last 4 KiB hold the access table of a target (Table Access.2). -/
def tablePage (g : Nat) : Nat :=
  if g = 2 then 3 else if g = 6 then 7 else if g = 8 then 0xF else if g = 0x10 then 0x43
  else if g = 0x14 then 0x17 else if g = 0x18 then 0x1B else if g = 0x1C then 0x1F
  else if g = 0x28 then 0x2F else if g = 0x30 then 0x33 else if g = 0x34 then 0x35
  else if g = 0x36 then 0x37 else if g = 0x38 then 0x39 else if g = 0x3A then 0x3B
  else if g = 0x3C then 0x3F else if g = 0x40 then 0x41 else g

/-- Whether an address lies in an access table; its target and the offset in the table. -/
def tableOf (a : Nat) : Option (Nat × Nat) :=
  match targetOf a with
  | none => none
  | some g =>
    let t := tablePage g * 0x10000 + 0xF000
    if t ≤ a ∧ a < t + 0x1000 then some (g, a - t) else none

/-- The domain in which a target's registers live; none for Hearth (R672, Table Power.1). -/
def domainOf (g : Nat) : Option Nat :=
  if g = 8 ∨ g = 0x14 ∨ g = 0x18 ∨ g = 0x1C then some 0
  else if 0x20 ≤ g ∧ g < 0x24 then some 1
  else if 0x24 ≤ g ∧ g < 0x28 then some 2
  else if g = 0x34 ∨ g = 0x36 then some 3
  else if g = 0x3A ∨ g = 0x3C then some 4
  else if g = 0x40 then some 5
  else none

/-- Number of objects of a target (Table Access.4). -/
def objectsOf (g : Nat) : Nat :=
  if g = 8 then 10 else if g = 0x10 then 64 else if g = 4 then 64 else if g = 0x28 then 12
  else if g = 0x30 then 4096 else if g = 0x34 then 256 else if g = 0x36 then 64
  else if g = 0x38 then 16 else if g = 0x3A then 48 else if g = 0x3C then 33
  else if g = 0x40 then 28 else 0

/-- The object a register address belongs to, in its target (Table Access.4). The correspondent windows have the
correspondent as their object. -/
def objectOf (g a : Nat) : Option Nat :=
  let o := a % 0x20000
  if g = 8 then
    (let p := (a - 0x80000) / 0x1000
     if p < 6 then some p
     else if 0x88000 ≤ a ∧ a < 0x88400 then some (6 + (a - 0x88000) / 0x100) else none)
  else if g = 0x10 then (if a < 0x140000 then some ((a - 0x100000) / 0x1000) else none)
  else if g = 4 then (if 0x48000 ≤ a ∧ a < 0x49000 then some ((a - 0x48000) / 0x40) else none)
  else if g = 0x28 then
    (if a < 0x280200 then some ((a - 0x280000) / 0x40)
     else if 0x280600 ≤ a ∧ a < 0x280700 then some (8 + (a - 0x280600) / 0x40) else none)
  else if g = 0x34 then (if a < 0x344000 then some ((a - 0x340000) / 0x40) else none)
  else if g = 0x36 then
    (if a < 0x362000 then some ((a - 0x360000) / 0x1000)
     else if 0x369000 ≤ a ∧ a < 0x369000 + 62 * 0x40 then some (2 + (a - 0x369000) / 0x40) else none)
  else if g = 0x38 then (if a < 0x380400 then some ((a - 0x380000) / 0x40) else none)
  else if g = 0x3A then
    (if o < 0x600 then some (o / 0x40)
     else if 0x800 ≤ o ∧ o < 0x880 then some (24 + (o - 0x800) / 0x20)
     else if 0xA00 ≤ o ∧ o < 0xA40 then some (28 + (o - 0xA00) / 4)
     else if 0xB00 ≤ o ∧ o < 0xB10 then some (44 + (o - 0xB00) / 4) else none)
  else if g = 0x3C then
    (let q := a - 0x3C0000
     if q < 0x600 then some (q / 0x40)
     else if 0x1100 ≤ q ∧ q < 0x1148 then some (24 + (q - 0x1100) / 8)
     else if 0x2040 ≤ q ∧ q < 0x2064 then some (24 + (q - 0x2040) / 4) else none)
  else if g = 0x40 then
    (if 0x100 ≤ o ∧ o < 0x500 then some ((o - 0x100) / 0x80)
     else if 0x500 ≤ o ∧ o < 0x600 then some (8 + (o - 0x500) / 0x20)
     else if 0x600 ≤ o ∧ o < 0x680 then some (16 + (o - 0x600) / 0x10)
     else if 0x680 ≤ o ∧ o < 0x6C0 then some (16 + (o - 0x680) / 8)
     else if 0x700 ≤ o ∧ o < 0x780 then some (24 + (o - 0x700) / 0x20) else none)
  else none

/-! ### Rights -/

/-- The four rights (R649). -/
inductive Right where
  | look | set | run | own
  deriving DecidableEq, Repr

/-- The tenant a master is bound to, if it is bound (R642). -/
def State.tenantOf (s : State) (m : Nat) : Option Nat :=
  if s.rd Rg.mbindBound m = 1 then some (s.rd Rg.mbindTenant m) else none

/-- Bit of a right in the order of TRIGHTS (Table Access.5). -/
def Right.bitOf : Right → Nat
  | .look => 0 | .set => 1 | .run => 2 | .own => 3

/-- TRIGHTS_t of target g as one number; T00 holds all four (R640). -/
def State.trights (s : State) (g t : Nat) : Nat :=
  if t = 0 then 15
  else s.rd Rg.accLook g t + 2 * s.rd Rg.accSet g t + 4 * s.rd Rg.accRun g t + 8 * s.rd Rg.accOwn g t

/-- The owner of an object and its SHARE mask (R651). The SFE channels have one storage in both SFE tables. -/
def State.ownerShare (s : State) (g o : Nat) : Nat × Nat :=
  if g = 0x30 then ((s.corr o).tenant, 0)
  else if g = 4 then (o, s.rd Rg.accShare g o)
  else if g = 0x36 ∧ 2 ≤ o then
    ((match s.tenantOf (34 + (o - 2)) with | some t => t | none => 0), s.rd Rg.accShare g o)
  else
    let g' := if g = 0x3C ∧ o < 24 then 0x3A else g
    (s.rd Rg.accOwner g' o, s.rd Rg.accShare g' o)

/-- The effective rights of tenant t on object o of target g (R652). -/
def State.effRights (s : State) (g o t : Nat) : Nat :=
  if t = 0 then 15
  else
    let os := s.ownerShare g o
    if os.1 = t then s.trights g t else s.trights g t &&& os.2

/-- Whether tenant t holds a right on an object of target g, or on the target itself. -/
def State.holds (s : State) (t g : Nat) (o : Option Nat) (r : Right) : Bool :=
  match o with
  | none => (s.trights g t).testBit r.bitOf
  | some o => (s.effRights g o t).testBit r.bitOf

/-! ### Ties (R660) -/

/-- What the writes of this tick have replaced so far. -/
def State.replaced (s : State) : TablesBefore :=
  match s.acc.before with
  | some b => if b.tick = s.now then b else { tick := s.now }
  | none => { tick := s.now }

/-- The state that an access is tested in: the tables, bindings and owners as they stood before the writes of this tick. -/
def State.asTested (s : State) : State :=
  let b := s.replaced
  { s with regs := b.regs.foldl (fun m e => kvPut m e.1 e.2) s.regs,
           corrs := b.owners.foldl (fun m e => kvMod {} m e.1 (fun x => { x with tenant := e.2 })) s.corrs }

/-- Before fields of a table or a binding are written: the first write of a tick keeps what they held. -/
def State.keepFields (s : State) (l : List (Fld × Nat × Nat)) : State :=
  let b := l.foldl (fun (b : TablesBefore) e =>
    let k := e.1.key e.2.1 e.2.2
    if b.regs.any (fun x => x.1 == k) then b else { b with regs := kvPut b.regs k (s.rd e.1 e.2.1 e.2.2) }) s.replaced
  { s with acc := { s.acc with before := some b } }

/-- Before the owner of a correspondent changes. -/
def State.keepOwner (s : State) (c : Nat) : State :=
  let b := s.replaced
  if b.owners.any (fun x => x.1 == c) then s
  else { s with acc := { s.acc with before := some { b with owners := kvPut b.owners c (s.corr c).tenant } } }

/-! ### Access outcomes -/

/-- The master, its tenant and direction of a refused access, as R656 packs them. -/
def denyWord (s : State) (m g : Nat) (write : Bool) : Nat :=
  let t := s.asTested.tenantOf m
  b2n write * 2 ^ 31 + m * 2 ^ 24 + b2n t.isNone * 2 ^ 23 + t.getD 0 * 2 ^ 16 + g

/-- A denied access: it is counted, LAST_DENIED is written and E0784 is raised (R655, R656). -/
def State.deny (s : State) (m a : Nat) (write : Bool) : State :=
  let g := (targetOf a).getD 0
  let gn := (targetOf a).getD 0xFF
  let base := if (targetOf a).isNone then 0 else if g = 0x10 then 0x100000 else g * 0x10000
  let off := a - base
  let s1 := if write then s.bumpSat Rg.accDeniedWrites g 0 else s.bumpSat Rg.accDeniedReads g 0
  let s2 := s1.wr Rg.accLastWrite (b2n write) g
  let s3 := s2.wr Rg.accLastMaster m g
  let s4 := s3.wr Rg.accLastTenant ((s.asTested.tenantOf m).getD 0) g
  let s5 := s4.wr Rg.accLastWord (off / 4 % 65536) g
  s5.raiseLim 64 784 m (denyWord s m gn write) off

/-- What becomes of an access before its effect. -/
inductive Gate where
  | pass
  | denied
  /-- the target's domain is SAVING, DOWN or RISING (R681) -/
  | down (d : Nat)
  /-- READY has not risen (R772) -/
  | notReady
  /-- the engine has no power or is stopped: nothing answers -/
  | silent
  deriving DecidableEq, Repr

/-- The addresses an unbound master may read (R644). -/
def unboundReadable (a : Nat) : Bool := a == 0 || a == 4 || a == 0x10

/-- The registers that answer before READY: the identity and those of Table Startup.9 (R772). -/
def answersBeforeReady (a : Nat) : Bool := a == 0 || a == 4 || (0xA0 ≤ a && a < 0xCC)

/-- The state of a domain is UP or DROPPING, in which registers behave normally (R682). -/
def State.domainServes (s : State) (d : Nat) : Bool :=
  s.rd Rg.rollState d == 0 || s.rd Rg.rollState d == 1

/-- The STATE and EPOCH registers of an Anvil live in Hearth (R681). -/
def anvilHearth (g a : Nat) : Bool := 0x20 ≤ g && g < 0x28 && a % 0x10000 < 8

/-- The gate of an access by master m to address a, apart from rights. -/
def State.gateAt (s : State) (a : Nat) : Gate :=
  if s.rd Rg.bootReady = 0 then (if answersBeforeReady a then .pass else .notReady)
  else
    match targetOf a with
    | none => .pass
    | some g =>
      if (tableOf a).isSome || anvilHearth g a then .pass
      else
        match domainOf g with
        | none => .pass
        | some d => if s.domainServes d then .pass else .down d

/-- An access to a domain that is not serving counts and raises E0026 (R681). -/
def State.downAccess (s : State) (d : Nat) : State :=
  (s.bumpSat Rg.rollDownAccess d).raiseLim 64 26 d d 0

/-- The rights test of an access that needs right r at address a (R649, R652, R660). -/
def State.rightAt (s : State) (m a : Nat) (r : Right) : Bool :=
  let w := s.asTested
  match w.tenantOf m, targetOf a with
  | some t, some g =>
    if (tableOf a).isSome then w.holds t g none r else w.holds t g (objectOf g a) r
  | _, _ => false

/-- A write by master m that needs right r at address a: gate, rights, and then its effect k. -/
def State.guardWrite (s : State) (m a : Nat) (ok : Bool) (k : State → State) : State :=
  match s.gateAt a with
  | .pass => if ok then k s else s.deny m a true
  | .down d => if ok then s.downAccess d else s.deny m a true
  | _ => s

/-- The same with one right. -/
def State.withRight (s : State) (m a : Nat) (r : Right) (k : State → State) : State :=
  s.guardWrite m a (s.rightAt m a r) k

/-- The tenant of the master is T00 (R640). -/
def State.isProctor (s : State) (m : Nat) : Bool := s.asTested.tenantOf m == some 0

/-- The answer of a read: the state after it and the word returned. -/
def State.answer (s : State) (m w : Nat) : State :=
  { s with acc := { s.acc with lastRead := kvSet 0 s.acc.lastRead m w } }

/-- A read by master m at address a: gate, rights, and then its effect k, which yields the word. -/
def State.guardRead (s : State) (m a : Nat) (ok : Bool) (k : State → State × Nat) : State :=
  let g := (targetOf a).getD 0xFF
  match s.gateAt a with
  | .pass =>
    if ok || (s.asTested.tenantOf m == none && unboundReadable a) then (k s).1.answer m (k s).2
    else (s.deny m a false).answer m (0xDEAD0000 ||| g)
  | .down d =>
    if ok then (s.downAccess d).answer m (0xD0E00000 ||| g)
    else (s.deny m a false).answer m (0xDEAD0000 ||| g)
  | .notReady => s.answer m (0xB0070000 ||| g)
  | _ => s

end Sys2Proof.Machine
end

