-- ==== Sys2Proof/Machine/Units.lean ====
section
/-! DEFINITION. The units of the Timetable, their capacities, and the cost model (R27 to R33, Tables Bell.1 to Bell.3). -/
namespace Sys2Proof.Machine

/-- Anvil clock of a Temper level in MHz (Table Power.10). -/
def anvilMHz (level : Nat) : Nat := 200 * (level + 1)

/-- Pipe clock of a Temper level in MHz (Table Bell.1, R692). -/
def pipeMHz (level : Nat) : Nat := if level < 3 then 100 * (level + 1) else 800

/-- The domain of an Anvil: 1 for ANVIL_A, 2 for ANVIL_B (Table Power.1). -/
def anvilDomain (a : Nat) : Nat := if a < 4 then 1 else 2

/-- A domain is UP (Table Power.3). -/
def State.domainUp (s : State) (d : Nat) : Bool := s.rd Rg.rollState d == 0

/-- The domain is UP and was not marked failed by the memory self-test (R771). -/
def State.domainUsable (s : State) (d : Nat) : Bool := s.domainUp d && !s.boot.failedDomains.contains d

/-- The Anvil is neither fenced nor in a domain that is not UP (R33, R38). -/
def State.anvilUsable (s : State) (a : Nat) : Bool :=
  s.rd Rg.anvState a == 0 && s.domainUp (anvilDomain a)

/-- The pad bank of a group of pins is held (R685). -/
def State.padHeld (s : State) (b : Nat) : Bool := (s.rd Rg.pwPadHeld).testBit b

/-- Number of cores that serve: four of each Anvil that is unfenced and in a domain that is UP (R66, R277, R307). -/
def State.coreCount (s : State) : Nat := 4 * ((List.range 8).filter s.anvilUsable).length

/-- Clock of a unit in kHz at a Temper level (Table Bell.1). -/
def State.unitKHz (s : State) (level u : Nat) : Nat :=
  if u = 0 then 1000 * pipeMHz level
  else if u ≤ 8 then (if s.anvilUsable (u - 1) then 1000 * anvilMHz level else 0)
  else if u = 9 then s.coreCount * 1000 * anvilMHz level
  else if u = 10 then 2048
  else 250000

/-- Admissible capacity of a unit at a level, Period and reserve: the floor of capacity × (1 − reserve) (R27). -/
def State.admissible (s : State) (level period reserve u : Nat) : Nat :=
  s.unitKHz level u * period * (100 - reserve) / 25000000

/-- Whole capacity of a unit in one Period. -/
def State.capacity (s : State) (level period u : Nat) : Nat := s.unitKHz level u * period / 250000

/-- The level the Door costs with: the lower of the active level and a target it waits for (R55, R57). -/
def State.costLevel (s : State) : Nat := min (s.rd Rg.pwActive) s.power.admitLevel

/-- Admissible capacity of a unit now. -/
def State.admNow (s : State) (u : Nat) : Nat :=
  s.admissible s.costLevel s.periodTicks s.bell.reserveAct u

/-- The level at which a row is costed: the Period in which a Temper change took effect goes by the lower level (R55). -/
def State.rowLevelOf (s : State) (k : Nat) : Nat := if k = s.period then min s.costLevel s.bell.rowLevel else s.costLevel

/-- Admissible capacity of a unit in row `k`. -/
def State.admAt (s : State) (u k : Nat) : Nat := s.admissible (s.rowLevelOf k) s.periodTicks s.bell.reserveAct u

/-- Whole capacity of a unit in row `k`. -/
def State.capAt (s : State) (u k : Nat) : Nat := s.capacity (s.rowLevelOf k) s.periodTicks u

/-- Cost in a row of a unit down to a place in the order of R28: the jobs that are not released, and the standing strobe
reservations (R34). -/
def State.rowUpTo (s : State) (p u k : Nat) : Nat :=
  ((s.jobs.filter (fun j => j.unit == u && j.row == k && decide (j.prio ≤ p))).map TJob.cost).sum + kvGet 0 s.standing u

/-- Cost placed in a row of a unit, apart from what draws on the reserve alone. -/
def State.rowCost (s : State) (u k : Nat) : Nat := s.rowUpTo 0 u k

/-- Cost of a row of a unit with what draws on the reserve. -/
def State.rowAll (s : State) (u k : Nat) : Nat := s.rowUpTo 4 u k

/-! ### What draws on the reserve (R28, R30, R51) -/

/-- The domain whose state decides whether a unit has capacity (Table Power.1). -/
def unitDomain (u : Nat) : Option Nat :=
  if u = 0 then some 0 else if u ≤ 4 then some 1 else if u ≤ 8 then some 2 else if u = 10 then some 4
  else if 11 ≤ u ∧ u ≤ 18 then some 5 else none

/-- A unit's capacity for new placements: none while its domain is not UP (R678). -/
def State.ifUp (s : State) (u c : Nat) : Nat :=
  match unitDomain u with
  | some d => if s.domainUp d then c else 0
  | none => c

/-- TT_CAP_u, of the current Period. -/
def State.ttCap (s : State) (u : Nat) : Nat := s.ifUp u (s.admAt u s.period)

/-- The first of `n` rows from `lo` whose whole capacity has room down to a place in the order of R28. -/
def State.rowInReserve (s : State) (p u cost : Nat) : Nat → Nat → Option Nat
  | 0, _ => none
  | n + 1, lo => if s.rowUpTo p u lo + cost ≤ s.capAt u lo then some lo else s.rowInReserve p u cost n (lo + 1)

/-- A charge that is no placed job stands in a row: cost that a unit spends beside its placed jobs. -/
def State.chargeRow (s : State) (ty : JobType) (p u cost row : Nat) : State :=
  if cost = 0 then s
  else { s with jobs := s.jobs ++ [{ ty := ty, unit := u, row := row, cost := cost, lo := row, hi := row, ordinal := 0,
                                     stripe := 0, deadline := row, stage := .done, prio := p }] }

/-- The notices of a refusal, N × 656 cycles of DELIVERY, take the reserve of the earliest row that has it, after the
recomputations (R28, R30). -/
def State.chargeGap (s : State) (n : Nat) : State :=
  s.chargeRow .gap 2 19 (n * 656) ((s.rowInReserve 2 19 (n * 656) 1024 s.period).getD s.period)

/-- The excess cycles of a job come from the row's free capacity and then, last in the order of R28, from its reserve
(R51). -/
def State.chargeExcess (s : State) (ty : JobType) (u cost : Nat) : State :=
  let free := min cost (s.admAt u s.period - s.rowCost u s.period)
  (s.chargeRow ty 0 u free s.period).chargeRow ty 4 u (cost - free) s.period

/-! ### A lane's binding in force -/

/-- Key of a lane field inside a copy of lane fields: that of lane 0. -/
def laneKey (f : Fld) (j : Nat) : Nat := f.key 0 j

/-- A lane field in a copy of lane fields. -/
def cpGet (m : Kv Nat) (f : Fld) (j : Nat := 0) : Nat := kvGet (f.reset 0 j) m (laneKey f j)

/-- A binding field of a lane as its binding in force has it (R826). -/
def State.bnd (s : State) (n : Nat) (f : Fld) : Nat := cpGet (s.lane n).bound f

/-- A lane of data type YUV422 (R213). -/
def isYuv (b : Kv Nat) : Bool := cpGet b Rg.lnDt == 0x1E

/-- Order L, merging exposures; a YUV422 lane ignores ORDER (R202, R213). -/
def orderL (b : Kv Nat) : Bool := cpGet b Rg.lnOrder == 1 && !isYuv b

/-- Height of a full stripe: 16, 32, 64 or 128 lines, or the whole frame (R188). -/
def stripeHeight (b : Kv Nat) : Nat :=
  if cpGet b Rg.lnFrameMode = 1 then cpGet b Rg.lnHeight else 16 * 2 ^ cpGet b Rg.lnStripe

/-- Number of stripes of a frame. -/
def stripeCount (b : Kv Nat) : Nat := ceilDiv (cpGet b Rg.lnHeight) (max 1 (stripeHeight b))

/-- M: 0 means 64 (Table Bell.12). -/
def bindM (b : Kv Nat) : Nat := if cpGet b Rg.lnMaxSym = 0 then 64 else cpGet b Rg.lnMaxSym

/-- K, from 2 to 8; 0b000 is taken as 0b001 (Table Bell.12). -/
def bindK (b : Kv Nat) : Nat := max 1 (cpGet b Rg.lnDecode) + 1

/-- T, from 1 to 4. -/
def bindT (b : Kv Nat) : Nat := cpGet b Rg.lnTail + 1

/-- Frame span F in Periods (R40). -/
def bindF (b : Kv Nat) (period : Nat) : Nat := ceilDiv (cpGet b Rg.lnHeight * cpGet b Rg.lnLineMax) period

/-- The decode view: first column and row, width and height, with 0 meaning to the frame edge (R266). -/
def viewRect (b : Kv Nat) : Nat × Nat × Nat × Nat :=
  let x := cpGet b Rg.lnDvX0
  let y := cpGet b Rg.lnDvY0
  let w := if cpGet b Rg.lnDvW = 0 then cpGet b Rg.lnWidth - x else min (cpGet b Rg.lnDvW) (cpGet b Rg.lnWidth - x)
  let h := if cpGet b Rg.lnDvH = 0 then cpGet b Rg.lnHeight - y else min (cpGet b Rg.lnDvH) (cpGet b Rg.lnHeight - y)
  (x, y, w, h)

/-- Number of decode-view lines in stripe `j`. -/
def viewLines (b : Kv Nat) (j : Nat) : Nat :=
  let v := viewRect b
  let h := stripeHeight b
  min (min ((j + 1) * h) (cpGet b Rg.lnHeight)) (v.2.1 + v.2.2.2) - max (j * h) v.2.1

/-- Cost of a Pipe stripe; k exposures under Order L (Table Bell.2). -/
def pipeCost (b : Kv Nat) : Nat :=
  let k := if orderL b then cpGet b Rg.lnExposures + 1 else 1
  96 + stripeHeight b * (k * ceilDiv (cpGet b Rg.lnWidth) 4 + 8)

/-- Cost of the Finder job of stripe `j`: 0 when the stripe has no decode-view line. -/
def finderCost (b : Kv Nat) (j : Nat) : Nat :=
  if viewLines b j = 0 then 0 else 256 + (viewRect b).2.2.1 * viewLines b j

/-- Worst-case core cycles of one candidate by family bit of Table Decode.2 (Table Bell.3). -/
def familyCost : List Nat :=
  [40000, 40000, 40000, 40000, 40000, 40000, 150000, 150000, 120000, 160000, 160000, 140000, 12000, 20000]

/-- c_max: the largest cost among the enabled families (Table Bell.2). -/
def maxFamilyCost (symEn : Nat) : Nat :=
  ((List.range 14).map (fun i => if symEn.testBit i then familyCost.getD i 0 else 0)).foldl max 0

/-- Cost of the decode job. -/
def decodeCost (b : Kv Nat) : Nat :=
  bindM b * (maxFamilyCost (cpGet b Rg.lnSymEn) + 50000 * cpGet b Rg.lnGradeEn + 4000 * cpGet b Rg.lnGs1En)

/-- Cost of the delivery job for N correspondents. -/
def deliveryCost (n m : Nat) : Nat := n * m * 656

/-- The correspondents whose subscription covers a lane (R70): subscribed or stalled, with the lane in their mask. -/
def State.entitled (s : State) (n : Nat) : List Nat :=
  (s.corrs.filter (fun e => (s.rd Rg.gbState e.1 == 1 || s.rd Rg.gbState e.1 == 2) && e.2.lanes.testBit n)).map Prod.fst

/-- R33, R36 and R41: whether every job of a binding fits one row and its spans fit the ledger. -/
def State.fitsLedger (s : State) (n : Nat) (b : Kv Nat) : Bool :=
  let finderCap := ((List.range 8).map (fun a => s.admNow (a + 1))).foldl max 0
  let m := bindM b
  let nCorr := max 1 (s.entitled n).length
  decide (4 ≤ bindT b + bindK b) &&
  decide (bindF b s.periodTicks + bindT b + bindK b ≤ 1023) &&
  decide (pipeCost b ≤ s.ifUp 0 (s.admNow 0)) &&
  (List.range (stripeCount b)).all (fun j => decide (finderCost b j ≤ finderCap)) &&
  decide (0 < finderCap) &&
  decide (decodeCost b ≤ s.admNow 9) &&
  decide (deliveryCost nCorr m ≤ s.admNow 19)

end Sys2Proof.Machine
end

