-- ==== Sys2Proof/Machine/Journal.lean ====
section
/-! DEFINITION. The journal: requests, the staging buffer, the log, checkpoints, and the 32-byte image of an entry (R88 to
R95, R825, Tables Accepted.3 to Accepted.5). -/
namespace Sys2Proof.Machine

/-- Positions of the log (Table Accepted.3). -/
def logSize : Nat := 49024

/-- Entries the staging buffer holds (R88). -/
def stagingSize : Nat := 2048

/-- Counters of 48 bits wrap. -/
def mask48 (x : Nat) : Nat := x % 2 ^ 48

/-- Request an entry; it becomes durable at its append (R88, R89). -/
def State.jreq (s : State) (b : JBody) : State :=
  { s with jnl := { s.jnl with requests := s.jnl.requests ++ [b] } }

/-- Entries written to the log since the checkpoint in force: those appended since it, but for the staged ones. -/
def State.logFill (s : State) : Nat :=
  (s.jnl.tail + s.jnl.staging.length + logSize - s.jnl.ckptNext) % logSize - s.jnl.staging.length

/-- A checkpoint is being written, or replay runs: a cause is remembered then (R94). -/
def State.ckptHeld (s : State) : Bool := s.on Rg.jnlCkptBusy || s.on Rg.jnlReplay

/-- Append one entry to the staging buffer, one serial on (R88, R91). -/
def State.stage (s : State) (b : JBody) : State :=
  let n := mask48 (s.rd Rg.jnlSerial + 1)
  let s1 := { s with jnl := { s.jnl with staging := s.jnl.staging ++ [JEntry.mk n b],
                                         lastAppend := s.now } }
  (s1.wr Rg.jnlSerial n).wr Rg.jnlStaged (s.jnl.staging.length + 1)

/-- The log with its oldest staged entry written at the tail (R89). The entry that makes half the log written is a cause of
R94. -/
def State.writeback (s : State) : State :=
  match s.jnl.staging with
  | [] => s
  | e :: rest =>
    let s1 := { s with jnl := { s.jnl with staging := rest, log := kvPut s.jnl.log s.jnl.tail { entry := e },
                                           tail := (s.jnl.tail + 1) % logSize } }
    let half := s.ckptHeld && decide (2 * s.logFill < logSize) && decide (logSize ≤ 2 * s1.logFill)
    let s2 := { s1 with jnl := { s1.jnl with ckptDue := s1.jnl.ckptDue || half } }
    (s2.wr Rg.jnlStaged rest.length).wr Rg.jnlFill (s2.logFill * 100 / logSize)

/-- The engine's own entries wait for a place in the staging buffer, and for the 64 ticks after the last entry (R88, R89). -/
def State.appendTurn (s : State) : State :=
  (if stagingSize ≤ s.jnl.staging.length then s.writeback else s).reach (s.jnl.lastAppend + 64)

/-- Append an entry that no request stands for. -/
def State.appendOwn (s : State) (b : JBody) : State := s.appendTurn.stage b

/-- The journal entry reaches the memory: JOURNAL_WRITEBACK. -/
def doJournalWriteback (s : State) : State := s.writeback

/-! ### The 32-byte image of an entry -/

/-- One step of the reflected CRC-32 of IEEE 802.3 on a bit. -/
def crc32Bits : Nat → Nat → Nat
  | 0, c => c
  | n + 1, c => crc32Bits n (if c % 2 = 1 then (c / 2) ^^^ 0xEDB88320 else c / 2)

/-- CRC-32 of IEEE 802.3. -/
def crc32 (bs : List Byte) : Nat :=
  (bs.foldl (fun c b => crc32Bits 8 (c ^^^ b.toNat)) 0xFFFFFFFF) ^^^ 0xFFFFFFFF

/-- TYPE, FLAGS and the 20 body bytes of an entry (Table Accepted.5). -/
def JBody.parts : JBody → Nat × Nat × List Byte
  | .accept st o p l a d f =>
    (0x01, b2n st, leBytes 6 o ++ leBytes 6 p ++ leBytes 1 l ++ leBytes 1 a ++ leBytes 2 d ++ leBytes 4 f)
  | .refuse o p l r f =>
    (0x02, 0, leBytes 6 o ++ leBytes 6 p ++ leBytes 1 l ++ leBytes 1 r ++ zeros 2 ++ leBytes 4 f)
  | .job rf o p se r d c code =>
    (0x03, b2n rf, leBytes 6 o ++ leBytes 6 p ++ leBytes 1 se ++ leBytes 1 r ++ leBytes 2 d ++ leBytes 2 c ++
      leBytes 2 code)
  | .ended o e n st => (0x04, 0, leBytes 6 o ++ leBytes 1 e ++ leBytes 1 n ++ leBytes 2 st ++ zeros 10)
  | .returned o l t e => (0x05, 0, leBytes 6 o ++ leBytes 1 l ++ leBytes 1 t ++ leBytes 4 e ++ zeros 8)
  | .intent r e c s0 n n0 n1 =>
    (0x10, 0, leBytes 1 r ++ leBytes 1 e ++ leBytes 2 c ++ leBytes 6 s0 ++ leBytes 2 n ++ leBytes 4 n0 ++ leBytes 4 n1)
  | .complete v r e c q n1 o =>
    (0x11, b2n v, leBytes 1 r ++ leBytes 1 e ++ leBytes 2 c ++ leBytes 6 q ++ leBytes 4 n1 ++ leBytes 6 o)
  | .sent v r se c s0 n o =>
    (0x12, b2n v, leBytes 1 r ++ leBytes 1 se ++ leBytes 2 c ++ leBytes 6 s0 ++ leBytes 2 n ++ leBytes 6 o ++ zeros 2)
  | .acked c q => (0x13, 0, zeros 2 ++ leBytes 2 c ++ leBytes 6 q ++ zeros 10)
  | .subscribe o c t a l m =>
    (0x20, 0, leBytes 6 o ++ leBytes 2 c ++ leBytes 1 t ++ leBytes 1 a ++ leBytes 8 l ++ leBytes 2 m)
  | .stall o c st => (0x21, 0, leBytes 6 o ++ leBytes 2 c ++ leBytes 1 st ++ zeros 11)
  | .evict o c t q n =>
    (0x22, 0, leBytes 6 o ++ leBytes 2 c ++ leBytes 1 t ++ zeros 1 ++ leBytes 6 q ++ leBytes 4 n)
  | .settings c k r q n re st j =>
    (0x23, 0, leBytes 2 c ++ leBytes 1 k ++ leBytes 1 r ++ leBytes 2 q ++ leBytes 2 n ++ leBytes 1 re ++ zeros 1 ++
      leBytes 2 st ++ leBytes 4 j ++ zeros 4)
  | .fence u e => (0x30, 0, leBytes 1 u ++ zeros 1 ++ leBytes 4 e ++ zeros 14)
  | .arm r e f => (0x31, 0, leBytes 1 r ++ leBytes 1 e ++ leBytes 1 f ++ zeros 17)
  | .checkpoint sl o p => (0x40, 0, leBytes 1 sl ++ zeros 1 ++ leBytes 6 o ++ leBytes 6 p ++ zeros 6)
  | .seal c r st fl => (0x41, 0, leBytes 1 c ++ leBytes 1 r ++ leBytes 8 st ++ leBytes 2 fl ++ zeros 8)
  | .boot k n b => (0x42, 0, leBytes 1 k ++ zeros 1 ++ leBytes 6 n ++ leBytes 4 b ++ zeros 8)

/-- The 32 bytes of an entry: TYPE, FLAGS, SERIAL, BODY and CRC (Table Accepted.4). -/
def JEntry.bytes (e : JEntry) : List Byte :=
  let p := e.body.parts
  let h := leBytes 1 p.1 ++ leBytes 1 p.2.1 ++ leBytes 6 e.serial ++ p.2.2
  h ++ leBytes 4 (crc32 h)

/-! ### Checkpoints -/

/-- The correspondent record that a checkpoint takes (R95). -/
def State.ckCorr (s : State) (c : Nat) : CkCorr :=
  let x := s.corr c
  { nextSeq := s.rd Rg.gbNextSeq c, lastVisible := x.lastVisible, state := s.rd Rg.gbState c, tenant := x.tenant,
    route := x.route, lanes := x.lanes, symMask := x.symMask, acked := x.acked, kind := x.kind,
    resume := s.rd Rg.corrResume c, quota := x.quota, noticeCap := x.noticeCap,
    stallTimeout := s.rd Rg.corrStallTimeout c, jxCode := x.jxCode }

/-- The correspondent record of a free correspondent after a fresh start. -/
def ckFree : CkCorr :=
  { nextSeq := 1, lastVisible := 0, state := 0, tenant := 0, route := 0, lanes := 0, symMask := 0x3FFF, acked := 0,
    kind := 0, resume := 8, quota := 64, noticeCap := 256, stallTimeout := 5000, jxCode := 0 }

/-- Entries of a function of `0 … n − 1` that differ from a default. -/
def sparse {α : Type} [DecidableEq α] (n : Nat) (d : α) (f : Nat → α) : Kv α :=
  ((List.range n).map (fun i => (i, f i))).filter (fun e => e.2 != d)

/-- What a checkpoint would hold now (R95). -/
def State.snapshot (s : State) : Ckpt :=
  { serial := 0, period := s.period, ordinal := s.rd Rg.jnlDoorOrdinal, bootCount := s.rd Rg.bootCount,
    consoleAuto := s.rd Rg.thConsoleAuto,
    corrs := sparse 4096 ckFree s.ckCorr,
    rings := sparse 256 (0, 0, 0) (fun r => (s.rd Rg.ringEpoch r, s.rd Rg.ringProd r, s.rd Rg.ringCons r)),
    lanes := sparse 64 (0, 0) (fun n => (s.rd Rg.lnFrameNum n, (s.lane n).lastOrdinal)),
    units := sparse 25 0 (fun u => s.rd Rg.unitEpoch u) }

/-- A checkpoint starts into the slot not in use: CKPT_BUSY reads 1 (R94). -/
def State.ckptStart (s : State) : State :=
  let s1 := s.wr Rg.jnlCkptBusy 1
  { s1 with jnl := { s1.jnl with writing := true, ckptDue := false } }

/-- A cause of a checkpoint: one starts, or one further is remembered (R94). -/
def State.ckptCause (s : State) : State :=
  if s.on Rg.jnlCkptBusy || s.on Rg.jnlReplay then { s with jnl := { s.jnl with ckptDue := true } }
  else s.ckptStart

/-- CKPT_PERIODS; a lower value is taken as 256 (Table Accepted.7). -/
def State.ckptPeriods (s : State) : Nat := max 256 (s.rd Rg.jnlCkptPeriods)

/-- A cause of R94 stands: half the log, CKPT_PERIODS Periods, or a remembered one. -/
def State.ckptWanted (s : State) : Bool :=
  decide (logSize ≤ 2 * s.logFill) || decide (s.ckptPeriods ≤ s.jnl.bellsSince) || s.jnl.ckptDue

/-- CHECKPOINT_START: a checkpoint that is due starts, unless one runs or replay runs (R94). -/
def State.checkpointStart (s : State) : State :=
  if s.ckptWanted && !s.on Rg.jnlCkptBusy && !s.on Rg.jnlReplay then s.ckptStart else s

def doCheckpointStart (s : State) : State := s.checkpointStart

/-! ### The bytes of the journal memory (R90, R95) -/

/-- A correspondent record of a checkpoint slot, its last four bytes the CRC-32 of the others (R95). -/
def CkCorr.bytes (x : CkCorr) : List Byte :=
  let h := leBytes 6 x.nextSeq ++ leBytes 6 x.lastVisible ++ leBytes 1 x.state ++ leBytes 1 x.tenant ++ leBytes 2 x.route ++
    leBytes 8 x.lanes ++ leBytes 2 x.symMask ++ leBytes 6 x.acked ++ leBytes 1 x.kind ++ leBytes 1 (x.resume % 16) ++
    leBytes 2 x.quota ++ leBytes 2 x.noticeCap ++ leBytes 2 x.stallTimeout ++ leBytes 4 x.jxCode
  h ++ leBytes 4 (crc32 h)

/-- The 64-byte header of a slot with a CRC; the places of its fields are not stated: log entry 115. -/
def Ckpt.header (k : Ckpt) (crc : Nat) : List Byte :=
  (List.range 64).map (fun i => Config.slotHeaderByte [k.serial, k.period, k.ordinal, k.bootCount, k.consoleAuto, crc] i)

/-- What follows the header of a slot: correspondents, rings, lanes and unit epochs, in this order (R95). The places of the
fields of a ring record and of a lane record are not stated: log entry 115. -/
def Ckpt.tables (k : Ckpt) : List Byte :=
  ((List.range 4096).flatMap (fun c => (kvGet ckFree k.corrs c).bytes)) ++
  ((List.range 256).flatMap (fun r => (List.range 32).map (fun i =>
    let x := kvGet (0, 0, 0) k.rings r
    Config.ringRecordByte [x.1, x.2.1, x.2.2] i))) ++
  ((List.range 64).flatMap (fun n => (List.range 32).map (fun i =>
    let x := kvGet (0, 0) k.lanes n
    Config.laneRecordByte [x.1, x.2] i))) ++
  ((List.range 25).flatMap (fun u => leBytes 4 (kvGet 0 k.units u)))

/-- The bytes of a slot; its CRC-32 covers the whole of it, with its own bytes taken as 0 (R95). -/
def Ckpt.bytes (k : Ckpt) : List Byte := k.header (crc32 (k.header 0 ++ k.tables)) ++ k.tables

/-- The bytes of the header of the journal memory; the places of its fields are not stated: log entry 115 (Table
Accepted.3). -/
def JHeader.withCrc (h : JHeader) (crc : Nat) : List Byte :=
  (List.range 4096).map (fun i => Config.journalHeaderByte
    [h.version, h.part, h.slot, h.head, h.tail, h.bootCount, h.consoleAuto, crc] i)

def JHeader.bytes (h : JHeader) : List Byte := h.withCrc (crc32 (h.withCrc 0))

/-- A byte of the journal memory; none where nothing has been written. A free log entry reads 0x00 or 0xFF throughout: a
free value (R90, R93, Table Accepted.3). -/
def State.journalByte (s : State) (a : Nat) : Option Byte :=
  let slot : Option Ckpt → Nat → Option Byte := fun k i => k.bind (fun x => x.bytes[i]?)
  if a < 0x1000 then s.jnl.header.bind (fun h => h.bytes[a]?)
  else if a < 0x41000 then slot s.jnl.slotA (a - 0x1000)
  else if a < 0x81000 then slot s.jnl.slotB (a - 0x41000)
  else if a < 0x81000 + 32 * logSize then
    match s.jnl.log.find? (fun e => e.1 == (a - 0x81000) / 32) with
    | some e => e.2.entry.bytes[(a - 0x81000) % 32]?
    | none => some (if Config.freeEntryOnes then 0xFF else 0)
  else none

/-- The header of the journal memory as it is written now (R825). -/
def State.writeHeader (s : State) : State :=
  { s with jnl := { s.jnl with header := some { version := Config.journalVersion.toNat, part := Config.partIdentity.toNat,
                                                slot := s.rd Rg.jnlCkptSlot, head := s.jnl.ckptNext,
                                                tail := s.jnl.ckptNext, bootCount := s.rd Rg.bootCount,
                                                consoleAuto := s.rd Rg.thConsoleAuto } } }

/-- CHECKPOINT_DONE: the CHECKPOINT entry is appended, the checkpoint takes effect, and a remembered cause starts one
further (R94, R95, R825). It holds what stands at its entry, since replay applies only the entries that follow (R105). -/
def State.checkpointDone (s : State) : State :=
  if !s.jnl.writing then s
  else
    let s0 := s.appendTurn
    let ck := s0.snapshot
    let slot := 1 - s0.rd Rg.jnlCkptSlot
    let s1 := s0.stage (.checkpoint slot ck.ordinal ck.period)
    let next := (s1.jnl.tail + s1.jnl.staging.length) % logSize
    let ck' := { ck with serial := s1.rd Rg.jnlSerial, next := next }
    let j := s1.jnl
    let s2 := { s1 with jnl := { j with slotA := if slot = 0 then some ck' else j.slotA,
                                        slotB := if slot = 1 then some ck' else j.slotB,
                                        ckptSerial := ck'.serial, ckptNext := next, writing := false,
                                        bellsSince := 0 } }
    let s3 := ((s2.wr Rg.jnlCkptSlot slot).wr Rg.jnlCkptBusy 0).wr Rg.jnlFill 0
    let s4 := s3.writeHeader
    if s4.jnl.ckptDue then s4.ckptStart else s4

def doCheckpointDone (s : State) : State := s.checkpointDone

/-- FORCE_CKPT: a write of 1 by a master with Run (R94, R123). -/
def State.forceCkpt (s : State) (m : Nat) : State :=
  s.withRight m 0x20000 .run (fun st => st.ckptCause)

def doForceCkpt (m : MasterId) (s : State) : State :=
  s.forceCkpt m.val

end Sys2Proof.Machine
end

