-- ==== Sys2Proof/Machine/Records.lean ====
section
/-! DEFINITION. Records: their kinds, sizes and bytes (R75, R300 to R303, Tables Accepted.1 and Decode.4 to Decode.7). -/
namespace Sys2Proof.Machine

/-- KIND byte (Table Accepted.1). -/
def RecKind.code : RecKind → Nat
  | .symbol => 1 | .status => 2 | .gap => 3 | .job => 4 | .evicted => 5

/-- FLAGS bits of Table Decode.5. -/
def flLate : Nat := 2 ^ 0
def flResync : Nat := 2 ^ 1
def flSummary : Nat := 2 ^ 2
def flGraded : Nat := 2 ^ 3
def flGradeLimited : Nat := 2 ^ 4
def flGs1 : Nat := 2 ^ 5
def flGs1Bad : Nat := 2 ^ 6
def flInverted : Nat := 2 ^ 7
def flMirrored : Nat := 2 ^ 8
def flSpanned : Nat := 2 ^ 9
def flEci : Nat := 2 ^ 10
def flSa : Nat := 2 ^ 11
def flDataClipped : Nat := 2 ^ 12
def flCandExtra : Nat := 2 ^ 13
def flBelowExpect : Nat := 2 ^ 14
def flCandLost : Nat := 2 ^ 15

/-- Bytes padded with zeros to a multiple of 64. -/
def pad64 (bs : List Byte) : List Byte := bs ++ zeros (ceilDiv bs.length 64 * 64 - bs.length)

/-- The first `n` bytes, completed with zeros. -/
def fit (n : Nat) (bs : List Byte) : List Byte := bs.take n ++ zeros (n - bs.length)

/-- A record is terminal when its END code is not 0 (R75). -/
def Rec.terminal (r : Rec) : Bool := r.endCode != 0

/-- The length of a record in bytes: 64 + 64 × SUMMARY + the padded payload (R300). -/
def Rec.size (r : Rec) : Nat := 64 + r.summary.length + ceilDiv r.payload.length 64 * 64

/-- The bytes of a record as correspondent c receives it (R300, Table Decode.4). -/
def Rec.bytes (r : Rec) (c : Nat) : List Byte :=
  leBytes 1 r.kind.code ++ leBytes 1 r.endCode ++ leBytes 2 r.flags ++ leBytes 2 c ++ leBytes 6 r.seq ++
  leBytes 6 r.ordinal ++ leBytes 1 r.lane ++ leBytes 1 (r.cand.getD 0xFF) ++ leBytes 4 r.frame ++
  leBytes 8 r.stamp ++ leBytes 2 r.payload.length ++ fit 30 r.area ++ r.summary ++ pad64 r.payload

/-- A GAP record (Table Accepted.1, R73, R300). -/
def gapRec (o : Owed) : Rec :=
  { ordinal := o.ordinal, cand := none, kind := .gap, endCode := 0, lane := o.lane, frame := o.frame,
    period := o.period, stamp := o.stamp, flags := 0,
    area := leBytes 1 o.reason ++ zeros 1 ++ leBytes 2 o.count ++ leBytes 2 o.jobCode }

/-- An EVICTED record (R86, R300). -/
def evictedRec (o : Owed) : Rec :=
  { ordinal := o.ordinal, cand := none, kind := .evicted, endCode := 0, lane := 0xFF, frame := 0,
    period := o.period, stamp := o.stamp, flags := 0, area := leBytes 6 o.ordinal ++ leBytes 4 o.count }

/-- Largest value of a count field of one byte, and of two bytes (Table Decode.6: every count saturates). -/
def sat8 (n : Nat) : Nat := min n 255

def sat16 (n : Nat) : Nat := min n 65535

def sat24 (n : Nat) : Nat := min n (2 ^ 24 - 1)

def sat32 (n : Nat) : Nat := min n (2 ^ 32 - 1)

/-- Candidates open, released but undecoded, or queued (byte 27 of the summary). -/
def Billet.leftOver (b : Billet) : Nat :=
  b.openCands + b.abandoned + (b.cands.filter (fun c => c.stage != .resolved && !c.again)).length

/-- The summary of a terminal record (Table Decode.6); `n` is the number of SYMBOL records with this one. -/
def Billet.summary (b : Billet) (n : Nat) : List Byte :=
  leBytes 2 b.mark ++ leBytes 1 b.pipe.mark ++ leBytes 1 b.pipe.missing ++ leBytes 2 (b.pipe.tag.getD 0) ++
  leBytes 1 b.pipe.verdict ++ leBytes 1 (sat8 n) ++ leBytes 2 (sat16 b.finderNext) ++
  leBytes 3 (sat24 b.pipe.diffCount) ++ zeros 1 ++ leBytes 4 (sat32 b.pipe.sad) ++ leBytes 2 (sat16 b.closed) ++
  leBytes 1 (sat8 b.cands.length) ++ leBytes 1 (sat8 b.extra) ++
  (b.fails.map (fun f => BitVec.ofNat 8 (sat8 f))) ++ leBytes 1 (sat8 b.leftOver) ++ zeros 4 ++
  fit 32 b.slate.summary

/-- FLAGS that a Billet's terminal record carries beside those of its own symbol (R288, R289, R299, R53). -/
def Billet.endFlags (b : Billet) (n : Nat) : Nat :=
  flSummary + b2n b.late * flLate + b2n (0 < b.extra) * flCandExtra + b2n b.candLost * flCandLost +
  b2n (cpGet b.ws Rg.lnExpect != 0 && decide (n < cpGet b.ws Rg.lnExpect)) * flBelowExpect

/-- The STATUS record that ends a Billet (R77, R79). -/
def Billet.statusRec (b : Billet) (endCode : Nat) : Rec :=
  { ordinal := b.ordinal, cand := none, kind := .status, endCode := endCode, lane := b.lane, frame := b.frame,
    period := b.period, stamp := b.stamp, flags := b.endFlags b.symbols, summary := b.summary b.symbols }

end Sys2Proof.Machine
end

