-- ==== Sys2Proof/Machine/Gradebook.lean ====
section
/-! DEFINITION. The Gradebook and the reservoir: what each correspondent is owed, commits, releases, the quota and the stall
test (R69 to R83, R96 to R100, R518, R521 to R526). -/
namespace Sys2Proof.Machine

/-! ### What is held -/

/-- The records of a correspondent that have left the owed list and are not visible yet: in a batch or under a SENT entry that
is not durable. -/
def State.leaving (s : State) (c : Nat) : List Rec :=
  ((s.batches.filter (fun e => e.2.corr == c)).map (fun e => e.2.recs)).flatten ++ (s.corr c).sending

/-- The records of a correspondent that are committed and not yet visible (Table Accepted.8). -/
def State.unseenRecs (s : State) (c : Nat) : List Rec := ((s.corr c).owed.map Owed.recs).flatten ++ s.leaving c

/-- The records of a correspondent that are committed and not yet freed: those not visible, and those sent and not
acknowledged (R521, R522). -/
def State.heldRecs (s : State) (c : Nat) : List Rec := s.unseenRecs c ++ (s.corr c).sent

/-- Bytes reserved and not used yet by the open entitlements of accepted Billets: the records committed for them count, those
already released with them (R521). -/
def State.reservedBytes (s : State) (c : Nat) : Nat :=
  ((s.billets.filter (fun b => b.corrs.contains c)).map (fun b =>
    let used := (((s.corr c).owed.filter (fun o => o.ordinal == b.ordinal)).map (fun o =>
      (o.recs.map Rec.size).sum + o.takenBytes)).sum
    b.maxSym * 4096 - used)).sum

/-- USED in bytes (R521). -/
def State.usedBytes (s : State) (c : Nat) : Nat :=
  ((s.heldRecs c).filter (fun r => r.kind != .gap && r.kind != .evicted)).foldl (fun a r => a + r.size) 0 +
    s.reservedBytes c

/-- Gap notices held: owed ones, and GAP records in a batch or sent (R525). -/
def State.noticesHeld (s : State) (c : Nat) : Nat :=
  ((s.corr c).owed.filter (fun o => o.reason != 0 && o.reason != 9)).length +
  ((s.heldRecs c).filter (fun r => r.kind == .gap)).length

/-- Refresh the registers that report a correspondent's held records (Tables Accepted.8 and Delivery.5). -/
def State.gbSync (s : State) (c : Nat) : State :=
  let x := s.corr c
  let s1 := s.wr Rg.gbHeld ((s.unseenRecs c).length + (x.owed.filter (fun o => o.reason != 0)).length) c
  let blocker := match s.leaving c with
    | r :: _ => r.ordinal
    | [] => match x.owed with
      | o :: _ => o.first.getD o.ordinal
      | [] => 0
  let s2 := s1.wr Rg.gbBlocker blocker c
  let s3 := s2.wr Rg.corrUsed (s.usedBytes c / 64) c
  s3.wr Rg.corrNotices (s.noticesHeld c) c

/-- One correspondent's owed list changes. -/
def State.modOwed (s : State) (c : Nat) (f : List Owed → List Owed) : State :=
  (s.modCorr c (fun x => { x with owed := f x.owed })).gbSync c

/-! ### Release -/

/-- The next candidate number of a Billet that is not resolved; all are when it has ended (R98). -/
def State.firstUnresolved (s : State) (o : Nat) : Option Nat :=
  match s.billet? o with
  | none => none
  | some b =>
    match b.cands.find? (fun c => c.stage != .resolved && !c.again) with
    | some c => some c.num
    | none => some b.cands.length

/-- The records of one owed decision that may be released now, and whether the decision is then done with. -/
def State.releasableOf (s : State) (o : Owed) : List Rec × Bool :=
  if o.cut then (o.recs, true)
  else if o.reason = 9 then ([evictedRec o], true)
  else if o.reason != 0 then ([gapRec o], true)
  else
    let lim := s.firstUnresolved o.ordinal
    let ok := o.recs.takeWhile (fun r => r.terminal || match lim, r.cand with
      | some l, some c => decide (c < l)
      | none, _ => true
      | some _, none => true)
    (ok, ok.any Rec.terminal)

/-- The released records of a list of owed decisions, in order (R98). -/
def State.releasable (s : State) : List Owed → List Rec
  | [] => []
  | o :: os =>
    let r := s.releasableOf o
    if r.2 then r.1 ++ s.releasable os else r.1

/-- Take up to `n` released records off an owed list. -/
def State.takeFrom (s : State) : Nat → List Owed → List Rec × List Owed
  | 0, os => ([], os)
  | _, [] => ([], [])
  | n, o :: os =>
    let r := s.releasableOf o
    let got := r.1.take n
    if r.2 && got.length == r.1.length then
      let rest := s.takeFrom (n - got.length) os
      (got ++ rest.1, rest.2)
    else
      let bytes := o.takenBytes + (got.map Rec.size).sum
      (got, { o with recs := o.recs.drop got.length, taken := o.taken ++ got.filterMap Rec.cand, takenBytes := bytes } :: os)

/-- Sequence numbers run from 1 to 2^48 − 1 and then begin at 1 again (R99). -/
def seqNext (q : Nat) : Nat := if q + 1 < 2 ^ 48 then q + 1 else 1

/-- Number records from `q` on; the first may carry RESYNC (R99, R113). -/
def numberRecs : Nat → Bool → List Rec → List Rec
  | _, _, [] => []
  | q, rs, r :: l =>
    { r with seq := q, flags := if rs then r.flags ||| flResync else r.flags } :: numberRecs (seqNext q) false l

/-- Sequence number `n` on from `q`. -/
def seqAfter : Nat → Nat → Nat
  | 0, q => q
  | n + 1, q => seqAfter n (seqNext q)

/-- Take up to `n` released records of correspondent c and give them their sequence numbers (R99). NEXT_SEQ is left to
the commit sequence. -/
def State.takeRecs (s : State) (c n : Nat) : State × List Rec :=
  let x := s.corr c
  let t := s.takeFrom n x.owed
  let q := s.rd Rg.gbNextSeq c
  let q0 := if q = 0 then 1 else q
  let recs := numberRecs q0 x.resync t.1
  (s.modCorr c (fun y => { y with owed := t.2, resync := y.resync && recs.isEmpty }), recs)

/-! ### Owed decisions and gap notices -/

/-- Owe one decision to a correspondent. A gap notice without a sequence number absorbs the correspondent's next
decision when it is for the same lane and reason and the next frame (R72, R73). It then carries the Door ordinal of the
decision absorbed, so that COMPLETE and replay tell it among the visible ones: DESIGN CHOICE, log entry 113. -/
def absorb (o : Owed) : List Owed → List Owed
  | [] => [o]
  | [p] =>
    if o.reason != 0 && o.reason != 9 && o.lane != 0xFF && p.lane == o.lane && p.reason == o.reason
        && (p.frame + p.count) % 2 ^ 32 == o.frame && decide (p.count < 65535) then
      [{ p with count := p.count + 1, ordinal := o.ordinal, first := some (p.first.getD p.ordinal) }]
    else [p, o]
  | p :: ps => p :: absorb o ps

def State.owe (s : State) (c : Nat) (o : Owed) : State := s.modOwed c (absorb o)

/-- A correspondent is suspended when its held notices reach NOTICE_CAP × 64 − 64 (R525). -/
def State.suspendTest (s : State) (c : Nat) : State :=
  let x := s.corr c
  if s.noticesHeld c < x.noticeCap * 64 - 64 ∨ s.on Rg.corrSuspended c ∨ s.rd Rg.gbState c = 0 then s
  else
    let ord := s.rd Rg.jnlDoorOrdinal
    let s1 := s.jreq (.subscribe (mask48 (ord + 1)) c x.tenant 3 0 x.symMask)
    let s2 := s1.each (maskBits 64 x.lanes) (fun st n =>
      st.modOwed c (fun l => l ++ [{ ordinal := ord, lane := n, frame := st.rd Rg.lnFrameNum n, reason := 3, count := 0,
                                     period := st.period, stamp := st.now }]))
    let s3 := s2.modCorr c (fun y => { y with lanes := 0, stallSince := none, stallTold := false })
    let s4 := (s3.wr Rg.corrSuspended 1 c).wr Rg.corrStalled 0 c
    (s4.wr Rg.gbState 0 c).raise 643 c 1

/-- Owe a gap notice, and test the notice cap (R525). -/
def State.oweGap (s : State) (c : Nat) (o : Owed) : State := (s.owe c o).suspendTest c

/-! ### Stalls -/

/-- The largest M × 4,096 bytes among a correspondent's lanes (R523). -/
def State.largestLane (s : State) (c : Nat) : Nat :=
  ((maskBits 64 (s.corr c).lanes).map (fun n => bindM (s.lane n).bound * 4096)).foldl max 0

/-- Free quota in bytes, as a signed number. -/
def State.quotaFree (s : State) (c : Nat) : Int := ((s.corr c).quota * 65536 : Nat) - (s.usedBytes c : Int)

/-- A stalled correspondent is released at the first free or decision at which its free quota suffices (R523). -/
def State.stallRelease (s : State) (c : Nat) : State :=
  let need : Nat := max ((s.corr c).quota * 65536 * s.rd Rg.corrResume c / 16) (s.largestLane c)
  if s.on Rg.corrStalled c && decide ((need : Int) ≤ s.quotaFree c) then
    let s1 := s.jreq (.stall (mask48 (s.rd Rg.jnlDoorOrdinal + 1)) c 0)
    let s2 := s1.modCorr c (fun x => { x with stallSince := none, stallTold := false })
    ((s2.wr Rg.corrStalled 0 c).wr Rg.gbState (if (s.corr c).lanes = 0 then 0 else 1) c).raise 641 c 0
  else s

/-- The stall test of R523 for a decision whose frame may take `m` records. A release is tested first, and the decision then
finds the correspondent released: DESIGN CHOICE, log entry 113. -/
def State.stallTest (s : State) (m c : Nat) : State :=
  let s0 := s.stallRelease c
  if s0.on Rg.corrStalled c then s0
  else if s0.quotaFree c < ((m * 4096 : Nat) : Int) then
    let s1 := s0.jreq (.stall (mask48 (s0.rd Rg.jnlDoorOrdinal + 1)) c 1)
    let s2 := s1.modCorr c (fun x => { x with stallSince := some s.now, stallTold := false })
    (((s2.wr Rg.corrStalled 1 c).wr Rg.gbState 2 c).bumpSat Rg.corrStalls c).raise 640 c 0
  else s0

/-! ### Commits -/

/-- Place a record among those of its decision: by candidate, the terminal one last. -/
def insertRec (r : Rec) : List Rec → List Rec
  | [] => [r]
  | x :: xs =>
    if x.terminal && !r.terminal then r :: x :: xs
    else if !r.terminal && decide (r.cand.getD 0 < x.cand.getD 0) then r :: x :: xs
    else x :: insertRec r xs

/-- What a correspondent is owed of the Billet of a Door ordinal. -/
def State.owedOf (s : State) (c o : Nat) : Option Owed :=
  (s.corr c).owed.find? (fun x => x.ordinal == o && x.reason == 0)

/-- Change what a correspondent is owed of the Billet of a Door ordinal. -/
def State.modOwedOf (s : State) (c o : Nat) (f : Owed → Owed) : State :=
  s.modOwed c (fun l => l.map (fun x => if x.ordinal == o && x.reason == 0 then f x else x))

/-- Commit a record for one correspondent. -/
def State.commitFor (s : State) (r : Rec) (c : Nat) : State :=
  s.modOwedOf c r.ordinal (fun x => { x with recs := insertRec r x.recs })

/-- Whether the symbology filter that stood at the decision lets a record through: terminal records always pass (R70,
R518). -/
def State.passesFilter (s : State) (family : Option Nat) (r : Rec) (c : Nat) : Bool :=
  r.terminal || match family, s.owedOf c r.ordinal with
  | some f, some o => o.sym.testBit f
  | _, _ => true

/-- A SYMBOL record's key is held or has been released: the candidate has been committed before (R97). A terminal record is
committed as its Billet ends, once (R80). -/
def State.keyHeld (s : State) (r : Rec) : Bool :=
  !r.terminal && match s.billet? r.ordinal with
  | some b => b.keys.contains (r.cand.getD 0)
  | none => false

/-- Commit a record of a Billet for every correspondent it is owed to; a key that is held or released is discarded and counted
once (R97). -/
def State.commitRec (s : State) (b : Billet) (family : Option Nat) (r : Rec) : State :=
  if s.keyHeld r then s.bumpSat Rg.jnlGbDups
  else
    let s1 := s.modBillet r.ordinal (fun x => { x with keys := x.keys ++ [r.cand.getD 0] })
    s1.each (b.corrs.filter (s1.passesFilter family r)) (fun st c => st.commitFor r c)

end Sys2Proof.Machine
end

