-- ==== Sys2Proof/Machine/SlateCode.lean ====
section
/-! DEFINITION. The Slate tag's code: CRC, Reed-Solomon, module placement, mask, ears and reading (R316 to R330). -/
namespace Sys2Proof.Machine

/-! ### CRC-16/CCITT-FALSE (R144) -/

/-- One bit of CRC-16 with polynomial 0x1021, most significant bit first. -/
def crc16Bits : Nat → Nat → Nat
  | 0, c => c
  | n + 1, c => crc16Bits n (if c.testBit 15 then ((c * 2) % 65536) ^^^ 0x1021 else (c * 2) % 65536)

/-- CRC-16/CCITT-FALSE of a list of bytes: initial value 0xFFFF, no reflection, no final XOR (R144). -/
def crc16 (bs : List Nat) : Nat := bs.foldl (fun c b => crc16Bits 8 (c ^^^ (b * 256))) 0xFFFF

/-! ### GF(256) with the polynomial 0x11D and α = 2 (R323) -/

/-- Multiply by α. -/
def gfDouble (a : Nat) : Nat := if a < 128 then 2 * a else (2 * a) ^^^ 0x11D

def gfMulBits : Nat → Nat → Nat → Nat
  | 0, _, _ => 0
  | n + 1, a, b => (if b % 2 = 1 then a else 0) ^^^ gfMulBits n (gfDouble a) (b / 2)

/-- Product in the field. -/
def gfMul (a b : Nat) : Nat := gfMulBits 8 a b

def gfPow (a : Nat) : Nat → Nat
  | 0 => 1
  | n + 1 => gfMul a (gfPow a n)

/-- Power of α. -/
def alpha (n : Nat) : Nat := gfPow 2 (n % 255)

/-- Inverse: the 254th power. -/
def gfInv (a : Nat) : Nat := gfPow a 254

/-- A polynomial is its list of coefficients, lowest degree first. -/
abbrev Poly := List Nat

def polyAdd : Poly → Poly → Poly
  | [], q => q
  | p, [] => p
  | a :: p, b :: q => (a ^^^ b) :: polyAdd p q

def polyScale (c : Nat) (p : Poly) : Poly := p.map (gfMul c)

def polyMul : Poly → Poly → Poly
  | [], _ => []
  | a :: p, q => polyAdd (polyScale a q) (0 :: polyMul p q)

def polyEval (p : Poly) (x : Nat) : Nat := p.foldr (fun c acc => c ^^^ gfMul x acc) 0

/-- Keep the terms below x^n. -/
def polyTake (n : Nat) (p : Poly) : Poly := p.take n

/-- Degree of a polynomial, 0 for none. -/
def polyDeg (p : Poly) : Nat := ((List.range p.length).filter (fun i => p.getD i 0 != 0)).getLastD 0

/-- Formal derivative. -/
def polyDeriv (p : Poly) : Poly := (List.range (p.length - 1)).map (fun i => if i % 2 = 0 then p.getD (i + 1) 0 else 0)

/-- The generator with the roots α^0 … α^(r−1), highest degree first. -/
def rsGen (r : Nat) : List Nat :=
  ((List.range r).foldl (fun g i => polyMul g [alpha i, 1]) [1]).reverse

/-- Check bytes of a data list, by division: `rem` is the register, highest degree first (R323). -/
def rsCheck (r : Nat) (data : List Nat) : List Nat :=
  let g := (rsGen r).drop 1
  data.foldl (fun rem d =>
    let f := d ^^^ rem.getD 0 0
    List.zipWith (fun a b => a ^^^ gfMul f b) (rem.drop 1 ++ [0]) g) (List.replicate r 0)

/-- The codeword list of a data list. -/
def rsEncode (r : Nat) (data : List Nat) : List Nat := data ++ rsCheck r data

/-- Syndromes of a received word (codeword 0 has the highest degree). -/
def rsSyndromes (r : Nat) (c : List Nat) : Poly :=
  (List.range r).map (fun i => polyEval c.reverse (alpha i))

/-- Berlekamp-Massey on the modified syndromes: the error locator, lowest degree first. -/
def massey (t : List Nat) : Nat → Nat → Nat → Nat → Poly → Poly → Poly
  | 0, _, _, _, sigma, _ => sigma
  | fuel + 1, k, l, m, sigma, prev =>
    let d := (List.range (l + 1)).foldl (fun acc i => acc ^^^ gfMul (sigma.getD i 0) (if i ≤ k then t.getD (k - i) 0 else 0)) 0
    if d = 0 then massey t fuel (k + 1) l (m + 1) sigma prev
    else
      let sigma' := polyAdd sigma (List.replicate m 0 ++ polyScale d prev)
      if 2 * l ≤ k then massey t fuel (k + 1) (k + 1 - l) 1 sigma' (polyScale (gfInv d) sigma)
      else massey t fuel (k + 1) l (m + 1) sigma' prev

/-- Correct a received word with erasures at some positions: the codeword and the number of errors, when 2e + f ≤ n − k
(R329). -/
def rsDecode (r : Nat) (c : List Nat) (erased : List Nat) : Option (List Nat × Nat) :=
  let n := c.length
  let f := erased.length
  let syn := rsSyndromes r c
  if syn.all (fun x => x == 0) then some (c, 0)
  else if r < f then none
  else
    let deg := fun p => n - 1 - p
    let gamma := erased.foldl (fun g p => polyMul g [1, alpha (deg p)]) [1]
    let t := (polyTake r (polyMul gamma syn)).drop f
    let sigma := massey t (r - f) 0 0 1 [1] [1]
    let e := polyDeg sigma
    let psi := polyMul sigma gamma
    let omega := polyTake r (polyMul psi syn)
    let dpsi := polyDeriv psi
    let isRoot := fun p => polyEval psi (alpha (255 - deg p % 255)) == 0
    let fixed := (List.range n).map (fun p =>
      if isRoot p then
        let xi := alpha (255 - deg p % 255)
        let mag := gfMul (alpha (deg p)) (gfMul (polyEval omega xi) (gfInv (polyEval dpsi xi)))
        c.getD p 0 ^^^ mag
      else c.getD p 0)
    if 2 * e + f ≤ r ∧ (rsSyndromes r fixed).all (fun x => x == 0) then some (fixed, e) else none

/-! ### Modules (R316 to R325) -/

/-- Side, data bytes and check bytes of a class: S is false, L is true. -/
def slateN (l : Bool) : Nat := if l then 22 else 14

def slateK (l : Bool) : Nat := if l then 24 else 10

def slateR (l : Bool) : Nat := if l then 32 else 10

/-- A module of an ear (R317). -/
def inEar (n r c : Nat) : Bool := (decide (r < 3) || decide (n ≤ r + 3)) && (decide (c < 3) || decide (n ≤ c + 3))

/-- The data modules in row-major order (R324). -/
def dataModules (n : Nat) : List (Nat × Nat) :=
  (((List.range n).map (fun r => (List.range n).map (fun c => (r, c)))).flatten).filter (fun m => !inEar n m.1 m.2)

/-- The mask bit of a module (R325). -/
def maskBit (r c : Nat) : Bool := (r + c) % 3 == 0

/-- A bit stream as bytes, most significant bit first. -/
def bitsToBytes : Nat → List Bool → List Nat
  | 0, _ => []
  | n + 1, bs => ((bs.take 8).foldl (fun a b => 2 * a + b2n b) 0) :: bitsToBytes n (bs.drop 8)

/-- The bits of bytes, most significant first. -/
def bytesToBits (l : List Nat) : List Bool := (l.map (fun b => (List.range 8).map (fun i => b.testBit (7 - i)))).flatten

/-- Whether the upright tag has a dark module there, for a list of codewords (R317, R324, R325). -/
def slateDark (l : Bool) (words : List Nat) (r c : Nat) : Bool :=
  let n := slateN l
  if inEar n r c then !(r == 1 && c == 1)
  else
    let i := (dataModules n).findIdx (fun m => m == (r, c))
    xor ((bytesToBits words).getD i false) (maskBit r c)

/-- CRC bytes of a list of data bytes, high byte first (R322). -/
def crcBytes (l : List Nat) : List Nat := [crc16 l / 256, crc16 l % 256]

/-- The codewords of a tag with the data bytes before its CRC. -/
def slateEncode (l : Bool) (data : List Nat) : List Nat := rsEncode (slateR l) (data ++ crcBytes data)

/-! ### Reading (R327 to R330) -/

/-- A grid of samples turned clockwise `k` times, and mirrored: the sample of upright module (r, c). -/
def turned (n k : Nat) (mirror : Bool) (r c : Nat) : Nat × Nat :=
  let p := if mirror then (c, r) else (r, c)
  match k % 4 with
  | 0 => p
  | 1 => (p.2, n - 1 - p.1)
  | 2 => (n - 1 - p.1, n - 1 - p.2)
  | _ => (n - 1 - p.2, p.1)

/-- The modules of the three solid ears of the upright tag. -/
def solidModules (n : Nat) : List (Nat × Nat) :=
  (((List.range n).map (fun r => (List.range n).map (fun c => (r, c)))).flatten).filter
    (fun m => inEar n m.1 m.2 && !(decide (m.1 < 3) && decide (m.2 < 3)))

/-- The sample of an upright module under an orientation. -/
def SlateView.at_ (v : SlateView) (n k : Nat) (mirror : Bool) (r c : Nat) : Nat :=
  let p := turned n k mirror r c
  v.samples.getD (p.1 * n + p.2) 0

/-- Twice the threshold times both counts, and that scale: the mean of the solid-ear mean and the quiet-zone mean. -/
def SlateView.threshold (v : SlateView) (n k : Nat) (mirror : Bool) : Nat × Nat :=
  let e := (solidModules n).map (fun m => v.at_ n k mirror m.1 m.2)
  (e.sum * v.quiet.length + v.quiet.sum * e.length, 2 * e.length * v.quiet.length)

/-- A module samples dark. -/
def SlateView.dark (v : SlateView) (n k : Nat) (mirror inverted : Bool) (t : Nat × Nat) (r c : Nat) : Bool :=
  let x := v.at_ n k mirror r c * t.2
  if inverted then decide (t.1 < x) else decide (x < t.1)

/-- How many modules of the ears sample as Table Slate.1 requires, ear by ear. -/
def SlateView.earScores (v : SlateView) (n k : Nat) (mirror inverted : Bool) : List Nat :=
  let t := v.threshold n k mirror
  [(0, 0), (0, n - 3), (n - 3, 0), (n - 3, n - 3)].map (fun o =>
    ((((List.range 3).map (fun i => (List.range 3).map (fun j => (o.1 + i, o.2 + j)))).flatten).filter (fun m =>
      v.dark n k mirror inverted t m.1 m.2 == !(m.1 == 1 && m.2 == 1))).length)

/-- The orientation in which every ear matches in at least 8 modules, and the most in all; the first on a tie (R327). -/
def SlateView.orient (v : SlateView) (n : Nat) (mirror inverted : Bool) : Option Nat :=
  ((List.range 4).filter (fun k => (v.earScores n k mirror inverted).all (fun x => decide (8 ≤ x)))).foldl (fun best k =>
    match best with
    | none => some k
    | some b => if (v.earScores n b mirror inverted).sum < (v.earScores n k mirror inverted).sum then some k else best) none

/-- What reading a Slate tag gives: the data bytes with e and f, or a failure reason of R290. -/
inductive SlateRead where
  | ok (data : List Nat) (corrected erased : Nat)
  | fail (reason : Nat)
  deriving DecidableEq, Repr

/-- Read a tag in one handedness (R327, R329). -/
def SlateView.readOne (v : SlateView) (l mirror inverted : Bool) (sc : Nat) : SlateRead :=
  let n := slateN l
  match v.orient n mirror inverted with
  | none => .fail 1
  | some k =>
    let t := v.threshold n k mirror
    let mods := dataModules n
    let bitsRead := mods.map (fun m => xor (v.dark n k mirror inverted t m.1 m.2) (maskBit m.1 m.2))
    let words := bitsToBytes (slateK l + slateR l) bitsRead
    let amb := (mods.zipIdx.filter (fun m =>
      decide (10 * absDiff (v.at_ n k mirror m.1.1 m.1.2 * t.2) t.1 ≤ sc * t.2))).map (fun m => m.2 / 8)
    let er := amb.eraseDups
    let erased := if slateR l < er.length then [] else er
    match rsDecode (slateR l) words erased with
    | none => .fail 2
    | some (w, e) =>
      let d := w.take (slateK l)
      let body := d.take (slateK l - 2)
      if d.drop (slateK l - 2) != crcBytes body then .fail 3
      else if l && (d.getD 20 0 != 0 || d.getD 21 0 != 0) then .fail 1
      else .ok (if l then d.take 20 else d.take 8) e erased.length

/-- Read a tag, and its mirror image where OPT[0] allows it: the outcome, and whether it was mirrored (R328). -/
def SlateView.read (v : SlateView) (l inverted : Bool) (opt sc : Nat) : SlateRead × Bool :=
  match v.readOne l false inverted sc with
  | .ok d e f => (.ok d e f, false)
  | .fail r =>
    if opt.testBit 0 then
      match v.readOne l true inverted sc with
      | .ok d e f => (.ok d e f, true)
      | .fail _ => (.fail r, false)
    else (.fail r, false)

end Sys2Proof.Machine
end

