-- ==== Sys2Proof/Machine/Slate.lean ====
section
/-! DEFINITION. Slate continuity and the latency units (R331 to R351). -/
namespace Sys2Proof.Machine

/-! ### Continuity -/

/-- The difference of two counters, read as signed (R333). -/
def ctrDiff (a b : Nat) : Int := toSigned 48 (a + 2 ^ 48 - b % 2 ^ 48)

/-- Continuity examines the lane: CONT_EN is 1 and a Slate family is enabled (R331). -/
def State.contOn (s : State) (b : Billet) : Bool :=
  b.lane != 0xFF && s.on Rg.lnContEn b.lane &&
    ((cpGet b.bind Rg.lnSymEn).testBit 12 || (cpGet b.bind Rg.lnSymEn).testBit 13)

/-- What an examination found and counted. -/
structure Exam where
  cls : Nat
  tracker : Option Tracker := none
  highBefore : Nat := 0
  opened : Nat := 0
  /-- holes confirmed: examined and unexamined -/
  drops : Nat := 0
  unexamined : Nat := 0
  deriving DecidableEq, Repr

/-- Confirm holes: how many are examined, and how many are not. -/
def confirmed (l : List Hole) : Nat × Nat :=
  ((l.filter (fun h => h.examined)).length, (l.filter (fun h => !h.examined)).length)

/-- Give a tracker to an identifier that has none: the least recently used of four makes room (R334). -/
def newTracker (ts : List Tracker) (sid n : Nat) : List Tracker × Exam :=
  let keep := ts.take 3
  let out := confirmed ((ts.drop 3).map Tracker.holes).flatten
  let t : Tracker := { sid := sid, high := n }
  (t :: keep, { cls := 1, tracker := some t, drops := out.1, unexamined := out.2 })

/-- A tracker restarts at counter n (R334). -/
def restart (t : Tracker) (n : Nat) : Tracker × Exam :=
  let c := confirmed t.holes
  let t' : Tracker := { t with high := n, run := 0, holes := [], drops := min (2 ^ 32 - 1) (t.drops + c.1) }
  (t', { cls := 10, tracker := some t', highBefore := t.high, drops := c.1, unexamined := c.2 })

/-- The counter jumped forward by d (R334): holes open, the window slides, and those that leave it are confirmed. -/
def forward (t : Tracker) (n d u win : Nat) : Tracker × Exam :=
  let fresh := d - 1
  let un := min fresh u
  let stay := min fresh win
  let gone := fresh - stay
  let old := t.holes.filter (fun h => decide ((n + 2 ^ 48 - h.counter) % 2 ^ 48 ≤ win))
  let left := confirmed (t.holes.filter (fun h => decide (win < (n + 2 ^ 48 - h.counter) % 2 ^ 48)))
  let new := (List.range stay).map (fun i =>
    { counter := mask48 (t.high + 1 + gone + i), examined := decide (un ≤ gone + i) : Hole })
  let goneUn := min gone un
  let dr := left.1 + (gone - goneUn)
  let t' : Tracker := { t with high := n, run := 0, holes := old ++ new, drops := min (2 ^ 32 - 1) (t.drops + dr) }
  (t', { cls := if d = 1 then 2 else 3, tracker := some t', highBefore := t.high, opened := fresh, drops := dr,
         unexamined := left.2 + goneUn })

/-- Classify one tag against its tracker (R334). -/
def classify (t : Tracker) (tag : SlateTag) (verdict u win gapMax freeze : Nat) : Tracker × Exam :=
  let n := tag.counter
  let d := ctrDiff n t.high
  if tag.flags.testBit 2 then restart t n
  else if 1 ≤ d ∧ d ≤ gapMax then forward t n d.toNat u win
  else if d = 0 then
    let run := t.run + 1
    let t' : Tracker := { t with run := run }
    let cls := if tag.flags.testBit 1 then 7 else if verdict = 2 then 6 else if freeze ≤ run then 5 else 4
    (t', { cls := cls, tracker := some t', highBefore := t.high })
  else if t.holes.any (fun h => h.counter == n) then
    let t' : Tracker := { t with run := 0, holes := t.holes.filter (fun h => h.counter != n) }
    (t', { cls := 8, tracker := some t', highBefore := t.high })
  else if d ≤ -1 ∧ -(gapMax : Int) ≤ d then
    let t' : Tracker := { t with run := 0 }
    (t', { cls := 9, tracker := some t', highBefore := t.high })
  else restart t n

/-- Examine a tag: the lane's trackers, most recently used first, and what was found (R334). -/
def examineTag (ts : List Tracker) (tag : SlateTag) (verdict u win gapMax freeze : Nat) : List Tracker × Exam :=
  match ts.find? (fun t => t.sid == tag.sid) with
  | none => newTracker ts tag.sid tag.counter
  | some t =>
    let r := classify t tag verdict u win gapMax freeze
    (r.1 :: ts.filter (fun x => x.sid != tag.sid), r.2)

/-- The lane counter of a class (R335, Table Slate.7). -/
def classCounter (c : Nat) : Option Fld :=
  if c = 1 then some Rg.lnCFirst else if c = 2 then some Rg.lnCNext else if c = 3 then some Rg.lnCSkip
  else if c = 4 then some Rg.lnCRepeat else if c = 5 then some Rg.lnCFrozen else if c = 6 then some Rg.lnCTagStuck
  else if c = 7 then some Rg.lnCCadence else if c = 8 then some Rg.lnCLate else if c = 9 then some Rg.lnCStale
  else if c = 10 then some Rg.lnCRestart else if c = 11 then some Rg.lnCMissing else none

/-- The continuity block of the summary (Table Slate.6). -/
def contBlock (e : Exam) (verdict : Nat) (mism multi fill : Bool) (tag : Option SlateTag) : List Byte :=
  let h := leBytes 1 e.cls ++ leBytes 1 (b2n (verdict == 1) + 2 * b2n mism + 4 * b2n multi + 8 * b2n fill)
  match tag, e.tracker with
  | some g, some t =>
    h ++ leBytes 1 g.sid ++ leBytes 1 g.flags ++ leBytes 6 g.counter ++ leBytes 6 e.highBefore ++
    leBytes 2 (sat16 e.opened) ++ leBytes 2 (sat16 (e.drops + e.unexamined)) ++ leBytes 2 (sat16 t.run) ++
    leBytes 2 (sat16 t.holes.length) ++ leBytes 4 (sat32 t.drops) ++ zeros 4
  | _, _ => h ++ zeros 30

/-- The tags of a Billet that pass R332, and how many were decoded with another identifier. -/
def State.passingTags (s : State) (b : Billet) : List SlateTag × Nat :=
  if s.on Rg.lnSidCheck b.lane then
    let ok := b.slate.tags.filter (fun t => t.sid == s.rd Rg.lnSidExpect b.lane)
    (ok, b.slate.tags.length - ok.length)
  else (b.slate.tags, 0)

/-- The tag with the lowest candidate number. -/
def lowestTag (l : List SlateTag) : Option SlateTag :=
  l.foldl (fun best t => match best with
    | none => some t
    | some b => if t.cand < b.cand then some t else best) none

/-! ### Latency units (R340 to R343) -/

/-- One latency unit beside its registers. -/
def State.lat (s : State) (u : Nat) : LatSt := kvGet {} s.lats u

def State.modLat (s : State) (u : Nat) (f : LatSt → LatSt) : State := { s with lats := kvMod {} s.lats u f }

/-- An unpaired edge or mark is counted and reported. -/
def State.unpaired (s : State) (u : Nat) (f : Fld) (n : Nat) : State :=
  if n = 0 then s else (s.addSat f n u).raiseLim 64 745 u (s.rd Rg.latLane u) n

/-- Pair the oldest mark with the oldest edge while both queues hold an entry (R343). -/
def State.latPair (s : State) (u : Nat) : Nat → State
  | 0 => s
  | fuel + 1 =>
    match (s.lat u).marks, (s.lat u).edges with
    | (tm, fc) :: ms, te :: es =>
      let w : Int := s.rd Rg.latWindow u
      let l : Int := (te : Int) - tm - s.rdI Rg.latOffset u
      if l < -w then
        ((s.modLat u (fun x => { x with edges := es })).unpaired u Rg.latUnpairedEdge 1).latPair u fuel
      else if w < l then
        ((s.modLat u (fun x => { x with marks := ms })).unpaired u Rg.latUnpairedMark 1).latPair u fuel
      else
        let s1 := s.modLat u (fun x => { x with marks := ms, edges := es })
        let s2 := (s1.wrI Rg.latLast l u).wr Rg.latLastFc fc u
        let s3 := if l < s2.rdI Rg.latMin u then s2.wrI Rg.latMin l u else s2
        let s4 := if s3.rdI Rg.latMax u < l then s3.wrI Rg.latMax l u else s3
        let s5 := if s4.rd Rg.latPairs u < 0x7FFFFFFF then
            (s4.wrI Rg.latSum (s4.rdI Rg.latSum u + l) u).wr Rg.latPairs (s4.rd Rg.latPairs u + 1) u
          else s4
        s5.latPair u fuel
    | _, _ => s

/-- A mark joins the queue of a unit; a full queue drops its oldest entry (R342). -/
def State.latMark (s : State) (u stamp fc : Nat) : State :=
  let q := (s.lat u).marks
  let s1 := s.modLat u (fun x => { x with marks := (if 8 ≤ q.length then q.drop 1 else q) ++ [(stamp, fc)] })
  (s1.unpaired u Rg.latUnpairedMark (b2n (decide (8 ≤ q.length)))).latPair u 20

/-- An edge joins the queue of a unit. -/
def State.latEdge (s : State) (u stamp : Nat) : State :=
  let q := (s.lat u).edges
  let s1 := s.modLat u (fun x => { x with edges := (if 8 ≤ q.length then q.drop 1 else q) ++ [stamp] })
  (s1.unpaired u Rg.latUnpairedEdge (b2n (decide (8 ≤ q.length)))).latPair u 20

/-- A result sample reaches a unit: the crossing test of R341. Samples marked TONE are skipped, and no crossing is tested
across one. -/
def State.latSample (s : State) (u t : Nat) (v : Int) (tone : Bool) : State :=
  if tone then s.modLat u (fun x => { x with prev := none })
  else
    let x := s.lat u
    let thr := s.rdI Rg.latThr u
    let hyst : Int := s.rd Rg.latHyst u
    let falling := s.on Rg.latPol u
    let rearm := if falling then thr + hyst ≤ v else v ≤ thr - hyst
    let s1 := s.modLat u (fun y => { y with prev := some (t, v), armed := y.armed || decide rearm })
    match x.prev with
    | none => s1
    | some (ta, va) =>
      let hit := if falling then decide (thr < va) && decide (v ≤ thr) else decide (va < thr) && decide (thr ≤ v)
      if x.armed && hit then
        let off := (((t : Int) - ta) * (thr - va)).fdiv (v - va)
        (s1.modLat u (fun y => { y with armed := decide rearm })).latEdge u ((ta : Int) + off).toNat
      else s1

/-- The latency units that watch a channel. -/
def State.latFeed (s : State) (chan t : Nat) (v : Int) (tone : Bool) : State :=
  s.each ((List.range 4).filter (fun u => s.on Rg.latEn u && s.rd Rg.latChan u == chan)) (fun st u => st.latSample u t v tone)

/-- No crossing is tested across a gap in the samples of a channel (R348). -/
def State.latGap (s : State) (chan : Nat) : State :=
  s.each ((List.range 4).filter (fun u => s.rd Rg.latChan u == chan)) (fun st u => st.modLat u (fun x => { x with prev := none }))

/-- A Billet whose tag carries MARK gives its stamp to the units of its lane (R342). -/
def State.latMarks (s : State) (b : Billet) (tag : SlateTag) : State :=
  if tag.flags.testBit 0 then
    s.each ((List.range 4).filter (fun u => s.on Rg.latEn u && s.rd Rg.latLane u == b.lane)) (fun st u =>
      st.latMark u b.stamp tag.counter)
  else s

/-- LATENCY_MARK_EXPIRY: a mark has waited longer than WINDOW + OFFSET with no edge (R343). -/
def State.latExpire (s : State) (u : Nat) : State :=
  match (s.lat u).marks with
  | [] => s
  | (tm, _) :: ms =>
    let due := ((tm : Int) + s.rd Rg.latWindow u + s.rdI Rg.latOffset u + 1).toNat
    ((s.reach due).modLat u (fun x => { x with marks := ms })).unpaired u Rg.latUnpairedMark 1

def doLatencyMarkExpiry (u : Fin 4) (s : State) : State :=
  s.latExpire u.val

/-- Address of a latency unit's register. -/
def latAddr (u off : Nat) : Nat := 0x280600 + 0x40 * u + off

/-- LATENCY_CLEAR: MIN, MAX, SUM, PAIRS and the queues (R351). -/
def State.latClear (s : State) (u : Nat) : State :=
  let s1 := (s.wr Rg.latMin 0x7FFFFFFF u).wr Rg.latMax 0x80000000 u
  ((s1.wr Rg.latSum 0 u).wr Rg.latPairs 0 u).modLat u (fun x => { x with marks := [], edges := [] })

def doLatencyClear (m : MasterId) (u : Fin 4) (s : State) : State :=
  s.withRight m.val (latAddr u.val 0) .run (fun st => st.latClear u.val)

/-- A unit's queues are emptied and their entries count as unpaired (R347). -/
def State.latFlush (s : State) (u : Nat) : State :=
  let x := s.lat u
  let s1 := s.modLat u (fun y => { y with marks := [], edges := [] })
  (s1.unpaired u Rg.latUnpairedMark x.marks.length).unpaired u Rg.latUnpairedEdge x.edges.length

/-- What LATENCY_UNIT_WRITE writes. -/
def latFields : List Fld := [Rg.latChan, Rg.latLane, Rg.latEn]

/-- The write needs Look on the channel or lane it names (Table Access.3). -/
def State.latMayName (s : State) (m which v : Nat) : Bool :=
  match s.asTested.tenantOf m with
  | none => false
  | some t => if which = 0 then s.asTested.holds t 0x3A (some v) .look
              else if which = 1 then s.asTested.holds t 0x10 (some v) .look else true

/-- A write of CHAN, LANE or EN: another channel, or a unit switched on again, begins without an earlier sample (R341, R347). -/
def State.latWrite (s : State) (u which v : Nat) : State :=
  match latFields[which]? with
  | none => s
  | some f =>
    let s1 := (s.latFlush u).wr f v u
    if which != 1 && s.rd f u != v then s1.modLat u (fun x => { x with prev := none, armed := true }) else s1

def doLatencyUnitWrite (m : MasterId) (u : Fin 4) (which : Fin 3) (v : Fin 64) (s : State) : State :=
  s.guardWrite m.val (latAddr u.val 0)
    (s.rightAt m.val (latAddr u.val 0) .set && s.latMayName m.val which.val v.val)
    (fun st => st.latWrite u.val which.val v.val)

/-! ### The examination (R331 to R339) -/

/-- Continuity examines a Billet when its terminal record is formed; the block enters its summary. -/
def State.slateExamine (s : State) (o : Nat) : State :=
  match s.billet? o with
  | none => s
  | some b =>
    if b.slate.examined || b.lane = 0xFF then s
    else
      let n := b.lane
      let p := s.passingTags b
      let tag := lowestTag p.1
      let s0 := match tag with
        | some g => s.latMarks b g
        | none => s
      if !s.contOn b then s0.modBillet o (fun x => { x with slate := { x.slate with examined := true } })
      else
        let l := s0.lane n
        let u := match l.lastExamined with
          | some f => (b.frame + 2 ^ 32 - f - 1) % 2 ^ 32
          | none => 0
        let freeze := max 1 (s0.rd Rg.lnFreezeRun n)
        let r := match tag with
          | none => (l.trackers, ({ cls := 11 } : Exam))
          | some g => examineTag l.trackers g b.pipe.verdict u (s0.rd Rg.lnReorderWin n) (max 1 (s0.rd Rg.lnGapMax n)) freeze
        let e := r.2
        let run := match e.tracker with
          | some t => t.run
          | none => 0
        let fill := s0.on Rg.lnFreezeFill n && cpGet b.ws Rg.lnRefMode == 1 && decide (4 ≤ e.cls) && decide (e.cls ≤ 7) &&
          run == freeze
        let s1 := s0.modLane n (fun x => { x with trackers := r.1, lastExamined := some b.frame })
        let s2 := match classCounter e.cls with
          | some f => s1.addSat f (if e.cls = 3 then e.opened else 1) n
          | none => s1
        let s3 := (s2.addSat Rg.lnCDrops e.drops n).addSat Rg.lnCUnexamined e.unexamined n
        let s4 := s3.each (List.range p.2) (fun st _ => (st.bumpSat Rg.lnCSidMismatch n).raise 744 n 1)
        let s5 := if 0 < e.drops then s4.raiseCnt 64 741 n n else s4
        let s6 := if e.cls = 5 then s5.raiseCnt 64 742 n n else s5
        let s7 := if e.cls = 8 ∨ e.cls = 9 then s6.raiseCnt 64 743 n n else s6
        let s8 := if fill then s7.wr Rg.lnFillPend 1 n else s7
        let s9 := s8.wr Rg.lnClassLast e.cls n
        let s10 := match tag, e.tracker with
          | some g, some t => (s9.wr Rg.lnSidLast g.sid n).wr Rg.lnHighLast t.high n
          | _, _ => s9
        s10.modBillet o (fun x => { x with slate := { x.slate with
          examined := true, summary := contBlock e b.pipe.verdict (decide (0 < p.2)) (decide (1 < p.1.length)) fill tag } })

/-- Every tracker of a lane is cleared without confirming holes (R347). -/
def State.contReset (s : State) (n : Nat) : State :=
  s.modLane n (fun l => { l with trackers := [], lastExamined := none })

/-- CONTINUITY_RESET: a write of CONT_EN (false) or REORDER_WIN (true). -/
def State.contWrite (s : State) (n : Nat) (win : Bool) (v : Nat) : State :=
  (s.wr (if win then Rg.lnReorderWin else Rg.lnContEn) v n).contReset n

def doContinuityReset (m : MasterId) (n : LaneId) (win : Bool) (v : Fin 64) (s : State) : State :=
  s.withRight m.val (0x100D00 + 0x1000 * n.val) .set (fun st => st.contWrite n.val win v.val)

end Sys2Proof.Machine
end

