-- ==== Sys2Proof/Machine/CciQueue.lean ====
section
/-! DEFINITION. The queues of the camera control masters: pushing a transaction, and its end (R170 to R172, R256). -/
namespace Sys2Proof.Machine

/-- One camera control master. -/
def State.cciOf (s : State) (c : Nat) : CciSt := kvGet {} s.cci c

/-- A master changes, and its registers QUEUED and RESULTS follow. -/
def State.modCci (s : State) (c : Nat) (f : CciSt → CciSt) : State :=
  let s1 := { s with cci := kvMod {} s.cci c f }
  let x := s1.cciOf c
  (s1.wr Rg.cciQueued x.queue.length c).wr Rg.cciResults x.results.length c

/-- Push a transaction; onto a full queue it is dropped and FULL is set (R170, R171). -/
def State.cciPush (s : State) (c : Nat) (t : CciTx) : State :=
  if 64 ≤ (s.cciOf c).queue.length then s.wr Rg.cciFull 1 c
  else s.modCci c (fun x => { x with queue := x.queue ++ [t], triggered := x.triggered || (x.queue.isEmpty && t.trig == 0) })

/-- A result is queued, at most 64 deep: the oldest is overwritten (R172). -/
def State.cciResult (s : State) (c : Nat) (t : CciTx) (status rdata : Nat) : State :=
  let s1 := s.modCci c (fun x =>
    { x with results := (if 64 ≤ x.results.length then x.results.drop 1 else x.results) ++
                        [{ tag := t.tag, status := status, rdata := rdata }] })
  if 1 ≤ status ∧ status ≤ 4 then s1.raise (360 + c) c status else s1

/-- The head of the queue is the next to wait for its trigger. -/
def CciSt.rearm (x : CciSt) : CciSt :=
  { x with triggered := match x.queue with
      | t :: _ => t.trig == 0
      | [] => false }

/-- A loop write failed or was dropped: AE_FAIL counts, E0739 is raised, and AE_EXP or WB_LAST keeps its old value
(R256). -/
def State.loopFailed (s : State) (l : Nat × Nat × Nat) (status : Nat) : State :=
  let n := l.1
  let f := if l.2.1 = 0 then Rg.lnAeExp else if l.2.1 = 1 then Rg.lnWbLastR else Rg.lnWbLastB
  ((s.wr f l.2.2 n).bumpSat Rg.lnAeFail n).raiseLim 64 739 n n status

/-- The event of a failed transaction (R172). -/
def State.cciEvent (s : State) (c status : Nat) : State :=
  if 1 ≤ status ∧ status ≤ 4 then s.raise (360 + c) c status else s

/-- A transaction ends with a status. The result of a loop write (R256) and that of a verb (R621) do not enter the result
queue; the session that waits is told by `cciTold`. -/
def State.cciEnd (s : State) (c : Nat) (t : CciTx) (status rdata : Nat) : State :=
  match t.loop, t.session with
  | some l, _ =>
    let s1 := s.cciEvent c status
    if status = 0 then s1 else s1.loopFailed l status
  | none, some n => { s.cciEvent c status with cciTold := s.cciTold ++ [(n, status, rdata)] }
  | none, none => s.cciResult c t status rdata

/-- Push a transaction of a loop: one that a full queue drops has failed (R171, R256). -/
def State.cciPushLoop (s : State) (c : Nat) (t : CciTx) : State :=
  if 64 ≤ (s.cciOf c).queue.length then
    match t.loop with
    | some l => (s.cciPush c t).loopFailed l 5
    | none => s.cciPush c t
  else s.cciPush c t


end Sys2Proof.Machine
end

