-- ==== Sys2Proof/Machine/Pixel.lean ====
section
/-! DEFINITION. The pixel arithmetic of the Pipe: alignment, black level, defects, shading, linearisation, merge, decode
conversion, demosaic and scaler (R199 to R214, R260, R261). -/
namespace Sys2Proof.Machine

/-- Largest working value. -/
def pixMax : Nat := 1048575

/-- Clip to the working range (R199). -/
def clip20 (x : Int) : Nat := (clampI 0 (pixMax : Nat) x).toNat

/-- Align a raw pixel of N bits (R199). -/
def alignPix (bits p : Nat) : Nat := min pixMax (p * 2 ^ (20 - bits))

/-- Bayer phase (R201): 0 under MONO. -/
def phaseOf (cfa x y : Nat) : Nat := if 4 ≤ cfa then 0 else 2 * (y % 2) + x % 2

/-- Black level and white gain (R202). -/
def blackPix (bl wg v : Nat) : Nat := clip20 ((((v : Int) - bl) * wg + 8192) / 16384)

/-- A defect entry of the static table (R207). -/
structure Defect where
  x : Nat
  y : Nat
  kind : Nat
  deriving DecidableEq, Repr

/-- One word of the static defect table. -/
def defectOf (w : Nat) : Defect := { x := bits w 0 14, y := bits w 16 14, kind := bits w 14 2 }

/-- A pixel is listed (R207). -/
def Defect.covers (d : Defect) (x y : Nat) : Bool :=
  d.x == x && ((d.kind == 1 && d.y == y) || (d.kind == 2 && decide (d.y ≤ y)))

def listedIn (t : List Defect) (x y : Nat) : Bool := t.any (fun d => d.covers x y)

/-- Same-phase distance. -/
def phaseStep (cfa : Nat) : Nat := if 4 ≤ cfa then 1 else 2

/-- The values of a row at the given offsets that lie within it. -/
def neighbours (row : List Nat) (x : Nat) (offs : List Int) : List Nat :=
  offs.filterMap (fun o => let p : Int := x + o; if 0 ≤ p then row[p.toNat]? else none)

/-- Static replacement of a listed pixel (R208). -/
def staticPix (t : List Defect) (cfa : Nat) (row : List Nat) (x y v : Nat) : Nat :=
  if listedIn t x y then
    let s : Int := phaseStep cfa
    match neighbours row x [-s, s] with
    | [a, b] => (a + b + 1) / 2
    | [a] => a
    | _ => v
  else v

/-- Order a short list. -/
def insertNat (x : Nat) : List Nat → List Nat
  | [] => [x]
  | y :: ys => if x ≤ y then x :: y :: ys else y :: insertNat x ys

def sortNat (l : List Nat) : List Nat := l.foldl (fun acc x => insertNat x acc) []

/-- Median of 2 to 4 sorted values (R209). -/
def medianOf : List Nat → Nat
  | [a, b] => (a + b + 1) / 2
  | [_, b, _] => b
  | [_, b, c, _] => (b + c + 1) / 2
  | _ => 0

/-- The dynamic test: the pixel, and whether it was replaced (R209). -/
def dynPix (t : List Defect) (cfa thr : Nat) (row : List Nat) (x y v : Nat) : Nat × Bool :=
  if listedIn t x y then (v, false)
  else
    let s : Int := phaseStep cfa
    let ns := sortNat (neighbours row x [-2 * s, -s, s, 2 * s])
    match ns with
    | [] => (v, false)
    | [_] => (v, false)
    | lo :: _ =>
      let hi := ns.getLastD 0
      if hi + thr < v ∨ v + thr < lo then (medianOf ns, true) else (v, false)

/-- A grid coordinate: cell and fraction (R210). -/
def gridCoord (p size : Nat) : Nat × Nat :=
  let u := if size ≤ 1 then 0 else p * 32 * 65536 / (size - 1)
  let i := u / 65536
  if 32 ≤ i then (31, 1024) else (i, u / 64 % 1024)

/-- The interpolated shading gain; `g i j` reads the grid (R210). -/
def shadeGain (g : Nat → Nat → Nat) (w h x y : Nat) : Nat :=
  let (i, a) := gridCoord x w
  let (j, b) := gridCoord y h
  ((1024 - a) * (1024 - b) * g i j + a * (1024 - b) * g (i + 1) j + (1024 - a) * b * g i (j + 1) +
    a * b * g (i + 1) (j + 1) + 2 ^ 19) / 2 ^ 20

/-- Apply a shading gain (R210). -/
def shadePix (gain v : Nat) : Nat := clip20 (((v * gain + 2048) / 4096 : Nat))

/-- Linearisation through a table (R211). -/
def linPix (l : Nat → Nat) (v : Nat) : Nat :=
  let i := v / 4096
  let f := v / 16 % 256
  clip20 ((l i : Int) + ((((l (i + 1) : Int) - l i) * f + 128) / 256))

/-- Merge the exposures present, longest first: (raw value at 16-bit scale, linearised value, SAT, KNEE) (R212). -/
def mergePix : List (Nat × Nat × Nat × Nat) → Nat
  | [] => 0
  | [(_, v, _, _)] => v
  | (r, v, sat, knee) :: rest =>
    let m := mergePix rest
    if r + knee ≤ sat then v
    else if r < sat ∧ knee ≠ 0 then
      let a := (sat - r) * 256 / knee
      (a * v + (256 - a) * m + 128) / 256
    else m

/-- The colour of a phase: 0 red, 1 green, 2 blue (R201). -/
def colourOf (cfa q : Nat) : Nat :=
  let rggb := [0, 1, 1, 2]
  let grbg := [1, 0, 2, 1]
  let gbrg := [1, 2, 0, 1]
  let bggr := [2, 1, 1, 0]
  ((if cfa = 0 then rggb else if cfa = 1 then grbg else if cfa = 2 then gbrg else bggr)).getD q 1

/-- Rounded mean of a list. -/
def meanOf (l : List Nat) : Nat := if l.isEmpty then 0 else (l.sum + l.length / 2) / l.length

/-- A pixel of the corrected plane. -/
def planeAt (pl : List (List Nat)) (x y : Int) : Option Nat :=
  if x < 0 ∨ y < 0 then none else (pl[y.toNat]?).bind (fun r => r[x.toNat]?)

/-- One colour of a Bayer pixel: its own, or the rounded mean of the same-colour pixels around it (R260). -/
def demosaicAt (cfa : Nat) (pl : List (List Nat)) (x y c : Nat) : Nat :=
  if colourOf cfa (phaseOf cfa x y) = c then (planeAt pl x y).getD 0
  else
    let offs : List (Int × Int) := [(-1, -1), (0, -1), (1, -1), (-1, 0), (1, 0), (-1, 1), (0, 1), (1, 1)]
    meanOf (offs.filterMap (fun o =>
      let px : Int := x + o.1
      let py : Int := y + o.2
      if 0 ≤ px ∧ 0 ≤ py ∧ colourOf cfa (phaseOf cfa px.toNat py.toNat) = c then planeAt pl px py else none))

/-- Luminance of a raw pixel (R260). -/
def lumaAt (cfa : Nat) (pl : List (List Nat)) (x y : Nat) : Nat :=
  if 4 ≤ cfa then (planeAt pl x y).getD 0
  else (77 * demosaicAt cfa pl x y 0 + 150 * demosaicAt cfa pl x y 1 + 29 * demosaicAt cfa pl x y 2 + 128) / 256

/-- The bilinear coefficient of a phase and tap (R261). -/
def bilinear (phase tap : Nat) : Int := if tap = 3 then 1024 - 16 * (phase : Int) else if tap = 4 then 16 * (phase : Int) else 0

/-- Source position of output pixel i, in 1/64 pixel (R261). -/
def scalePos (n i : Nat) : Nat := i * n + (n - 64) / 2

/-- One scaled value along a line of `len` source values (R261). -/
def scaleTap (coef : Nat → Nat → Int) (vmax : Nat) (len n : Nat) (src : Nat → Nat) (i : Nat) : Nat :=
  let s := scalePos n i
  let acc := (List.range 8).foldl (fun (a : Int) (t : Nat) =>
    let p : Int := ((s / 64 : Nat) : Int) - 3 + (t : Int)
    let q := (clampI 0 ((len - 1 : Nat) : Int) p).toNat
    a + coef (s % 64) t * (src q : Int)) 0
  (clampI 0 (vmax : Int) ((acc + 512) / 1024)).toNat

end Sys2Proof.Machine
end

