-- ==== Sys2Proof/Machine/PipeTables.lean ====
section
/-! DEFINITION. Profile memory, its banks and its commands, and the reference slots' commands (R215, R222 to R225, R239). -/
namespace Sys2Proof.Machine

/-- Words of a table (Table Pipeline.2). -/
def tblWords (t : Nat) : Nat := if t = 0 then 4096 else if t = 1 then 4356 else if t ≤ 4 then 257 else if t = 5 then 1024 else 0

/-- Bits of a table's word that hold content. -/
def tblBits (t : Nat) : Nat := if t = 0 then 30 else if t = 1 then 16 else if t ≤ 4 then 20 else 8

/-- The default tables (R223). -/
def tblDefault (t i : Nat) : Nat :=
  if t = 0 then 0 else if t = 1 then 4096 else if t ≤ 4 then min (4096 * i) pixMax else i / 4

/-- Key of a word: bank is 2 × profile + bank. -/
def tblKey (bank t i : Nat) : Nat := (bank * 8 + t) * 8192 + i

/-- A word of profile memory. -/
def State.tbl (s : State) (bank t i : Nat) : Nat := kvGet (tblDefault t i) s.profiles (tblKey bank t i)

/-- The profile and bank a copy of lane fields refers to. -/
def bankOf (ws : Kv Nat) : Nat := 2 * cpGet ws Rg.lnProfile + cpGet ws Rg.lnBank

/-- A bank is in use while a shadow set, a working set or an open Billet refers to it (R224). -/
def State.bankInUse (s : State) (bank : Nat) : Bool :=
  (List.range 64).any (fun n => 2 * s.rd Rg.lnProfile n + s.rd Rg.lnBank n == bank ||
    (match (s.lane n).prevWs with
     | some w => bankOf w == bank
     | none => false)) ||
  s.billets.any (fun b => b.lane != 0xFF && bankOf b.ws == bank)

/-- A write of a table word: it marks the bank invalid; in a bank in use it is dropped (R224, R225). -/
def State.tblWrite (s : State) (bank t i v : Nat) : State :=
  if s.bankInUse bank then (s.wr Rg.pipeTblBusy 1).raise 451 0 0
  else if i < tblWords t then
    { s with profiles := kvSet (tblDefault t i) s.profiles (tblKey bank t i) (v % 2 ^ tblBits t),
             badBanks := if s.badBanks.contains bank then s.badBanks else bank :: s.badBanks }
  else s

/-- A read of a table word; a word beyond the table has no stated value (R239). -/
def State.tblRead (s : State) (bank t i : Nat) : State × Nat :=
  if i < tblWords t then (s, s.tbl bank t i) else s.free 32

/-- The static defects of a bank, up to the end of the table (R207). -/
def State.defects (s : State) (bank : Nat) : List Defect :=
  ((List.range 4096).map (fun i => defectOf (s.tbl bank 0 i))).takeWhile (fun d => d.kind != 0)

/-- Entries in ascending order of Y and then X. -/
def ascending : List Defect → Bool
  | [] => true
  | [_] => true
  | a :: b :: l => (decide (a.y < b.y) || (a.y == b.y && decide (a.x ≤ b.x))) && ascending (b :: l)

/-- The check of a commit (R225). -/
def State.bankPasses (s : State) (bank : Nat) : Bool :=
  (s.defects bank).all (fun d => d.kind != 3) && ascending (s.defects bank)

/-- A commit of a bank (R225). -/
def State.tblCommit (s : State) (bank : Nat) : State :=
  if s.bankPasses bank then { s.wr Rg.pipeTblError 0 with badBanks := s.badBanks.filter (fun b => b != bank) }
  else s.wr Rg.pipeTblError 1

/-- The bank that a master has selected. -/
def State.tblSel (s : State) (m : Nat) : Nat := 2 * s.rd Rg.pipeTblProfile m + s.rd Rg.pipeTblBank m

/-- An access to TBL_DATA: the word, and TBL_ADDR one on (R239). -/
def State.tblStep (s : State) (m : Nat) : State := s.bump Rg.pipeTblAddr m

def State.tblDataWrite (s : State) (m v : Nat) : State :=
  (s.tblWrite (s.tblSel m) (s.rd Rg.pipeTblTable m) (s.rd Rg.pipeTblAddr m) v).tblStep m

def State.tblDataRead (s : State) (m : Nat) : State × Nat :=
  let r := s.tblRead (s.tblSel m) (s.rd Rg.pipeTblTable m) (s.rd Rg.pipeTblAddr m)
  (r.1.tblStep m, r.2)

/-- TBL_DATA_ACCESS: a read without a value, a write with one. -/
def doTblDataAccess (m : MasterId) (v : Option Word) (s : State) : State :=
  match v with
    | some w => s.withRight m.val 0x140108 .set (fun st => st.tblDataWrite m.val w.toNat)
    | none => s.guardRead m.val 0x140108 (s.rightAt m.val 0x140108 .look) (fun st => st.tblDataRead m.val)

/-- TABLE_COMMIT. -/
def doTableCommit (m : MasterId) (s : State) : State :=
  s.withRight m.val 0x14010C .run (fun st => st.tblCommit (st.tblSel m.val))

/-- REF_FILL: a fill becomes pending (R220). -/
def doRefFill (m : MasterId) (n : LaneId) (s : State) : State :=
  s.withRight m.val (0x100840 + 0x1000 * n.val) .run (fun st => st.wr Rg.lnFillPend 1 n.val)

/-- A reference slot loses its content (R232, R239). -/
def State.refClear (s : State) (k : Nat) : State :=
  { s.wr Rg.pipeRefValid 0 k with
    refs := kvMod {} s.refs k (fun r => { r with half0 := {}, half1 := {} }) }

/-- REF_CLEAR. -/
def doRefClear (m : MasterId) (k : Fin 32) (s : State) : State :=
  s.guardWrite m.val 0x140280 (s.rightAt m.val 0x140280 .run && s.rightAt m.val 0x140280 .set) (fun st => st.refClear k.val)

end Sys2Proof.Machine
end

