-- ==== Sys2Proof/Machine/Stats.lean ====
section
/-! DEFINITION. Statistics: the window, the accumulators, the block and its posting, and the exposure and white-balance
loops (R241 to R256, R267, R268, R273). -/
namespace Sys2Proof.Machine

/-- The window of R242: x0, y0, width, height and WINDOW_HELD. -/
def statWindow (b ws : Kv Nat) : Nat × Nat × Nat × Nat × Bool :=
  let fw := cpGet b Rg.lnWidth
  let fh := cpGet b Rg.lnHeight
  let x := cpGet ws Rg.lnStatX0
  let y := cpGet ws Rg.lnStatY0
  let w := if cpGet ws Rg.lnStatW = 0 then fw - x else cpGet ws Rg.lnStatW
  let h := if cpGet ws Rg.lnStatH = 0 then fh - y else cpGet ws Rg.lnStatH
  if x + w ≤ fw ∧ y + h ≤ fh ∧ 32 ≤ w ∧ 32 ≤ h then (x, y, w, h, false) else (0, 0, fw, fh, true)

/-- A Billet's statistics at acceptance (R241, R242). -/
def statOpen (b ws : Kv Nat) : StatB :=
  let w := statWindow b ws
  { enabled := cpGet ws Rg.lnStatEn == 1, x0 := w.1, y0 := w.2.1, w := w.2.2.1, h := w.2.2.2.1, held := w.2.2.2.2 }

/-- The zone of an offset within the window (R245). -/
def zoneOf (d size : Nat) : Nat := (16 * (d + 1) - 1) / max 1 size

/-- Add to a sparse count. -/
def kvAdd (m : Kv Nat) (k n : Nat) : Kv Nat := kvSet 0 m k (kvGet 0 m k + n)

/-- Whether the histogram counts a channel (R244). -/
def histCounts (sel ch : Nat) : Bool := if 4 ≤ sel then sel - 4 == ch else true

/-- One measured value of channel ch at (x, y) enters (R243 to R247): `hi` is the clip value, `sat` tells a saturated raw
pixel. -/
def StatB.add (t : StatB) (x y ch v hi : Nat) (sat : Bool) : StatB :=
  let z := (zoneOf (y - t.y0) t.h * 16 + zoneOf (x - t.x0) t.w) * 4 + ch
  let c1 := if sat then kvAdd t.clip ch 1 else t.clip
  let c2 := if v = hi then kvAdd c1 (4 + ch) 1 else c1
  let c3 := if v = 0 then kvAdd c2 (8 + ch) 1 else c2
  { t with sum := kvAdd t.sum z v, cnt := kvAdd t.cnt z 1, clip := c3 }

/-- One histogram bin counts. -/
def StatB.bin (t : StatB) (k : Nat) : StatB := { t with hist := kvAdd t.hist k 1 }

/-- The pixel lies in the window. -/
def StatB.inside (t : StatB) (x y : Nat) : Bool :=
  decide (t.x0 ≤ x) && decide (x < t.x0 + t.w) && decide (t.y0 ≤ y) && decide (y < t.y0 + t.h)

/-- A raw pixel enters: its phase, its corrected value, and whether the sensor's code was full. -/
def StatB.raw (t : StatB) (sel x y q z : Nat) (sat : Bool) : StatB :=
  if t.inside x y then
    let t1 := t.add x y q z pixMax sat
    if histCounts sel q then t1.bin (z / 4096) else t1
  else t

/-- A YUV422 pixel enters: Y on channel 0, Cb or Cr on channel 1 or 2. -/
def StatB.yuv (t : StatB) (x y w : Nat) : StatB :=
  if t.inside x y then
    let t1 := (t.add x y 0 (w % 256) 255 false).bin (w % 256)
    t1.add x y (1 + x % 2) (w / 256 % 256) 255 false
  else t

/-- The average of a zone and channel (R245). -/
def StatB.avg (t : StatB) (k : Nat) : Nat :=
  let n := kvGet 0 t.cnt k
  if n = 0 then Config.emptyMean.toNat else (kvGet 0 t.sum k + n / 2) / n

/-! ### The block (Table Statistics.1) -/

/-- The bytes of a statistics block. -/
def statBlock (b : Billet) (post : Nat) (flags : Nat) : List Byte :=
  let t := b.stat
  leBytes 4 b.frame ++ leBytes 6 b.ordinal ++ leBytes 1 b.lane ++ leBytes 1 flags ++ leBytes 2 b.mark ++
  leBytes 1 b.pipe.mark ++ zeros 1 ++ leBytes 8 b.stamp ++ leBytes 2 t.x0 ++ leBytes 2 t.y0 ++ leBytes 2 t.w ++
  leBytes 2 t.h ++ leBytes 2 t.stripes ++ zeros 2 ++ leBytes 4 post ++ zeros 20 ++ leBytes 4 post ++
  ((List.range 12).map (fun i => leBytes 4 (kvGet 0 t.clip i))).flatten ++ zeros 16 ++
  ((List.range 256).map (fun i => leBytes 4 (kvGet 0 t.hist i))).flatten ++
  ((List.range 1024).map (fun i => leBytes 4 (t.avg i))).flatten ++
  ((List.range 1024).map (fun i => leBytes 5 (kvGet 0 t.sum i) ++ leBytes 3 (kvGet 0 t.cnt i))).flatten

/-! ### The exposure and white-balance loops -/

/-- Zone `z` is metered (R253). -/
def metered (ws : Kv Nat) (z : Nat) : Bool := (cpGet ws Rg.lnAeZones).testBit z

/-- Mean of some values, rounded; none has no stated mean. -/
def meanRounded (l : List Nat) : Nat := if l.isEmpty then Config.emptyMean.toNat else meanOf l

/-- The metered mean M (R253). -/
def Billet.meteredMean (b : Billet) : Nat :=
  let a := fun z ch => b.stat.avg (z * 4 + ch)
  meanRounded (((List.range 256).filter (metered b.ws)).map (fun z =>
    if isYuv b.bind || decide (4 ≤ cpGet b.bind Rg.lnCfa) then a z 0
    else (a z 0 + a z 1 + a z 2 + a z 3 + 2) / 4))

/-- Mean of one colour over the metered zones (R255). -/
def Billet.colourMean (b : Billet) (c : Nat) : Nat :=
  let qs := (List.range 4).filter (fun q => colourOf (cpGet b.bind Rg.lnCfa) q == c)
  meanRounded ((((List.range 256).filter (metered b.ws)).map (fun z => qs.map (fun q => b.stat.avg (z * 4 + q)))).flatten)

/-- A loop write: 2 data bytes, TRIG = 1 for its lane (R254). -/
def Billet.loopWrite (b : Billet) (what old reg data : Nat) : CciTx :=
  let rb := cpGet b.ws Rg.lnAeRb
  { tag := 0, lane := b.lane, trig := 1, dataBytes := 2, regBytes := if rb = 3 then 2 else rb, read := false,
    dev := cpGet b.ws Rg.lnAeDev, reg := reg, data := data, loop := some (b.lane, what, old) }

/-- The exposure the loop moves to (R254). -/
def nextExposure (ws : Kv Nat) (e m : Nat) : Nat :=
  let t := cpGet ws Rg.lnAeTarget
  let e1 := if m = 0 then 2 * e else e * t / m
  let e2 := clamp (e / 2) (2 * e) e1
  let e3 := clamp (cpGet ws Rg.lnAeMin) (cpGet ws Rg.lnAeMax) e2
  let q := max 1 (cpGet ws Rg.lnAeQuant)
  max q (e3 - e3 % q)

/-- The exposure loop acts on a post (R254, R273). -/
def State.exposureLoop (s : State) (b : Billet) : State :=
  let n := b.lane
  let since := (s.lane n).aeSince
  let wait := s.modLane n (fun l => { l with aeSince := min 15 (since + 1) })
  if cpGet b.ws Rg.lnAeEn = 0 then s
  else if since < cpGet b.ws Rg.lnAeSkip then wait
  else
    let m := b.meteredMean
    let t := cpGet b.ws Rg.lnAeTarget
    if absDiff m t ≤ t * cpGet b.ws Rg.lnAeDeadband / 256 then wait
    else
      let e := s.rd Rg.lnAeExp n
      let e1 := nextExposure b.ws e m
      if e1 = e then wait
      else
        let s1 := (s.modLane n (fun l => { l with aeSince := 0 })).wr Rg.lnAeExp e1 n
        s1.cciPushLoop (cpGet b.ws Rg.lnAeCci) (b.loopWrite 0 e (cpGet b.ws Rg.lnAeReg) e1)

/-- A white-balance code (R255). -/
def wbCode (unity g x : Nat) : Nat :=
  clamp 1 0xFFFF (if x = 0 then (Config.wbCorner (unity * g)).toNat else (unity * g + x / 2) / x)

/-- One gain of the white-balance loop: it writes a code that moved by more than WB_UNITY / 64 (R255). -/
def State.wbGain (s : State) (b : Billet) (what colour : Nat) (last reg : Fld) : State :=
  let n := b.lane
  let unity := cpGet b.ws Rg.lnWbUnity
  let code := wbCode unity (b.colourMean 1) (b.colourMean colour)
  let old := s.rd last n
  if unity < 64 * absDiff code old then
    (s.wr last code n).cciPushLoop (cpGet b.ws Rg.lnAeCci) (b.loopWrite what old (cpGet b.ws reg) code)
  else s

/-- The white-balance loop acts on a post (R255). -/
def State.whiteBalance (s : State) (b : Billet) : State :=
  if cpGet b.ws Rg.lnWbEn = 0 || isYuv b.bind || decide (4 ≤ cpGet b.bind Rg.lnCfa) then s
  else (s.wbGain b 1 0 Rg.lnWbLastR Rg.lnWbRegR).wbGain b 2 2 Rg.lnWbLastB Rg.lnWbRegB

/-! ### Posting -/

/-- A function can accept writes: its link is up and its domain serves. -/
def State.fnAccepts (s : State) (_fn : Nat) : Bool := s.on Rg.pcieLink && s.domainUp 3

/-- A write to host memory. -/
def State.hostWrite (s : State) (fn addr : Nat) (bs : List Byte) : State :=
  { s with hostWrites := { fn := fn, addr := addr, bytes := bs } :: s.hostWrites }

/-- Device DRAM address of buffer b of lane n's statistics (R249). -/
def statDram (n b : Nat) : Nat :=
  (Config.fixedWord 0x180000).toNat + 2 ^ 32 * (Config.fixedWord 0x180004).toNat + 0x8000 * n + 0x4000 * b

/-- A byte of device DRAM that lies in a statistics buffer: of a posted block, or nothing (R249, R252). -/
def State.statByte (s : State) (a : Nat) : Option Byte :=
  let d := a - statDram 0 0
  let l := s.lane (d / 0x8000)
  if statDram 0 0 ≤ a ∧ d < 64 * 0x8000 then (if d / 0x4000 % 2 = 0 then l.stat0 else l.stat1)[d % 0x4000]? else none

/-- What function fn reads at an offset of its BAR2 window, where the model holds the byte (R249, R536). -/
def State.bar2Byte (s : State) (fn off : Nat) : Option Byte :=
  s.statByte (s.rd Rg.pcieWinBase fn * 0x800000 + off % 0x800000)

/-- The mirror of a post in host memory, in the same order (R251). -/
def State.mirrorPost (s : State) (n b : Nat) (blk : List Byte) : State :=
  let a := s.rd Rg.lnMirrorAddr n
  if a = 0 then s
  else
    let fn := s.rd Rg.lnMirrorFn n
    if s.fnAccepts fn then
      let base := a + 0x4000 * b
      let w1 := s.hostWrite fn (base + 0x24) ((blk.drop 0x24).take 4)
      let w2 := (w1.hostWrite fn base (blk.take 0x24)).hostWrite fn (base + 0x28) ((blk.drop 0x28).take 0x14)
      let w3 := w2.hostWrite fn (base + 0x40) (blk.drop 0x40)
      w3.hostWrite fn (base + 0x3C) ((blk.drop 0x3C).take 4)
    else s.bumpSat Rg.lnMirrorDrop n

/-- A Billet's statistics post into the buffer other than CUR; lost ones are skipped (R248 to R252, R267, R268). -/
def State.postStats (s : State) (o : Nat) (truncated lost : Bool) : State :=
  match s.billet? o with
  | none => s
  | some b =>
    if b.lane = 0xFF || !b.stat.enabled || b.stat.posted then s
    else
      let n := b.lane
      let s0 := s.modBillet o (fun x => { x with stat := { x.stat with posted := true } })
      if b.stat.lost then (s0.bumpSat Rg.lnStatSkip n).raise 738 n 1
      else
        let post := s0.rd Rg.lnPosted n + 1
        let flags := b2n truncated + 2 * b2n lost + 4 * b2n (isYuv b.bind) + 8 * b2n b.stat.held
        let blk := statBlock b post flags
        let buf := 1 - s0.rd Rg.lnStatCur n
        let s1 := s0.modLane n (fun l => if buf = 0 then { l with stat0 := blk } else { l with stat1 := blk })
        let s2 := ((s1.wr Rg.lnPosted post n).wr Rg.lnStatCur buf n).mirrorPost n buf blk
        (s2.exposureLoop b).whiteBalance b

end Sys2Proof.Machine
end

