-- ==== Sys2Proof/Machine/Streams.lean ====
section
/-! DEFINITION. Output streams: settings, the frame's lines, slots in host memory, pass-through, and their commands (R257 to
R265, R270 to R272, R274, R275). -/
namespace Sys2Proof.Machine

/-! ### Coefficients -/

/-- Key of a coefficient. -/
def coefKey (n k phase tap : Nat) : Nat := ((n * 4 + k) * 64 + phase) * 8 + tap

/-- A scaler coefficient of stream k of lane n. -/
def State.coef (s : State) (n k phase tap : Nat) : Int := kvGet (bilinear phase tap) s.coefs (coefKey n k phase tap)

/-- A coefficient is written; while the stream's EN is 1 it is dropped with BUSY (R272). -/
def State.coefWrite (s : State) (n k phase tap v : Nat) : State :=
  if s.on Rg.osEn n k then s.wr Rg.outCoefBusy 1
  else { s with coefs := kvSet (bilinear phase tap) s.coefs (coefKey n k phase tap) (toSigned 12 v) }

/-- COEF_DATA_WRITE: word i sets taps 2i and 2i + 1 of the phase the master selected. -/
def State.coefDataWrite (s : State) (m i v : Nat) : State :=
  let n := s.rd Rg.outCoefLane m
  let k := s.rd Rg.outCoefStream m
  let ph := s.rd Rg.outCoefPhase m
  (s.coefWrite n k ph (2 * i) (bits v 0 12)).coefWrite n k ph (2 * i + 1) (bits v 16 12)

/-- COEF_DATA needs its right on Output streams and on the lane selected (R653). -/
def State.coefRight (s : State) (m : Nat) (r : Right) : Bool :=
  match s.asTested.tenantOf m with
  | some t => s.asTested.holds t 0x1C none r && s.asTested.holds t 0x10 (some (s.rd Rg.outCoefLane m)) r
  | none => false

/-- A read of COEF_DATA_i: the two taps of the phase the master selected. -/
def State.coefDataRead (s : State) (m i : Nat) : Nat :=
  let c := fun k => ofSigned 12 (s.coef (s.rd Rg.outCoefLane m) (s.rd Rg.outCoefStream m) (s.rd Rg.outCoefPhase m) k)
  c (2 * i) + 65536 * c (2 * i + 1)

def doCoefDataWrite (m : MasterId) (k : Fin 4) (v : Word) (s : State) : State :=
  s.guardWrite m.val (0x1C0014 + 4 * k.val) (s.coefRight m.val .set) (fun st => st.coefDataWrite m.val k.val v.toNat)

/-! ### Enable -/

/-- Settings that an enable accepts (R258). -/
def State.streamFit (s : State) (n k : Nat) : Bool :=
  let base := s.rd Rg.osBase n k
  let slots := s.rd Rg.osSlots n k
  let stride := s.rd Rg.osStride n k
  base != 0 && base % 4096 == 0 && decide (2 ≤ slots) && decide (slots ≤ 64) && stride % 64 == 0 &&
    decide (64 ≤ stride) && decide (stride ≤ 65472)

/-- One output stream beside its registers changes. -/
def State.modStream (s : State) (n k : Nat) (f : StreamSt → StreamSt) : State :=
  s.modLane n (fun l => { l with streams := l.streams.mapIdx (fun i x => if i = k then f x else x) })

/-- STREAM_ENABLE: a write of EN (R257, R258). -/
def State.streamEnable (s : State) (n k : Nat) (v : Bool) : State :=
  if v == s.on Rg.osEn n k then s
  else if v then
    if 16 ≤ s.rd Rg.outLive then s.raise 736 n (s.rd Rg.outLive)
    else if s.streamFit n k then
      ((s.wr Rg.osEn 1 n k).wr Rg.outLive (s.rd Rg.outLive + 1)).modStream n k (fun x => { x with start := true })
    else s
  else (s.wr Rg.osEn 0 n k).wr Rg.outLive (s.rd Rg.outLive - 1)

def doStreamEnable (m : MasterId) (n : LaneId) (k : Fin 4) (v : Bool) (s : State) : State :=
  s.withRight m.val (0x100A00 + 0x1000 * n.val + 0x40 * k.val) .set
    (fun st => st.streamEnable n.val k.val v)

/-! ### The latch -/

/-- Bytes of a pixel by format (Table Statistics.2). -/
def fmtBytes (f : Nat) : Nat := if f = 0 then 1 else if f = 1 then 2 else if f = 2 then 3 else if f ≤ 4 then 2 else 0

/-- Whether a lane may use a format (Table Statistics.2). -/
def fmtAllowed (b : Kv Nat) (f nx ny cx cy : Nat) : Bool :=
  let yuv := isYuv b
  let mono := decide (4 ≤ cpGet b Rg.lnCfa)
  if f = 0 then true
  else if f = 1 then !yuv
  else if f = 2 then !yuv && !mono
  else if f = 3 then !yuv && nx == 64 && ny == 64 && cx % 2 == 0 && cy % 2 == 0
  else if f = 4 then yuv
  else if f = 5 then decide (cpGet b Rg.lnPort < 4)
  else false

/-- The shadow fields of a stream, with scales clamped (R261) and crop sizes resolved. -/
def streamPlan (b ws : Kv Nat) (k : Nat) : StreamB :=
  let fw := cpGet b Rg.lnWidth
  let fh := cpGet b Rg.lnHeight
  let cx := cpGet ws Rg.osCx0 k
  let cy := cpGet ws Rg.osCy0 k
  let cw := if cpGet ws Rg.osCw k = 0 then fw - cx else cpGet ws Rg.osCw k
  let ch := if cpGet ws Rg.osCh k = 0 then fh - cy else cpGet ws Rg.osCh k
  let nx := clamp 64 512 (cpGet ws Rg.osNx k)
  let ny := clamp 64 512 (cpGet ws Rg.osNy k)
  { fmt := cpGet ws Rg.osFmt k, nx := nx, ny := ny, cx := cx, cy := cy, cw := cw, ch := ch,
    wOut := cw * 64 / nx, hOut := ch * 64 / ny }

/-- The shadow fields of a stream are valid for the lane (R270). -/
def streamValid (b : Kv Nat) (stride : Nat) (p : StreamB) : Bool :=
  fmtAllowed b p.fmt p.nx p.ny p.cx p.cy &&
  decide (p.cx + p.cw ≤ cpGet b Rg.lnWidth) && decide (p.cy + p.ch ≤ cpGet b Rg.lnHeight) &&
  decide (0 < p.wOut) && decide (0 < p.hOut) && decide (p.wOut * fmtBytes p.fmt ≤ stride)

/-- A frame that a stream does not make visible (R265). -/
def State.streamDrop (s : State) (n k : Nat) : State :=
  (s.bumpSat Rg.osDrop n k).modStream n k (fun x => { x with missed := min 65535 (x.missed + 1) })

/-- The latch of one stream for an accepted frame: EN takes effect, and invalid fields skip the frame (R258, R263,
R270). -/
def State.streamLatch (s : State) (n : Nat) (b ws : Kv Nat) (k : Nat) : State × StreamB :=
  if s.on Rg.osEn n k then
    let p := streamPlan b ws k
    let key := [p.fmt, cpGet ws Rg.osNx k, cpGet ws Rg.osNy k, cpGet ws Rg.osCx0 k, cpGet ws Rg.osCy0 k,
                cpGet ws Rg.osCw k, cpGet ws Rg.osCh k]
    let old := (s.lane n).streams.getD k {}
    let st := old.start || old.last != some key
    let s2 := s.modStream n k (fun x => { x with enLatched := true, last := some key, start := st })
    if streamValid b (s.rd Rg.osStride n k) p then
      (s2.modStream n k (fun x => { x with start := false }), { p with live := true, start := st })
    else ((s2.streamDrop n k).raiseCnt 64 740 (4 * n + k) n, p)
  else (s.modStream n k (fun x => { x with enLatched := false }), {})

/-- The sizes of a lane's enabled streams at a latch (OUT_W and OUT_H of Table Statistics.4). -/
def State.sizesLatch (s : State) (n : Nat) (b ws : Kv Nat) : State :=
  s.each (List.range 4) (fun st k =>
    if st.on Rg.osEn n k then
      (st.wr Rg.osOutW (streamPlan b ws k).wOut n k).wr Rg.osOutH (streamPlan b ws k).hOut n k
    else st)

/-- The latch of the four streams. -/
def State.streamsLatch (s : State) (n : Nat) (b ws : Kv Nat) : State × List StreamB :=
  (List.range 4).foldl (fun a k =>
    let r := a.1.streamLatch n b ws k
    (r.1, a.2 ++ [r.2])) (s, [])

/-! ### Output lines -/

/-- The values of one component plane, and the range of its format: `c` is 0 for the only or first component. -/
def State.component (s : State) (b : Billet) (f c x y : Nat) : Nat :=
  let cfa := cpGet b.bind Rg.lnCfa
  let bank := bankOf b.ws
  let pl := b.pipe.plane
  let lut := fun v => s.tbl bank 5 (v / 1024)
  if isYuv b.bind then (planeAt pl x y).getD 0 % 256
  else if f = 0 then lut (lumaAt cfa pl x y)
  else if f = 1 then lumaAt cfa pl x y / 16
  else if f = 2 then lut (demosaicAt cfa pl x y c)
  else (planeAt pl x y).getD 0 / 16

/-- Largest value of a format's component. -/
def fmtMax (f : Nat) : Nat := if f = 1 ∨ f = 3 then 65535 else 255

/-- A component scaled in both directions, horizontally first (R261). -/
def State.scaled (s : State) (b : Billet) (k : Nat) (p : StreamB) (src : Nat → Nat → Nat) (w h i j : Nat) : Nat :=
  let co := fun ph t => s.coef b.lane k ph t
  let vmax := fmtMax p.fmt
  scaleTap co vmax h p.ny (fun y => scaleTap co vmax w p.nx (fun x => src x y) i) j

/-- The bytes of one output pixel. In a frame that was cut, a tap below the last processed row takes that row: DESIGN CHOICE,
log entry 118 (R261, R262). -/
def State.outPixel (s : State) (b : Billet) (k : Nat) (p : StreamB) (i j : Nat) : List Byte :=
  let row := fun y => min (p.cy + y) (b.pipe.plane.length - 1)
  let at_ := fun c x y => s.component b p.fmt c (p.cx + x) (row y)
  if p.fmt = 0 then leBytes 1 (s.scaled b k p (at_ 0) p.cw p.ch i j)
  else if p.fmt = 1 then leBytes 2 (s.scaled b k p (at_ 0) p.cw p.ch i j)
  else if p.fmt = 2 then
    ((List.range 3).map (fun c => leBytes 1 (s.scaled b k p (at_ c) p.cw p.ch i j))).flatten
  else if p.fmt = 3 then leBytes 2 (s.scaled b k p (at_ 0) p.cw p.ch i j)
  else
    let chroma := fun x y => (planeAt b.pipe.plane ((2 * (p.cx / 2 + x) + i % 2 : Nat) : Int) ((row y : Nat) : Int)).getD 0 / 256 % 256
    leBytes 1 (s.scaled b k p chroma (max 1 (p.cw / 2)) p.ch (i / 2) j) ++ leBytes 1 (s.scaled b k p (at_ 0) p.cw p.ch i j)

/-- The bytes of one output line. -/
def State.outLine (s : State) (b : Billet) (k : Nat) (p : StreamB) (j : Nat) : List Byte :=
  ((List.range p.wOut).map (fun i => s.outPixel b k p i j)).flatten

/-- Last frame row that output line j needs: its last tap, and one row more where a pixel is demosaiced (R260, R262). -/
def lastRowOf (b : Kv Nat) (p : StreamB) (j : Nat) : Nat :=
  let tap := min (p.ch - 1) (scalePos p.ny j / 64 + 4)
  let more := if !isYuv b && decide (p.fmt ≤ 2) && decide (cpGet b Rg.lnCfa < 4) then 1 else 0
  min (cpGet b Rg.lnHeight - 1) (p.cy + tap + more)

/-- First frame row among the taps of output line j: from it on the line is pending (R262). -/
def firstRowOf (p : StreamB) (j : Nat) : Nat := p.cy + (scalePos p.ny j / 64 - 3)

/-- Size of a slot (R263). -/
def slotSize (stride : Nat) (p : StreamB) : Nat :=
  let z := 64 + stride * (if p.fmt = 5 then 64 else p.hOut)
  (z + 4095) / 4096 * 4096

/-- Slot PROD mod SLOTS, if it is free (R263). -/
def State.freeSlot (s : State) (n k : Nat) : Option Nat :=
  let prod := s.rd Rg.osProd n k
  let used := (prod + 2 ^ 32 - s.rd Rg.osCons n k) % 2 ^ 32
  if used < s.rd Rg.osSlots n k then some (prod % max 1 (s.rd Rg.osSlots n k)) else none

/-- Address of a slot. -/
def State.slotAddr (s : State) (n k slot : Nat) (p : StreamB) : Nat :=
  s.rd Rg.osBase n k + 4096 + slot * slotSize (s.rd Rg.osStride n k) p

/-- One stream of a Billet changes. -/
def State.modStreamB (s : State) (o k : Nat) (f : StreamB → StreamB) : State :=
  s.modBillet o (fun b => { b with stat := { b.stat with streams := b.stat.streams.mapIdx (fun i x => if i = k then f x else x) } })

/-- One stream of a Billet. -/
def State.streamB (s : State) (o k : Nat) : StreamB :=
  match s.billet? o with
  | some b => b.stat.streams.getD k {}
  | none => {}

/-- A stream gives up its frame (R265, R271). -/
def State.streamAbort (s : State) (o n k : Nat) : State :=
  if (s.streamB o k).live then (s.modStreamB o k (fun x => { x with live := false })).streamDrop n k else s

/-- The slot of a frame is chosen when its first line is due (R271). -/
def State.streamOpen (s : State) (o n k : Nat) : State :=
  let p := s.streamB o k
  if p.live && p.slot.isNone then
    if !s.fnAccepts (s.rd Rg.osFn n k) then s.streamAbort o n k
    else match s.freeSlot n k with
      | some m => s.modStreamB o k (fun x => { x with slot := some m })
      | none => (s.streamAbort o n k).raiseCnt 64 737 (4 * n + k) n
  else s

/-- The slot header (Table Statistics.3). -/
def slotHeader (b : Billet) (k stride missed seq : Nat) (p : StreamB) : List Byte :=
  let h := leBytes 4 b.frame ++ leBytes 6 b.ordinal ++ leBytes 1 b.lane ++ leBytes 1 k ++ leBytes 1 p.fmt ++
    leBytes 1 (b2n p.start + 2 * b2n p.passOverflow) ++ leBytes 2 missed ++ leBytes 8 b.stamp ++ leBytes 2 p.wOut ++
    leBytes 2 p.hOut ++ leBytes 2 stride ++ leBytes 2 b.mark ++ leBytes 1 b.pipe.mark ++ zeros 3 ++ leBytes 4 seq ++
    zeros 20
  h ++ leBytes 4 (crc32 h)

/-- A whole frame becomes visible: header, then producer index (R262). -/
def State.streamVisible (s : State) (o n k : Nat) : State :=
  match s.billet? o with
  | none => s
  | some b =>
    let p := b.stat.streams.getD k {}
    match p.slot with
    | none => s
    | some m =>
      let fn := s.rd Rg.osFn n k
      let x := (s.lane n).streams.getD k {}
      let seq := x.seq + 1
      let prod := (s.rd Rg.osProd n k + 1) % 2 ^ 32
      let s1 := s.hostWrite fn (s.slotAddr n k m p) (slotHeader b k (s.rd Rg.osStride n k) x.missed seq p)
      let s2 := (s1.wr Rg.osProd prod n k).hostWrite fn (s.rd Rg.osBase n k) (leBytes 4 prod)
      (s2.modStream n k (fun y => { y with missed := 0, seq := seq })).modStreamB o k (fun y => { y with live := false })

/-- The Billet's stream frames are not made visible any more (R267). -/
def Billet.framesHidden (b : Billet) : Bool := b.truncated || b.reset || b.dataLost

/-- Output lines that are due are written, and a whole frame becomes visible (R262). `rows` is the number of processed
rows; `cut` tells that no further row comes, so that pending lines are written. -/
def State.streamLines (s : State) (o n k rows : Nat) (cut : Bool) : Nat → State
  | 0 => s
  | fuel + 1 =>
    match s.billet? o with
    | none => s
    | some b =>
      let p := b.stat.streams.getD k {}
      if !p.live || p.fmt == 5 then s
      else if p.hOut ≤ p.lines then (if b.framesHidden then s else s.streamVisible o n k)
      else if lastRowOf b.bind p p.lines < rows || (cut && firstRowOf p p.lines < rows) then
        let s1 := s.streamOpen o n k
        let q := s1.streamB o k
        match q.live, q.slot with
        | true, some m =>
          if s1.fnAccepts (s1.rd Rg.osFn n k) then
            let stride := s1.rd Rg.osStride n k
            let s2 := s1.hostWrite (s1.rd Rg.osFn n k) (s1.slotAddr n k m q + 64 + q.lines * stride) (s1.outLine b k q q.lines)
            (s2.modStreamB o k (fun x => { x with lines := x.lines + 1 })).streamLines o n k rows cut fuel
          else s1.streamAbort o n k
        | _, _ => s1
      else s

/-- The four streams after a stripe; `cut` for the last stripe of a frame (R262). -/
def State.streamsRun (s : State) (o n rows : Nat) (cut : Bool) : State :=
  s.each (List.range 4) (fun st k => st.streamLines o n k rows cut ((st.streamB o k).hOut + 1))

/-- Bytes of a PASS slot after its header (R263, R264). -/
def State.passRoom (s : State) (o n k : Nat) : Nat := slotSize (s.rd Rg.osStride n k) (s.streamB o k) - 64

/-- A user-defined packet of an accepted frame on its pass-through streams (R264). -/
def State.passPacket (s : State) (o n dt : Nat) (bytes : List Byte) : State :=
  let pk := leBytes 1 dt ++ zeros 1 ++ leBytes 2 bytes.length ++ bytes ++ zeros ((4 - bytes.length % 4) % 4)
  s.each (List.range 4) (fun st k =>
    let p := st.streamB o k
    if p.live && p.fmt == 5 then
      if p.pass.length + pk.length ≤ st.passRoom o n k then
        st.modStreamB o k (fun x => { x with pass := x.pass ++ pk })
      else st.modStreamB o k (fun x => { x with passOverflow := true })
    else st)

/-- PASS slots become visible when capture closes (R264), but not those of a Billet that ends TRUNCATED or DATA_LOST (R267). -/
def State.passClose (s : State) (o n : Nat) : State :=
  if (s.billet? o).any Billet.framesHidden then s
  else s.each (List.range 4) (fun st k =>
    if (st.streamB o k).live && (st.streamB o k).fmt == 5 then
      let s1 := st.streamOpen o n k
      let q := s1.streamB o k
      match q.live, q.slot with
      | true, some m =>
        (s1.hostWrite (s1.rd Rg.osFn n k) (s1.slotAddr n k m q + 64) q.pass).streamVisible o n k
      | _, _ => s1
    else st)

/-- Streams of a Billet that ends give up what is not visible (R265, R267). -/
def State.streamsEnd (s : State) (o n : Nat) : State := s.each (List.range 4) (fun st k => st.streamAbort o n k)

/-- Something of a Billet's stripes or of its pass-through packets has been held: its stream frames are in progress. -/
def Billet.streaming (b : Billet) : Bool := b.pipe.done != 0 || b.stat.streams.any (fun x => !x.pass.isEmpty)

/-- The accumulation of a Billet's statistics was lost: nothing is posted, and an output frame in progress is not made visible;
it counts as dropped (R265, R268). -/
def State.statLost (s : State) (b : Billet) : State :=
  if b.lane = 0xFF then s
  else
    let s1 := s.modBillet b.ordinal (fun x => { x with stat := { x.stat with lost := x.stat.lost || x.pipe.done != 0 } })
    if b.streaming then s1.streamsEnd b.ordinal b.lane else s1

/-- Every Billet's accumulation was lost (R268). -/
def State.statsLost (s : State) : State := s.each s.billets State.statLost

end Sys2Proof.Machine
end

