-- ==== Sys2Proof/Machine/Ending.lean ====
section
/-! DEFINITION. The end of a Billet: the verdict, the statistics post, continuity, the terminal record, the reference fill
and what is given up (R77 to R80, R158, R218 to R220, R232, R248, R267, R309, R331). -/
namespace Sys2Proof.Machine

/-- The jobs of a Billet that ends are over, its delivery among them; the Registrar releases their reservations at the next
Bell (R49). -/
def State.dropJobs (s : State) (o : Nat) : State :=
  { s with jobs := s.jobs.map (fun j => if j.ordinal == o && j.prio == 0 then { j with stage := .done } else j) }

/-- The END code of a Billet (R75, R78). -/
def Billet.endCode (b : Billet) : Nat :=
  if b.dataLost then 4 else if b.truncated || b.reset then 3 else if 0 < b.symbols then 1 else 2

/-- The verdict of a Billet (R218, R219, R232). -/
def Billet.verdictNow (b : Billet) : Nat :=
  match b.pipe.ref.kind with
  | 0 => 0
  | 3 => 4
  | 4 => 3
  | _ => if b.pipe.noRef then 3
         else if b.pipe.diffCount ≤ cpGet b.ws Rg.lnRefMatch then 1 else 2

/-- The verdict is formed when the last stripe has been processed, or at the end (R218, R232). -/
def State.formVerdict (s : State) (o : Nat) : State :=
  match s.billet? o with
  | none => s
  | some b =>
    if b.pipe.formed || b.lane = 0xFF then s
    else
      let v := b.verdictNow
      let dc := if v = 3 then 0 else b.pipe.diffCount
      let sad := if v = 3 then 0 else b.pipe.sad
      let s1 := s.modBillet o (fun x => { x with pipe := { x.pipe with formed := true, verdict := v, diffCount := dc, sad := sad } })
      let s2 := (s1.wr Rg.lnVerdict v b.lane).wr Rg.lnDiffLast (sat24 dc) b.lane
      if v = 3 then (s2.bumpSat Rg.lnNoRef b.lane).raiseCnt 64 449 b.lane b.lane else s2

/-- A reference slot. -/
def State.refSlot (s : State) (k : Nat) : RefSlot := kvGet {} s.refs k

def State.modRef (s : State) (k : Nat) (f : RefSlot → RefSlot) : State := { s with refs := kvMod {} s.refs k f }

/-- A half of a slot. -/
def RefSlot.half (r : RefSlot) (h : Nat) : RefHalf := if h = 0 then r.half0 else r.half1

def RefSlot.setHalf (r : RefSlot) (h : Nat) (x : RefHalf) : RefSlot :=
  if h = 0 then { r with half0 := x } else { r with half1 := x }

/-- Every stripe of Billet b's frame is in the half that it writes (R215). -/
def State.refWhole (s : State) (b : Billet) : Bool :=
  let h := (s.refSlot b.pipe.ref.slot).half b.pipe.ref.fill
  (List.range (stripeCount b.bind)).all (fun j =>
    h.parts.any (fun e => e.1 == j && e.2.lane == b.lane && e.2.frame == b.frame))

/-- The reference fill of a Billet that ends: the halves swap, or the fill is pending again. A fill that a REF_CLEAR or a DRAM
error has cut into has not completed: DESIGN CHOICE, log entry 117 (R215, R220). -/
def State.refEnd (s : State) (b : Billet) (e : Nat) : State :=
  if b.pipe.ref.kind = 3 then
    if (e = 1 ∨ e = 2) ∧ s.refWhole b then (s.wr Rg.pipeRefHalf b.pipe.ref.fill b.pipe.ref.slot).wr Rg.pipeRefValid 1 b.pipe.ref.slot
    else s.wr Rg.lnFillPend 1 b.lane
  else s

/-- The terminal record of a Billet that ends with a code (R77, R79). -/
def Billet.terminal (b : Billet) (e : Nat) : Rec :=
  match b.heldRec with
  | some h => { h with endCode := e, flags := h.flags ||| b.endFlags b.symbols, summary := b.summary b.symbols }
  | none => b.statusRec e

/-- What the terminal record of a Billet tells of it, or would tell now; a result held to the end is not committed yet while
the Billet is open (R77, R79). -/
def Billet.endSeen (b : Billet) (ended : Bool) : EndSeen :=
  { symbols := if ended then b.symbols else b.symbols - b2n b.heldRec.isSome, stripes := b.finderNext, mark := b.mark,
    late := b.late }

/-- The lane registers that report the last ended Billet (Tables Pipeline.3 and Decode.9). -/
def State.endRegs (s : State) (b : Billet) (e : Nat) : State :=
  if b.lane = 0xFF then s
  else
    let t := ((s.wr Rg.lnPmarkLast b.pipe.mark b.lane).wr Rg.lnMissLast b.pipe.missing b.lane).wr
      Rg.lnDynCount (sat24 b.pipe.dynCount) b.lane
    let t1 := if 0 < b.pipe.missing then t.wr Rg.lnMissTag (b.pipe.tag.getD 0) b.lane else t
    let t2 := if e = 2 then t1.bumpSat Rg.lnNoRead b.lane else t1
    if b.heldRec.isSome then t2.bumpSat Rg.lnDecoded b.lane else t2

/-- A Billet ends: its terminal record is committed once for every correspondent, END is journaled, and its reservations,
frame buffer and entitlements are given up (R77 to R80). -/
def State.endBillet (s : State) (o : Nat) : State :=
  match s.billet? o with
  | none => s
  | some b0 =>
    let e := b0.endCode
    let s0 := ((s.formVerdict o).postStats o (e == 3) (e == 4)).slateExamine o
    let s1 := if b0.lane = 0xFF then s0 else s0.streamsEnd o b0.lane
    match s1.billet? o with
    | none => s1
    | some b =>
      let s2 := (s1.commitRec b none (b.terminal e)).each b.corrs (fun st c =>
        st.modOwedOf c o (fun x => { x with final := some (b.endSeen true) }))
      let s3 := { s2 with billets := s2.billets.filter (fun x => x.ordinal != o) }
      let s4 := (s3.dropJobs o).jreq (.ended o e (sat8 b.symbols) (sat16 b.finderNext))
      let s5 := s4.each b.corrs (fun st c => (st.gbSync c).stallRelease c)
      let s6 := if e = 4 then (s5.addSat Rg.jnlGbDataLost b.corrs.length).raiseCnt 64 132 0 b.lane else s5
      let s7 := (s6.refEnd b e).endRegs b e
      { s7 with lanes := kvMod {} s7.lanes b.lane (fun l =>
          if b.lane = 0xFF then l else { l with partners := (l.partners.filter (fun p =>
              p.ordinal != some o || !p.closed)).map (fun p =>
                if p.ordinal = some o then { p with ordinal := none, dropped := true, rows := [] } else p) }) }

/-- A job ends in its JOB record, with an END code, a result code and a payload (R616, R75). -/
def State.jobEnd (s : State) (b : Billet) (j : JobInfo) (e result : Nat) (payload : List Byte) : State :=
  let r : Rec := { ordinal := b.ordinal, cand := none, kind := .job, endCode := e, lane := 0xFF, frame := 0, period := b.period,
                   stamp := b.stamp, flags := flSummary + b2n b.late * flLate, summary := zeros 64,
                   area := leBytes 2 j.code ++ leBytes 2 result, payload := payload }
  let s1 := (s.commitRec b none r).modOwedOf j.corr b.ordinal (fun x => { x with final := some (b.endSeen true) })
  let s2 := { s1 with billets := s1.billets.filter (fun x => x.ordinal != b.ordinal) }
  (((s2.dropJobs b.ordinal).jreq (.ended b.ordinal e 0 0)).gbSync j.corr).stallRelease j.corr

/-- Every candidate of a Billet is resolved. -/
def Billet.candsDone (b : Billet) : Bool := b.cands.all (fun c => c.stage == .resolved)

/-- Stripes of its frame that the Billet has to put through its Finder: those captured by the close (R309). -/
def Billet.stripesOwed (b : Billet) : Nat :=
  if b.captureOpen then stripeCount b.bind else ceilDiv b.rows.length (max 1 (stripeHeight b.bind))

/-- A Billet has nothing left to do once its capture has closed, its stripes have passed the Finder and its candidates are
resolved (R78, R158, R233, R309). -/
def Billet.finished (b : Billet) : Bool :=
  b.lane != 0xFF && !b.captureOpen && b.candsDone && b.finderBusy.isNone && !b.pipe.busy &&
  (b.reset || b.dataLost || decide (b.stripesOwed ≤ b.finderNext))

/-- A Billet of a lane that continuity examines waits for the lane's earlier Billets (R331). -/
def State.mustWait (s : State) (b : Billet) : Bool :=
  s.contOn b && s.billets.any (fun x => x.lane == b.lane && decide (x.ordinal < b.ordinal))

/-- End a Billet if it has nothing left to do, and then those of its lane that waited for it. -/
def State.tryEnd (s : State) (o : Nat) : State :=
  match s.billet? o with
  | none => s
  | some b =>
    if b.finished && !s.mustWait b then
      let s1 := s.endBillet o
      s1.each ((s.billets.filter (fun x => x.lane == b.lane && decide (b.ordinal < x.ordinal))).map Billet.ordinal)
        (fun st q => match st.billet? q with
          | some x => if x.finished && !st.mustWait x then st.endBillet q else st
          | none => st)
    else s

end Sys2Proof.Machine
end

