-- ==== Sys2Proof/Machine/RefCompare.lean ====
section
/-! DEFINITION. The reference compare: what a frame compares with and writes, and the compare of one stripe (R215 to R221,
R232). -/
namespace Sys2Proof.Machine

/-- Most pixels of a decode view that a reference half holds (R215, R216). -/
def refLimit : Nat := 4194304

/-- REF_MODE as a frame takes it: 0b11 is taken as 0 (Table Pipeline.3). -/
def refMode (ws : Kv Nat) : Nat := if cpGet ws Rg.lnRefMode = 3 then 0 else cpGet ws Rg.lnRefMode

/-- Some open Billet compares with a half. -/
def State.halfCompared (s : State) (k h : Nat) : Bool :=
  s.billets.any (fun b => (b.pipe.ref.kind == 1 || b.pipe.ref.kind == 2) && b.pipe.ref.slot == k && b.pipe.ref.cmp == h)

/-- A slot is owned in PREVIOUS mode by another lane (R221, R232). -/
def State.ownedByOther (s : State) (k n : Nat) : Bool :=
  match (s.refSlot k).owner with
  | some m => m != n
  | none => false

/-- What a frame of lane n with number `frame` does with its reference (R216 to R221, R232). -/
def State.refPlan (s : State) (n frame : Nat) (b ws : Kv Nat) : RefPlan :=
  let k := cpGet ws Rg.lnRefSlot
  let v := viewRect b
  let w := v.2.2.1
  let h := v.2.2.2
  match refMode ws with
  | 0 => {}
  | 1 =>
    let a := s.rd Rg.pipeRefHalf k
    let x := (s.refSlot k).half a
    if refLimit < w * h || s.ownedByOther k n then { kind := 4, slot := k }
    else if s.on Rg.lnFillPend n && !s.halfCompared k (1 - a) then { kind := 3, slot := k, cmp := a, fill := 1 - a }
    else if s.on Rg.pipeRefValid k && x.width == w && x.height == h then { kind := 1, slot := k, cmp := a }
    else { kind := 4, slot := k }
  | _ =>
    if refLimit < w * h || s.ownedByOther k n then { kind := 4, slot := k }
    else { kind := 2, slot := k, cmp := (frame + 1) % 2, fill := frame % 2 }

/-- An accepted frame takes its plan: the pending fill is taken, and in PREVIOUS mode the lane owns the slot (R220,
R221). -/
def State.refTake (s : State) (n : Nat) (p : RefPlan) : State :=
  let s1 := s.each (List.range 32) (fun st k =>
    if (st.refSlot k).owner == some n && (k != p.slot || p.kind != 2) then st.modRef k (fun r => { r with owner := none })
    else st)
  if p.kind = 3 then s1.wr Rg.lnFillPend 0 n
  else if p.kind = 2 then s1.modRef p.slot (fun r => { r with owner := some n })
  else s1

/-- The compare of some decode-view rows: how many pixels differ by more than the tolerance, and the sum (R218). -/
def compareRows (tol : Nat) (a b : List (List Nat)) : Nat × Nat :=
  (List.zipWith (fun r q => List.zipWith absDiff r q) a b).flatten.foldl (fun acc d =>
    (acc.1 + b2n (decide (tol < d)), acc.2 + d)) (0, 0)

/-- The stripe of a half that Billet b compares its stripe j with: of the frame that filled the slot, or in PREVIOUS mode of the
lane's frame before, and of the same geometry (R220, R221, R232). -/
def State.refPart (s : State) (b : Billet) (j : Nat) : Option RefPart :=
  let p := b.pipe.ref
  let v := viewRect b.bind
  let h := (s.refSlot p.slot).half p.cmp
  let want := if p.kind = 1 then (h.lane, h.frame) else (b.lane, (b.frame + 2 ^ 32 - 1) % 2 ^ 32)
  match h.parts.find? (fun e => e.1 == j) with
  | some e =>
    if e.2.width == v.2.2.1 && e.2.height == v.2.2.2 && (e.2.lane, e.2.frame) == want &&
        (p.kind != 1 || (s.on Rg.pipeRefValid p.slot && !s.ownedByOther p.slot b.lane)) then some e.2
    else none
  | none => none

/-- Stripe j of Billet b is compared: DIFF_COUNT and SAD grow, or the Billet has no reference (R218, R232). -/
def State.refCompare (s : State) (b : Billet) (j : Nat) (rows : List (List Nat)) : State :=
  match s.refPart b j with
  | some x =>
    let c := compareRows (cpGet b.ws Rg.lnRefTol) rows x.rows
    s.modBillet b.ordinal (fun q =>
      { q with pipe := { q.pipe with diffCount := q.pipe.diffCount + c.1, sad := q.pipe.sad + c.2 } })
  | none => s.modBillet b.ordinal (fun q => { q with pipe := { q.pipe with noRef := true } })

/-- Stripe j of Billet b is written into its half; a stripe that was not captured whole leaves the map without it (R215,
R221, R232). -/
def State.refWrite (s : State) (b : Billet) (j : Nat) (rows : List (List Nat)) (whole : Bool) : State :=
  let p := b.pipe.ref
  let v := viewRect b.bind
  let part : RefPart := { rows := rows, width := v.2.2.1, height := v.2.2.2, lane := b.lane, frame := b.frame }
  let h := (s.refSlot p.slot).half p.fill
  let h1 : RefHalf := { width := part.width, height := part.height, lane := b.lane, frame := b.frame,
                        parts := if whole then kvPut h.parts j part else kvDel h.parts j }
  s.modRef p.slot (fun r => r.setHalf p.fill h1)

/-- One stripe of the decode view of Billet o is compared and written; in PREVIOUS mode the half becomes the active one when
every stripe of the frame is in it (R215, R218 to R221, R232). -/
def State.refStripe (s : State) (o j : Nat) (rows : List (List Nat)) (whole : Bool) : State :=
  match s.billet? o with
  | none => s
  | some b =>
    let p := b.pipe.ref
    let s1 := if p.kind = 1 ∨ p.kind = 2 then s.refCompare b j rows else s
    if p.kind = 2 ∨ p.kind = 3 then
      let s2 := s1.refWrite b j rows whole
      if p.kind = 2 && s2.refWhole b then (s2.wr Rg.pipeRefHalf p.fill p.slot).wr Rg.pipeRefValid 1 p.slot else s2
    else s1

end Sys2Proof.Machine
end

