-- ==== Sys2Proof/Machine/Door.lean ====
section
/-! DEFINITION. The Door: placement in the ledger, decisions, and the gap notices of a refusal (R39 to R47, R64 to R74). -/
namespace Sys2Proof.Machine

/-! ### Placement -/

/-- Cost placed in a row of a unit with the jobs a decision is about to place. -/
def State.rowWith (s : State) (js : List TJob) (u k : Nat) : Nat :=
  s.rowCost u k + ((js.filter (fun j => j.unit == u && j.row == k)).map TJob.cost).sum

/-- The earliest row from `lo`, over `n` rows, that has room in the unit (R43). -/
def State.findRow (s : State) (js : List TJob) (u cost : Nat) : Nat → Nat → Option Nat
  | 0, _ => none
  | n + 1, lo => if s.rowWith js u lo + cost ≤ s.admNow u then some lo else s.findRow js u cost n (lo + 1)

/-- Place one job within its bounds. -/
def State.place (s : State) (js : List TJob) (j : TJob) : Option TJob :=
  if j.hi < j.lo then none
  else (s.findRow js j.unit j.cost (j.hi + 1 - j.lo) j.lo).map (fun r => { j with row := r })

/-- Period that holds an instant, counted from the current Period's Bell (R42). -/
def State.periodOf (s : State) (t : Nat) : Nat :=
  s.period + (t - s.rd Rg.bellStamp) / max 1 s.periodTicks

/-- Free Finder capacity of an Anvil over rows `lo … hi` (R43). -/
def State.finderFree (s : State) (a lo hi : Nat) : Nat :=
  ((List.range (hi + 1 - lo)).map (fun i => s.admAt (a + 1) (lo + i) - s.rowCost (a + 1) (lo + i))).sum

/-- The usable Anvil with the most free Finder capacity, lowest index first (R43). -/
def State.chooseAnvil (s : State) (lo hi : Nat) (skip : Nat := 8) : Option Nat :=
  ((List.range 8).filter (fun a => s.anvilUsable a && a != skip)).foldl (fun best a =>
    match best with
    | none => some a
    | some b => if s.finderFree b lo hi < s.finderFree a lo hi then some a else best) none

/-- What a frame needs placed. -/
structure Plan where
  deadline : Nat
  anvil : Nat
  jobs : List TJob
  deriving DecidableEq, Repr

/-- Place the Pipe and Finder jobs stripe by stripe (R42, R43). -/
def State.placeStripes (s : State) (b : Kv Nat) (ord a anvil d : Nat) (fs : Nat) : Nat → Nat → List TJob → Option (List TJob)
  | 0, _, js => some js
  | n + 1, j, js =>
    let h := stripeHeight b
    let aj := s.periodOf (fs + (j + 1) * h * cpGet b Rg.lnLineMax)
    let hiP := a + bindF b s.periodTicks + bindT b
    match s.place js { ty := .pipe, unit := 0, row := 0, cost := pipeCost b, lo := max (aj + 1) (a + 1), hi := hiP,
                       ordinal := ord, stripe := j, deadline := d } with
    | none => none
    | some p =>
      match s.place (js ++ [p]) { ty := .finder, unit := anvil + 1, row := 0, cost := finderCost b j, lo := p.row + 1,
                                  hi := d - 2, ordinal := ord, stripe := j, deadline := d } with
      | none => none
      | some f => s.placeStripes b ord a anvil d fs n (j + 1) (js ++ [p, f])

/-- The plan of a frame, if every job finds a row (R43). -/
def State.plan (s : State) (b : Kv Nat) (ord nCorr fs : Nat) : Option Plan :=
  let a := s.period
  let d := a + bindF b s.periodTicks + bindT b + bindK b
  if 1023 < d - a then none
  else
    match s.chooseAnvil (a + 1) (d - 2) with
    | none => none
    | some anvil =>
      match s.placeStripes b ord a anvil d fs (stripeCount b) 0 [] with
      | none => none
      | some js =>
        let lastF := ((js.filter (fun j => j.ty == .finder)).map TJob.row).foldl max a
        match s.place js { ty := .decode, unit := 9, row := 0, cost := decodeCost b, lo := lastF + 1, hi := d - 1,
                           ordinal := ord, stripe := 0, deadline := d } with
        | none => none
        | some dj =>
          match s.place (js ++ [dj]) { ty := .delivery, unit := 19, row := 0, cost := deliveryCost nCorr (bindM b),
                                       lo := dj.row + 1, hi := d, ordinal := ord, stripe := 0, deadline := d } with
          | none => none
          | some v => some { deadline := d, anvil := anvil, jobs := js ++ [dj, v] }

/-! ### Causes -/

/-- Admission is paused by command, by a firmware update, before READY's first Bell, or after PWR_FAIL (R67, R116, R772). -/
def State.paused (s : State) : Bool :=
  s.on Rg.bellAdmitPause || s.fw.pause || s.boot.awaitBell

/-- A change of nominal Period is pending, or its withdrawal waits for the next Bell (R26). -/
def State.periodHeld (s : State) : Bool := s.bell.periodPend.isSome || s.bell.resumeNext

/-- No domain that is UP can serve the frame (R66, R678, R771). -/
def State.noPower (s : State) : Bool :=
  !s.domainUsable 0 || (!s.domainUp 1 && !s.domainUp 2)

/-- Frame buffers of a lane held by its open Billets (R179). -/
def State.openOf (s : State) (n : Nat) : List Billet := s.billets.filter (fun b => b.lane == n)

/-- Every entitled correspondent is stalled, and there is one (R64). -/
def State.backPressured (s : State) (ents : List Nat) : Bool :=
  !ents.isEmpty && ents.all (fun c => s.on Rg.corrStalled c)

/-- The reason of a refusal, or the plan of an acceptance, in the order of R46. -/
def State.judge (s : State) (n ord fs : Nat) (ents : List Nat) : Except Nat Plan :=
  let b := (s.lane n).bound
  if s.paused then .error 4
  else if s.periodHeld then .error 5
  else if s.noPower then .error 6
  else if s.rd Rg.lnState n = 3 ∧ s.on Rg.lnPolicy n then .error 7
  else if s.backPressured ents then .error 3
  else if s.on Rg.bellRationed && (s.lane n).credit < 1 then .error 2
  else if s.on Rg.lnUnfit n then .error 1
  else if 16 ≤ (s.openOf n).length then .error 1
  else if s.bnd n Rg.lnBufFrames ≤ (s.openOf n).length then .error 1
  else
    match s.plan b ord ents.length fs with
    | none => .error 1
    | some p => .ok p

/-! ### Decisions -/

/-- The next Door ordinal (R69). -/
def State.nextOrdinal (s : State) : Nat := mask48 (s.rd Rg.jnlDoorOrdinal + 1)

/-- A refusal: counters, REFUSE, a gap notice for each entitled correspondent, E0071 (R45, R47). -/
def State.refuse (s : State) (n ord frame reason : Nat) (ents : List Nat) : State :=
  let s1 := ((s.bump Rg.lnRefused n).wr Rg.lnDoorLast reason n).jreq (.refuse ord s.period n reason frame)
  let s2 := s1.each ents (fun st c =>
    st.oweGap c { ordinal := ord, lane := n, frame := frame, reason := reason, period := st.period, stamp := st.now })
  (s2.chargeGap ents.length).raiseCnt 64 71 0 n

/-- The words of a symbology set by family (R291). -/
def State.symWords (s : State) (set : Nat) : List (Nat × Nat × Nat) :=
  (List.range 16).map (fun f => (s.rd Rg.symMaxLen set f, s.rd Rg.symMinLen set f, s.rd Rg.symOpt set f))

/-- What the latch of a frame start gave (R194 to R197, R226, R291). -/
structure Latched where
  ws : Kv Nat
  sym : List (Nat × Nat × Nat)
  /-- the profile and bank of the previous working set were kept -/
  tableHeld : Bool
  /-- frame tag of exposure 0, when TAG_SRC is 0 -/
  tag : Option Nat
  deriving DecidableEq, Repr

/-- An acceptance: the Billet opens, its jobs are placed, ACCEPT is requested, and each entitled correspondent is owed its
records, or a STALL notice if it is stalled (R43, R44, R71). -/
def State.accept (s : State) (n ord frame fs : Nat) (ents : List Nat) (p : Plan) (la : Latched) : State :=
  let b := (s.lane n).bound
  let rp := s.refPlan n frame b la.ws
  let sl := (s.refTake n rp).streamsLatch n b la.ws
  let st := sl.1
  let live := ents.filter (fun c => !s.on Rg.corrStalled c)
  let held := ents.filter (fun c => s.on Rg.corrStalled c)
  let bil : Billet :=
    { ordinal := ord, lane := n, period := s.period, span := bindF b s.periodTicks, tail := bindT b, kdec := bindK b,
      deadline := p.deadline, maxSym := bindM b, tMax := cpGet b Rg.lnLineMax, anvil := p.anvil, frame := frame,
      stamp := fs, bind := b, ws := la.ws, symset := la.sym, corrs := live, stalled := !held.isEmpty,
      pipe := { mark := 4 * b2n la.tableHeld, tag := la.tag, ref := rp },
      stat := { statOpen b la.ws with streams := sl.2 } }
  let s1 := { st with billets := st.billets ++ [bil], jobs := st.jobs ++ p.jobs }
  let s2 := ((s1.bump Rg.lnAccepted n).wr Rg.lnDoorLast 0 n).wr Rg.lnAnvil p.anvil n
  let s3 := s2.jreq (.accept (!held.isEmpty) ord s.period n p.anvil (p.deadline - s.period) frame)
  let s4 := s3.each live (fun st c =>
    st.owe c { ordinal := ord, lane := n, frame := frame, reason := 0, period := st.period, stamp := fs,
               sym := (st.corr c).symMask })
  let s5 := s4.each held (fun st c =>
    st.oweGap c { ordinal := ord, lane := n, frame := frame, reason := 3, period := st.period, stamp := fs })
  if s.on Rg.bellRationed then s5.modLane n (fun l => { l with credit := l.credit - 1 }) else s5

/-- Show a lane's credit in units of 1/256 frame (Table Bell.12). -/
def State.showCredit (s : State) (n : Nat) : State :=
  s.wr Rg.lnCredit ((s.lane n).credit * 256).floor.toNat n

/-- The Door decides on a frame of lane n (R39 to R47, R64, R69 to R74, R152). The answer tells the ordinal of an accepted
Billet. -/
def State.doorDecide (s : State) (n fs : Nat) (la : Latched) : State × Option Nat :=
  let ents := s.entitled n
  let s1 := s.each ents (fun st c => st.stallTest (bindM (st.lane n).bound) c)
  let ord := s1.nextOrdinal
  let frame := if (s1.lane n).decided then (s1.rd Rg.lnFrameNum n + 1) % 2 ^ 32 else 0
  let verdict := s1.judge n ord fs ents
  let s2 := ((s1.wr Rg.jnlDoorOrdinal ord).wr Rg.lnFrameNum frame n).modLane n
    (fun l => { l with decided := true, lastOrdinal := ord })
  match verdict with
  | .error r =>
    let s3 := if r = 1 ∧ 16 ≤ (s1.openOf n).length then s2.raise 136 n 0 else s2
    let s4 := if r = 1 ∧ s1.bnd n Rg.lnBufFrames ≤ (s1.openOf n).length then s3.bumpSat Rg.lnNobuf n else s3
    (s4.refuse n ord frame r ents, none)
  | .ok p => ((s2.accept n ord frame fs ents p la).showCredit n, some ord)

/-! ### Thotor jobs (R68, R74) -/

/-- What became of a job. -/
inductive JobAnswer where
  | turnedAway            -- the session's fifth open Billet: BUSY, no decision (R74)
  | refused (reason : Nat)
  | accepted (ordinal : Nat)
  deriving DecidableEq, Repr

/-- A job comes to the Door: a delivery job of one correspondent in a row that its work and the delivery allow; the work
runs on the Registrar for `work` Periods (R68, R74). A refused job leaves E0071 and its counters alone, since R47 counts them
by lane: DESIGN CHOICE, log entry 113. -/
def State.doorJob (s : State) (session c code work : Nat) (args : List Nat) : State × JobAnswer :=
  if 4 ≤ (s.billets.filter (fun b => match b.job with
      | some j => j.session == session
      | none => false)).length then (s, .turnedAway)
  else
    let s1 := s.stallTest 1 c
    let ord := s1.nextOrdinal
    let d := s1.period + work + 2
    let cost := deliveryCost 1 1
    let spot := s1.place [] { ty := .delivery, unit := 19, row := 0, cost := cost, lo := s1.period + work + 1, hi := d,
                              ordinal := ord, stripe := 0, deadline := d }
    let reason := if s1.paused then 4 else if s1.periodHeld then 5 else if s1.on Rg.corrStalled c then 3
      else if spot.isNone then 1 else 0
    let s2 := (s1.wr Rg.jnlDoorOrdinal ord).jreq
      (.job (reason != 0) ord s1.period session reason (if reason = 0 then d - s1.period else 0) c code)
    if reason = 0 then
      let bil : Billet :=
        { ordinal := ord, lane := 0xFF, job := some { session := session, corr := c, code := code, args := args, work := work },
          period := s1.period, span := 0, tail := 0, kdec := 0, deadline := d, maxSym := 1, tMax := 0, anvil := 0, frame := 0,
          stamp := s1.now, corrs := [c], captureOpen := false }
      let s3 := { s2 with billets := s2.billets ++ [bil], jobs := s2.jobs ++ spot.toList }
      (s3.owe c { ordinal := ord, lane := 0xFF, frame := 0, reason := 0, period := s1.period, stamp := s1.now,
                     jobCode := code }, .accepted ord)
    else
      ((s2.chargeGap 1).oweGap c
        { ordinal := ord, lane := 0xFF, frame := 0, reason := reason, period := s1.period, stamp := s1.now, jobCode := code },
       .refused reason)

end Sys2Proof.Machine
end

