-- ==== Sys2Proof/Machine/Capture.lean ====
section
/-! DEFINITION. Capture ports, lane bindings, captures and their marks, lane states and camera control (chapter 3). -/
namespace Sys2Proof.Machine

/-! ### Mark bits (Table Capture.4) -/

def mkCrc : Nat := 2 ^ 0
def mkEccFixed : Nat := 2 ^ 1
def mkHdrLost : Nat := 2 ^ 2
def mkShortLine : Nat := 2 ^ 3
def mkLongLine : Nat := 2 ^ 4
def mkShortFrame : Nat := 2 ^ 5
def mkLongFrame : Nat := 2 ^ 6
def mkNoFrameEnd : Nat := 2 ^ 7
def mkOverflow : Nat := 2 ^ 8
def mkTrailer : Nat := 2 ^ 9
def mkLineSkip : Nat := 2 ^ 10
def mkFnJump : Nat := 2 ^ 11
def mkLinkLost : Nat := 2 ^ 12
def mkLate : Nat := 2 ^ 13
def mkLaneReset : Nat := 2 ^ 14
def mkDtMismatch : Nat := 2 ^ 15

/-! ### Lanes and ports -/

/-- CSI ports have the indices 0 to 3, parallel ports 4 and 5 (R126). -/
def isCsi (p : Nat) : Bool := p < 4

/-- A lane is bound when it is not OFF. -/
def State.isBound (s : State) (n : Nat) : Bool := s.rd Rg.lnState n != 0

/-- RUN or PROBATION (Table Capture.5). -/
def State.isRunning (s : State) (n : Nat) : Bool := s.rd Rg.lnState n == 2 || s.rd Rg.lnState n == 3

/-- Virtual channel of an exposure in a binding. -/
def bindVc (b : Kv Nat) (e : Nat) : Nat :=
  if e = 0 then cpGet b Rg.lnVc0 else if e = 1 then cpGet b Rg.lnVc1 else cpGet b Rg.lnVc2

/-- The virtual channels a binding holds. -/
def bindVcs (b : Kv Nat) : List Nat := (List.range (cpGet b Rg.lnExposures + 1)).map (bindVc b)

/-- The exposure with which a bound lane takes a channel of a port: a virtual channel, or a parallel sub-window (R146). -/
def State.exposureOn (s : State) (n p chan : Nat) : Option Nat :=
  let b := (s.lane n).bound
  if !s.isBound n || cpGet b Rg.lnPort != p then none
  else if isCsi p then (List.range (cpGet b Rg.lnExposures + 1)).find? (fun e => bindVc b e == chan)
  else if cpGet b Rg.lnSubwin = chan then some 0 else none

/-- A port takes what arrives on its pins: it is enabled, PIPE is served, and its pads are not held (Table Power.8). -/
def State.portLive (s : State) (p : Nat) : Bool :=
  s.on Rg.portEn p && s.domainServes 0 && !s.padHeld 0 && s.powerFail == .off

/-- Lanes bound to a port. -/
def State.lanesOf (s : State) (p : Nat) : List Nat :=
  (List.range 64).filter (fun n => s.isBound n && s.bnd n Rg.lnPort == p)

/-- Lanes that hold a channel of a port, with the exposure. -/
def State.holders (s : State) (p chan : Nat) : List (Nat × Nat) :=
  (List.range 64).filterMap (fun n => (s.exposureOn n p chan).map (fun e => (n, e)))

/-! ### Ports -/

/-- Rate of a port in Mbit/s (R127). -/
def State.portRate (s : State) (p : Nat) : Nat :=
  if isCsi p then (s.rd Rg.csiDlanes p + 1) * s.rd Rg.csiRate p
  else s.rd Rg.parPclkMhz (p - 4) * (s.rd Rg.parWidth (p - 4) + 1)

/-- Sum of the rates of all enabled ports. -/
def State.budget (s : State) : Nat :=
  (((List.range 6).filter (fun p => s.on Rg.portEn p)).map s.portRate).sum

def State.syncBudget (s : State) : State := s.wr Rg.capBudget s.budget

def portAddr (p : Nat) : Nat := 0x80000 + 0x1000 * p

/-- PORT_ENABLE: EN = 1 is accepted within 40,000 Mbit/s, else it is ignored and E0364 is raised (R127). -/
def State.portEnableNow (s : State) (p : Nat) : State :=
  if s.on Rg.portEn p then s
  else if s.budget + s.portRate p ≤ 40000 then
    let s1 := (s.wr Rg.portEn 1 p).syncBudget
    { s1 with ports := kvMod {} s1.ports p (fun x => { x with lastSeen := s1.now }) }
  else s.raise 364 p 0

def doPortEnable (m : MasterId) (p : PortId) (s : State) : State :=
  s.withRight m.val (portAddr p.val) .set (fun st => st.portEnableNow p.val)

/-! ### Marks and capture close -/

/-- A lane moves to a state; E0256 + n tells that it enters or leaves PROBATION (R165, Table Capture.5). -/
def State.laneTo (s : State) (n st : Nat) : State :=
  let old := s.rd Rg.lnState n
  let s1 := s.wr Rg.lnState st n
  if (old = 3 ∨ st = 3) ∧ old ≠ st then s1.raise (256 + n) n st else s1

/-- Set bits in the mark of a lane's open capture (R159). -/
def State.markLane (s : State) (n bits : Nat) : State :=
  s.modLane n (fun l => { l with capture := l.capture.map (fun c => { c with mark := c.mark ||| bits }) })

/-- A lane that has been told to stop stops when its open capture closes (R168). -/
def State.stopIfPending (s : State) (n : Nat) : State :=
  if (s.lane n).stopPending then
    (s.laneTo n 1).modLane n (fun l => { l with stopPending := false, probClean := 0 })
  else s

/-- PROBATION is entered or left at the close of a frame (R165). -/
def State.probation (s : State) (n : Nat) (cap : Capture) : State :=
  let bad := cap.mark &&& cap.errClass != 0
  if s.rd Rg.lnState n = 3 then
    if bad then s.modLane n (fun l => { l with probClean := 0 })
    else
      let k := (s.lane n).probClean + 1
      if max 1 cap.probClean ≤ k then
        (s.laneTo n 2).modLane n (fun l => { l with probClean := 0 })
      else s.modLane n (fun l => { l with probClean := k })
  else if s.rd Rg.lnState n = 2 && cap.policy && bad then
    (s.laneTo n 3).modLane n (fun l => { l with probClean := 0 })
  else s

/-- Capture of a lane's frame closes with further mark bits: rows missing give SHORT_FRAME (R159), the mark is final, E0192 + n
is raised for an error-class mark at most once per 64 Periods, and a Billet with rows missing ends TRUNCATED (R155, R158,
R163). `deaf` tells that lines after the close are counted in DISCARDED (R156). What a partner frame shows after this close
sets no bit: DESIGN CHOICE, log entry 116. -/
def State.closeCapture (s : State) (n bits : Nat) (deaf : Bool := false) : State :=
  match (s.lane n).capture with
  | none => s
  | some c0 =>
    let missing := decide (c0.rows < s.bnd n Rg.lnHeight)
    let c := { c0 with mark := c0.mark ||| bits ||| (if missing then mkShortFrame else 0) }
    let s0 := if missing then s.bumpSat Rg.lnShortFrame n else s
    let s1 := s0.modLane n (fun l => { l with capture := none, deaf := deaf })
    let s2 := s1.wr Rg.lnMarkLast c.mark n
    let s3 := match c.ordinal with
      | none => s2
      | some o => s2.modBillet o (fun b => { b with captureOpen := false, mark := c.mark,
                                                    truncated := b.truncated || missing || deaf })
    let s4 := if c.mark &&& c.errClass != 0 then s3.raiseLim 64 (192 + n) n n c.mark else s3
    let s5 := (s4.probation n c).stopIfPending n
    match c.ordinal with
    | none => s5
    | some o => (s5.passClose o n).tryEnd o

/-- The Billet of a lane's open capture ends TRUNCATED. -/
def State.truncateOpen (s : State) (n : Nat) : State :=
  match (s.lane n).capture with
  | some { ordinal := some o, .. } => s.modBillet o (fun b => { b with truncated := true })
  | _ => s

/-- Capture of an accepted frame closes at the first line or packet that sets a bit of ERR_CLASS when ON_ERROR is 1
(R166). -/
def State.truncateOnError (s : State) (n : Nat) : State :=
  match (s.lane n).capture with
  | none => s
  | some c =>
    if c.onError && c.ordinal.isSome && c.mark &&& c.errClass != 0 then
      (s.truncateOpen n).closeCapture n 0 true
    else s

/-- A mark that a packet or a line sets, with its counter. -/
def State.markCount (s : State) (n bits : Nat) (f : Fld) : State :=
  ((s.bumpSat f n).markLane n bits).truncateOnError n

/-! ### Captures of merge partners (R155, R157, R229 to R231) -/

/-- An exposure is missing from stripe j on: PARTIAL_MERGE, the mask, the count and E0448 once a frame (R230). -/
def State.miss (s : State) (o e j : Nat) : State :=
  match s.billet? o with
  | none => s
  | some b =>
    if b.pipe.missFrom.any (fun m => m.1 == e) then s
    else
      let first := b.pipe.missing == 0
      let s1 := s.modBillet o (fun x =>
        { x with pipe := { x.pipe with missFrom := x.pipe.missFrom ++ [(e, j)], missing := x.pipe.missing ||| 2 ^ e,
                                       mark := x.pipe.mark ||| 1 } })
      let s2 := s1.modLane b.lane (fun l => { l with partners := l.partners.map (fun p =>
        if p.exposure == e && p.ordinal == some o then { p with late := true } else p) })
      if first then (s2.bumpSat Rg.lnPartial b.lane).raiseCnt 64 448 b.lane b.lane else s2

/-- The frame of exposure e of lane n whose capture is open. -/
def State.partnerIn (s : State) (n e : Nat) : Option PartnerFrame :=
  (s.lane n).partners.find? (fun p => p.exposure == e && !p.closed)

/-- Change the frame of exposure e of lane n whose capture is open. -/
def State.modPartner (s : State) (n e : Nat) (f : PartnerFrame → PartnerFrame) : State :=
  s.modLane n (fun l => { l with partners := l.partners.map (fun p => if p.exposure == e && !p.closed then f p else p) })

/-- Bits of a partner's capture mark are ORed into the mark of the frame it partners, while that one's capture is open (R157,
R159, R231). -/
def State.shareMark (s : State) (n : Nat) (fr : Option Nat) (bits : Nat) : State :=
  match (s.lane n).capture with
  | some c => if fr = some c.frame then (s.markLane n bits).truncateOnError n else s
  | none => s

/-- Bits of the mark of a partner's open capture. -/
def State.partnerMark (s : State) (n e bits : Nat) : State :=
  let fr := (s.partnerIn n e).bind PartnerFrame.frame
  (s.modPartner n e (fun p => { p with mark := p.mark ||| bits })).shareMark n fr bits

/-- The first stripe of which stored rows lack a line: there is none when every row is stored. -/
def partnerLack (b : Kv Nat) (rows : Nat) : Nat :=
  if cpGet b Rg.lnHeight ≤ rows then stripeCount b else rows / max 1 (stripeHeight b)

/-- The open capture of a partner frame closes with further mark bits: rows missing count and mark SHORT_FRAME, and make the
exposure missing from the first stripe that lacks one (R155, R229). -/
def State.partnerEnd (s : State) (n e bits : Nat) : State :=
  match s.partnerIn n e with
  | none => s
  | some p =>
    let short := decide (p.count < s.bnd n Rg.lnHeight)
    let mk := bits ||| (if short then mkShortFrame else 0)
    let s0 := if short then s.bumpSat Rg.lnShortFrame n else s
    let s1 := if bits &&& mkNoFrameEnd != 0 then s0.bumpSat Rg.lnNoFe n else s0
    let s2 := s1.modPartner n e (fun q => { q with closed := true, mark := q.mark ||| mk })
    let s3 := s2.modLane n (fun l => { l with partners := l.partners.filter (fun q => !(q.closed && q.dropped)) })
    let s4 := match p.ordinal with
      | some o => if p.rows.length < s.bnd n Rg.lnHeight then s3.miss o e (partnerLack (s.lane n).bound p.rows.length) else s3
      | none => s3
    s4.shareMark n p.frame mk

/-- Every open capture of a partner of lane n closes. -/
def State.partnersEnd (s : State) (n bits : Nat) : State := (s.partnerEnd n 1 bits).partnerEnd n 2 bits

/-! ### Links -/

/-- Every row of a lane's open capture is filled. -/
def State.captureFull (s : State) (n : Nat) : Bool :=
  match (s.lane n).capture with
  | some c => decide (s.bnd n Rg.lnHeight ≤ c.rows)
  | none => true

/-- A port's link goes down, or the port is disabled: every open capture closes with LINK_LOST, its Billet ends TRUNCATED,
and running lanes go to LINK_DOWN (R129, R177). At a warm reset a Billet whose last line had arrived ends normally (R108).
The deskew is lost with the link, and a port that is disabled while its link is up also counts and raises a link-down:
DESIGN CHOICE, log entry 116. -/
def State.loseLink (s : State) (p : Nat) (warm : Bool := false) : State :=
  let s1 := s.each (s.lanesOf p) (fun st n =>
    let t := ((if warm && st.captureFull n then st else st.truncateOpen n).closeCapture n mkLinkLost).partnersEnd n mkLinkLost
    if t.isRunning n then
      (t.laneTo n 4).modLane n (fun l => { l with probClean := 0, deaf := false })
    else t)
  let up := s1.on Rg.portLink p
  let s2 := (s1.wr Rg.portLink 0 p).wr Rg.portDeskewed 0 p
  if up then (s2.bumpSat Rg.portLinkDowns p).raise (320 + p) p 0 else s2

/-- A valid header or bus frame start: the link comes up, unless a fast CSI port still needs its deskew (R134, R141). -/
def State.seeLink (s : State) (p : Nat) : State :=
  let s1 := ({ s with ports := kvMod {} s.ports p (fun x => { x with lastSeen := s.now }) }).wr Rg.portLp 0 p
  if s1.on Rg.portLink p || decide (s.now < (kvGet {} s.ports p).downUntil) then s1
  else if isCsi p && 1500 < s1.rd Rg.csiRate p && !s1.on Rg.portDeskewed p then s1
  else
    let s2 := (s1.wr Rg.portLink 1 p).raise (328 + p) p 0
    s2.each (s2.lanesOf p) (fun st n => if st.rd Rg.lnState n = 4 then st.wr Rg.lnState 2 n else st)

/-- PORT_DISABLE: EN = 0 closes every open capture on the port (R129). -/
def State.portDisableNow (s : State) (p : Nat) : State :=
  if s.on Rg.portEn p then ((s.loseLink p).wr Rg.portEn 0 p).syncBudget else s

def doPortDisable (m : MasterId) (p : PortId) (s : State) : State :=
  s.withRight m.val (portAddr p.val) .set (fun st => st.portDisableNow p.val)

/-- LINK_TIMEOUT in ticks. -/
def State.linkTimeout (s : State) (p : Nat) : Nat :=
  msTicks (max 1 (if isCsi p then s.rd Rg.csiLinkTimeout p else s.rd Rg.parLinkTimeout (p - 4)))

/-- LINK_TIMEOUT: no valid header or bus frame start for LINK_TIMEOUT ms (R134, R141). -/
def State.linkTimedOut (s : State) (p : Nat) : State :=
  if s.on Rg.portLink p then (s.reach ((kvGet {} s.ports p).lastSeen + s.linkTimeout p)).loseLink p else s

def doLinkTimeout (p : PortId) (s : State) : State :=
  s.linkTimedOut p.val

/-- PCLK_LOST: no PCLK edge for 1 ms (R141). -/
def State.pclkLost (s : State) (p : Nat) : State :=
  if !isCsi p && s.on Rg.portLink p then s.loseLink p else s

def doPclkLost (p : PortId) (s : State) : State :=
  s.pclkLost p.val

/-- DESKEW: a deskew sequence completes, or fails and takes the link down (R134). -/
def State.deskew (s : State) (p : Nat) (ok : Bool) : State :=
  if isCsi p && s.portLive p then (if ok then s.wr Rg.portDeskewed 1 p else s.loseLink p) else s

def doDeskew (p : PortId) (ok : Bool) (s : State) : State :=
  s.deskew p.val ok

/-! ### Packets -/

/-- The header of a packet on a channel: the link is seen, a corrected header counts for its lanes (R131, R134), and a
packet on a channel that no running lane holds counts in UNBOUND (R133). -/
def State.header (s : State) (p chan : Nat) (ecc : Bool) : State :=
  let s1 := s.seeLink p
  let run := (s1.holders p chan).filter (fun h => s1.isRunning h.1)
  let s2 := if ecc then s1.each (s1.holders p chan) (fun st h => st.markCount h.1 mkEccFixed Rg.lnEccFixed) else s1
  if run.isEmpty then s2.bumpSat Rg.portUnbound p else s2

/-- The running lanes that take a packet on a channel. -/
def State.takers (s : State) (p chan : Nat) : List (Nat × Nat) :=
  (s.holders p chan).filter (fun h => s.isRunning h.1)

/-- A payload CRC mismatch of a long packet on a bound virtual channel that holds no line: it counts for every lane bound to the
channel (R132), and sets the CRC bit of an open capture as a line's does: DESIGN CHOICE, log entry 116. -/
def State.payload (s : State) (p chan : Nat) (crcOk : Bool) : State :=
  if crcOk then s else s.each (s.holders p chan) (fun st h => st.markCount h.1 mkCrc Rg.lnCrcErr)

/-- SHORT_PACKET: a line-start, line-end or generic short packet is checked and ignored (R133). -/
def doShortPacket (p : PortId) (vc : Fin 16) (ecc : Bool) (s : State) : State :=
  if s.portLive p.val then s.header p.val vc.val ecc else s

/-- UNBOUND_PACKET: a packet on a channel that no running lane holds (R133). -/
def doUnboundPacket (p : PortId) (vc : Fin 16) (s : State) : State :=
  if s.portLive p.val && (s.takers p.val vc.val).isEmpty then s.header p.val vc.val false else s

/-- DT_MISMATCH: a long packet of an unexpected data type is discarded, counted and marked (R133). -/
def State.dtMismatch (s : State) (p chan : Nat) (ecc crcOk : Bool) : State :=
  let s1 := (s.header p chan ecc).payload p chan crcOk
  s1.each (s1.takers p chan) (fun st h => st.markCount h.1 mkDtMismatch Rg.lnDtMismatch)

def doDtMismatch (p : PortId) (vc : Fin 16) (ecc crcOk : Bool) (s : State) : State :=
  if s.portLive p.val then s.dtMismatch p.val vc.val ecc crcOk else s

/-- HEADER_UNCORRECTABLE: the header and its packet are discarded; every open capture on the port gets HDR_LOST (R131,
R176). -/
def State.headerLost (s : State) (p : Nat) : State :=
  let s1 := (s.bumpSat Rg.portHdrUncorr p).raiseCnt 64 (336 + p) p p
  s1.each ((s1.lanesOf p).filter (fun n => (s1.lane n).capture.isSome)) (fun st n =>
    st.markCount n mkHdrLost Rg.lnHdrLost)

def doHeaderUncorrectable (p : PortId) (s : State) : State :=
  if s.portLive p.val && isCsi p.val then s.headerLost p.val else s

/-- EMBEDDED_DATA: at most 4 packets of at most 4,096 bytes a frame are kept (R133). A longer packet is cut: DESIGN CHOICE, log
entry 116. -/
def State.embedded (s : State) (p chan : Nat) (ecc crcOk : Bool) (bytes : List Byte) : State :=
  let s1 := (s.header p chan ecc).payload p chan crcOk
  let keep (l : List (List Byte)) := if l.length < 4 then l ++ [bytes.take 4096] else l
  s1.each (s1.takers p chan) (fun st h =>
    if h.2 = 0 then
      st.modLane h.1 (fun l => { l with capture := l.capture.map (fun c => { c with embedded := keep c.embedded }) })
    else
      st.modLane h.1 (fun l => { l with partners := l.partners.map (fun f =>
        if f.exposure == h.2 && !f.closed then { f with embedded := keep f.embedded } else f) }))

def doEmbeddedData (p : PortId) (vc : Fin 16) (ecc crcOk : Bool) (bytes : List Byte) (s : State) : State :=
  if s.portLive p.val && isCsi p.val then s.embedded p.val vc.val ecc crcOk bytes else s

/-! ### Parallel buses -/

/-- The lanes of a parallel port whose sub-window includes a bus line. -/
def State.lanesAtLine (s : State) (p line : Nat) : List Nat :=
  (s.lanesOf p).filter (fun n => s.bnd n Rg.lnY0 ≤ line && decide (line < s.bnd n Rg.lnY0 + s.bnd n Rg.lnHeight))

/-- A bus frame starts: lines are numbered from 0 and the link is seen (R137, R141). -/
def State.busFrameStart (s : State) (p : Nat) : State :=
  let s1 := { s with ports := kvMod {} s.ports p (fun x => { x with busLine := 0, vLine := 0, blank := false, lastTrailer := none, started := [] }) }
  s1.seeLink p

/-- BUS_FRAME_START: the active edge of VSYNC in separate-sync mode (R137). -/
def doBusFrameStart (p : PortId) (s : State) : State :=
  if !isCsi p.val && s.portLive p.val && s.rd Rg.parSync (p.val - 4) == 0 then s.busFrameStart p.val
                 else s

/-- The four protection bits of a status byte with F, V and H (Table Capture.3). -/
def xyByte (f v h : Bool) : Nat :=
  128 + 64 * b2n f + 32 * b2n v + 16 * b2n h + 8 * b2n (xor v h) + 4 * b2n (xor f h) + 2 * b2n (xor f v) +
    b2n (xor (xor f v) h)

/-- The eight valid status bytes. -/
def xyCodes : List (Nat × (Bool × Bool × Bool)) :=
  (List.range 8).map (fun i =>
    let f := i.testBit 2
    let v := i.testBit 1
    let h := i.testBit 0
    (xyByte f v h, (f, v, h)))

/-- Number of bits in which two bytes differ. -/
def hamming8 (a b : Nat) : Nat := ((List.range 8).filter (fun i => a.testBit i != b.testBit i)).length

/-- A status byte decoded: its F, V, H and whether a bit was corrected; none with more errors (R138, R139). -/
def xyDecode (xy : Nat) : Option ((Bool × Bool × Bool) × Bool) :=
  match xyCodes.find? (fun c => c.1 == xy) with
  | some c => some (c.2, false)
  | none => (xyCodes.find? (fun c => hamming8 c.1 xy == 1)).map (fun c => (c.2, true))

/-- TIMING_CODE: an embedded-sync status byte is decoded, corrected, or ignored with LINE_SKIP for every open capture on
the port; the first code with H = 0 and V = 0 after one with V = 1 starts a bus frame, and with FIELD_MODE = 1 each change
of F does. A line's active words follow a code with H = 0 outside vertical blanking (R138 to R140). -/
def State.timingCode (s : State) (p xy : Nat) : State :=
  match xyDecode xy with
  | none => s.each ((s.lanesOf p).filter (fun n => (s.lane n).capture.isSome)) (fun st n =>
      (st.markLane n mkLineSkip).truncateOnError n)
  | some ((f, v, h), fixed) =>
    let s1 := if fixed then s.bumpSat Rg.portXyFixed p else s
    let x := kvGet {} s1.ports p
    let frame := !h && !v && x.blank
    let fieldStart := s1.rd Rg.parFieldMode (p - 4) == 1 && x.lastF.isSome && x.lastF != some (b2n f)
    let s2 := if frame || fieldStart then s1.busFrameStart p else s1
    { s2 with ports := kvMod {} s2.ports p (fun y =>
        { y with lastF := some (b2n f), blank := v || y.blank, active := !h && !v }) }

def doTimingCode (p : PortId) (xy : Fin 256) (s : State) : State :=
  if !isCsi p.val && s.portLive p.val && s.rd Rg.parSync (p.val - 4) == 1 then
    s.timingCode p.val xy.val else s

/-- The CRC of a line's words and its line number (R144). -/
def trailerCrc (words : List Nat) (t1 : Nat) : Nat :=
  crc16 ((words.map (fun w => [w / 256 % 256, w % 256])).flatten ++ [t1])

/-- TRAILER: the trailer check word of a line: tag, CRC and line number (R145). `words` are the line's active words, `t`
the trailer bytes T0 to T3. -/
def State.trailer (s : State) (p : Nat) (words t : List Nat) : State :=
  let x := kvGet {} s.ports p
  let line := x.busLine - 1
  let lanes := s.lanesAtLine p line
  let t0 := t.getD 0 0
  let t1 := t.getD 1 0
  let crc := t.getD 2 0 * 256 + t.getD 3 0
  if t0 != 0xC3 then s.each lanes (fun st n => st.markCount n mkTrailer Rg.lnTrailer)
  else
    let s1 := if crc != trailerCrc words t1 then s.each lanes (fun st n => st.markCount n mkTrailer Rg.lnTrailer) else s
    let skip := match x.lastTrailer with
      | some q => t1 != (q + 1) % 256
      | none => false
    let s2 := if skip then s1.each lanes (fun st n => st.markCount n mkLineSkip Rg.lnLineSkip) else s1
    { s2 with ports := kvMod {} s2.ports p (fun y => { y with lastTrailer := some t1 }) }

def doTrailer (p : PortId) (words t : List Nat) (s : State) : State :=
  if !isCsi p.val && s.portLive p.val && s.rd Rg.parTrailEn (p.val - 4) == 1 then
    s.trailer p.val words t else s

/-! ### Bindings (R146 to R148, R826) -/

/-- The binding fields of a lane. -/
def bindingFields : List Fld := catalogue.filter (fun f => f.has .binding)

/-- A copy of some fields of lane n, by the keys of lane 0; entries at their reset value are left out. -/
def State.laneCopy (s : State) (n : Nat) (fs : List Fld) : Kv Nat :=
  fs.foldl (fun m f => (List.range f.n2).foldl (fun m j => kvSet (f.reset 0 j) m (laneKey f j) (s.rd f n j)) m) []

/-- The shadow fields of a lane (R193). -/
def shadowFields : List Fld := catalogue.filter (fun f => f.has .shadow)

/-- LATCH_HOLD, the shadow fields and the symbology words of a lane as they stand. -/
def State.shadowNow (s : State) (n : Nat) : ShadowCopy :=
  let ws := s.laneCopy n shadowFields
  { tick := s.now, hold := s.rd Rg.lnLatchHold n, ws := ws, sym := s.symWords (cpGet ws Rg.lnSymSet) }

/-- What a latch of this tick takes: writes that complete on its tick come after it (R194, R291). -/
def State.shadowAt (s : State) (n : Nat) : ShadowCopy :=
  match (s.lane n).shadowOld with
  | some x => if x.tick = s.now then x else s.shadowNow n
  | none => s.shadowNow n

/-- The first write of a tick keeps what stands before it for a latch of the same tick (R194, R291). -/
def State.noteShadow (s : State) (n : Nat) : State :=
  s.modLane n (fun l => { l with shadowOld := some (s.shadowAt n) })

/-- Bytes of the capture pool a binding holds (R148). -/
def poolBytes (b : Kv Nat) : Nat :=
  cpGet b Rg.lnBufFrames * cpGet b Rg.lnWidth * cpGet b Rg.lnHeight * 2 * (cpGet b Rg.lnExposures + 1)

/-- Bits of a raw pixel data type; 0 for YUV422 8-bit; none for another type (R130, R142). -/
def dtBits (dt : Nat) : Option Nat :=
  if dt = 0x2A then some 8 else if dt = 0x2B then some 10 else if dt = 0x2C then some 12
  else if dt = 0x2D then some 14 else if dt = 0x2E then some 16 else if dt = 0x1E then some 0 else none

/-- Whether a port takes a data type (R130, R142). -/
def State.dtAllowed (s : State) (p dt : Nat) : Bool :=
  match dtBits dt with
  | none => false
  | some k => if isCsi p then true
              else
                let w := s.rd Rg.parWidth (p - 4) + 1
                if k = 0 then w == 8 || w == 16 else decide (k ≤ w)

/-- Bus words of one pixel: two for YUV422 on an 8-bit parallel bus (R142). -/
def State.wordsPerPixel (s : State) (p dt : Nat) : Nat :=
  if !isCsi p && dt = 0x1E && s.rd Rg.parWidth (p - 4) = 7 then 2 else 1

/-- The test of a bind (R147). -/
def State.bindTest (s : State) (n : Nat) (b : Kv Nat) : Bool :=
  let p := cpGet b Rg.lnPort
  let others := (List.range 64).filter (fun m => m != n && s.isBound m)
  let vcs := bindVcs b
  decide (p < 6) &&
  (if isCsi p then
     others.all (fun m => s.bnd m Rg.lnPort != p || (bindVcs (s.lane m).bound).all (fun v => !vcs.contains v)) &&
     vcs.length == vcs.eraseDups.length && decide (cpGet b Rg.lnExposures < 3)
   else
     -- a bus frame has at most as many lines as HEIGHT can name: DESIGN CHOICE, log entry 116
     decide ((cpGet b Rg.lnX0 + cpGet b Rg.lnWidth) * s.wordsPerPixel p (cpGet b Rg.lnDt) ≤ 16383) &&
     decide (cpGet b Rg.lnY0 + cpGet b Rg.lnHeight ≤ 16383) && cpGet b Rg.lnExposures == 0) &&
  s.dtAllowed p (cpGet b Rg.lnDt) &&
  decide (8 ≤ cpGet b Rg.lnWidth) && decide (cpGet b Rg.lnWidth ≤ 16383) &&
  decide (1 ≤ cpGet b Rg.lnHeight) && decide (cpGet b Rg.lnHeight ≤ 16383) &&
  decide (2 ≤ cpGet b Rg.lnBufFrames) && decide (cpGet b Rg.lnBufFrames ≤ 16) &&
  decide ((others.map (fun m => poolBytes (s.lane m).bound)).sum + poolBytes b ≤ 3 * 2 ^ 30) &&
  s.fitsLedger n b

/-- BIND_PEND and the rest follow the binding fields: an OFF lane has none in force, which is what PORT = 0b111 asks for
(R826). -/
def State.bindSync (s : State) (n : Nat) : State :=
  let c := s.laneCopy n bindingFields
  let same := if s.isBound n then c == (s.lane n).bound else cpGet c Rg.lnPort == 7
  let s1 := s.wr Rg.lnBindPend (b2n (!same)) n
  s1.wr Rg.lnSpan (if s1.isBound n then bindF (s1.lane n).bound s1.periodTicks else 0) n

/-- After a write of a binding field in OFF or STOPPED the whole set is tested: it becomes the binding in force if it
passes; PORT = 0b111 unbinds (R826). -/
def State.bindRetest (s : State) (n : Nat) : State :=
  let c := s.laneCopy n bindingFields
  let s1 :=
    if cpGet c Rg.lnPort = 7 then (s.wr Rg.lnState 0 n).modLane n (fun l => { l with bound := [] })
    else if s.bindTest n c then
      let t := (s.modLane n (fun l => { l with bound := c })).contReset n
      if t.rd Rg.lnState n = 0 then t.wr Rg.lnState 1 n else t
    else s
  s1.bindSync n

/-- The lane is OFF or STOPPED, so that its binding fields may be written (R180, R826). -/
def State.bindable (s : State) (n : Nat) : Bool := s.rd Rg.lnState n == 0 || s.rd Rg.lnState n == 1

/-- A write of a binding field: taken in OFF and STOPPED, ignored otherwise (R180, R826). -/
def State.bindingWrite (s : State) (n : Nat) (f : Fld) (v : Nat) : State :=
  if s.bindable n then (s.wr f v n).bindRetest n else s

def laneAddr (n off : Nat) : Nat := 0x100000 + 0x1000 * n + off

/-- BINDING_WRITE: a master writes the `k`-th binding field of a lane. -/
def doBindingWrite (m : MasterId) (n : LaneId) (k : Fin 32) (v : Word) (s : State) : State :=
  match bindingFields[k.val]? with
    | none => s
    | some f => s.withRight m.val (f.base + 0x1000 * n.val) .set (fun st => st.bindingWrite n.val f v.toNat)

/-! ### Lane commands (R167, R168) -/

/-- START is allowed: STOPPED, nothing pending, and the fields pass once more (R826). -/
def State.laneMayStart (s : State) (n : Nat) : Bool :=
  s.rd Rg.lnState n == 1 && s.laneCopy n bindingFields == (s.lane n).bound && s.bindTest n (s.lane n).bound

/-- START: to RUN, or to LINK_DOWN if the port's link is down (Table Capture.5). -/
def State.laneStart (s : State) (n : Nat) : State :=
  if s.laneMayStart n then
    s.wr Rg.lnState (if s.on Rg.portLink (s.bnd n Rg.lnPort) then 2 else 4) n
  else s

/-- STOP takes effect when the open capture closes (R168). -/
def State.laneStop (s : State) (n : Nat) : State :=
  if s.rd Rg.lnState n < 2 then s
  else if (s.lane n).capture.isSome then s.modLane n (fun l => { l with stopPending := true })
  else (s.laneTo n 1).modLane n (fun l =>
    { l with probClean := 0, deaf := false, stoppedAt := some (s.now, s.rd Rg.lnState n) })

/-- A frame start on the tick of a STOP comes first: the STOP then waits for its capture (R181). -/
def State.stopTie (s : State) (n : Nat) : State :=
  match (s.lane n).stoppedAt with
  | some (t, old) =>
    if t = s.now ∧ s.rd Rg.lnState n = 1 ∧ (old = 2 ∨ old = 3) then
      (s.laneTo n old).modLane n (fun l => { l with stopPending := true, stoppedAt := none })
    else s
  | none => s

/-- RESET closes any open capture with LANE_RESET and leaves the lane STOPPED (R122, R168). A frame start of the same tick comes
after it (R181): the queue gives it in this order, log entry 116. -/
def State.laneReset (s : State) (n : Nat) : State :=
  if s.rd Rg.lnState n = 0 then s
  else
    let s0 := match (s.lane n).capture with
      | some { ordinal := some o, .. } => s.modBillet o (fun b =>
          { b with truncated := true, reset := true, pipe := { b.pipe with skip := true } })
      | _ => s
    let s1 := (s0.closeCapture n mkLaneReset).contReset n
    ((s1.partnersEnd n mkLaneReset).laneTo n 1).modLane n (fun l =>
      { l with probClean := 0, stopPending := false, deaf := false,
               partners := l.partners.filter (fun p => p.ordinal.isSome) })

def doLaneStart (m : MasterId) (n : LaneId) (s : State) : State :=
  s.withRight m.val (laneAddr n.val 0x18) .run (fun st => st.laneStart n.val)

def doLaneStop (m : MasterId) (n : LaneId) (s : State) : State :=
  s.withRight m.val (laneAddr n.val 0x18) .run (fun st => st.laneStop n.val)

def doLaneReset (m : MasterId) (n : LaneId) (s : State) : State :=
  s.withRight m.val (laneAddr n.val 0x18) .run (fun st => st.laneReset n.val)

/-! ### Frame ends -/

/-- A frame-end packet on exposure 0 closes the capture (R155). -/
def State.frameEnd0 (s : State) (n : Nat) : State :=
  match (s.lane n).capture with
  | none => s.modLane n (fun l => { l with deaf := false })
  | some _ => s.closeCapture n 0

/-- A partner's capture with every row filled closes 4 × t_max after the last one. -/
def State.partnerNoEnd (s : State) (n e : Nat) : State :=
  match s.partnerIn n e with
  | some p =>
    if decide (s.bnd n Rg.lnHeight ≤ p.count) && decide (p.lastRow + 4 * s.bnd n Rg.lnLineMax ≤ s.now) then
      s.partnerEnd n e mkNoFrameEnd
    else s
  | none => s

/-- The exposure 0 capture of a CSI lane waits for its frame-end packet only. -/
def State.waitsEnd (s : State) (n : Nat) : Option Capture :=
  match (s.lane n).capture with
  | some c => if isCsi (s.bnd n Rg.lnPort) && decide (s.bnd n Rg.lnHeight ≤ c.rows) then some c else none
  | none => none

/-- NO_FRAME_END: 4 × t_max after row HEIGHT − 1 without a frame-end packet on a CSI port (R155). Where the exposure 0
capture waits for no frame end, it is the first partner capture that does. -/
def State.noFrameEnd (s : State) (n : Nat) : State :=
  match s.waitsEnd n with
  | some c =>
    ((s.reach (c.lastRow + 4 * s.bnd n Rg.lnLineMax)).bumpSat Rg.lnNoFe n).closeCapture n mkNoFrameEnd
  | none =>
    match (s.lane n).partners.find? (fun p => !p.closed && decide (s.bnd n Rg.lnHeight ≤ p.count)) with
    | some p => (s.reach (p.lastRow + 4 * s.bnd n Rg.lnLineMax)).partnerNoEnd n p.exposure
    | none => s

def doNoFrameEnd (n : LaneId) (s : State) : State :=
  s.noFrameEnd n.val

end Sys2Proof.Machine
end

