-- ==== Sys2Proof/Machine/Cci.lean ====
section
/-! DEFINITION. Camera control: the masters' queues, their triggers, transactions and results (R169 to R174, R182). -/
namespace Sys2Proof.Machine

/-- The transaction that CCI_CMD_0 to CCI_CMD_2 describe (Table Capture.9). -/
def State.cciFromRegs (s : State) (c data : Nat) : CciTx :=
  { tag := s.rd Rg.cciCmdTag c, lane := s.rd Rg.cciCmdLane c, trig := s.rd Rg.cciCmdTrig c,
    dataBytes := 2 ^ min 2 (s.rd Rg.cciCmdDataBytes c), regBytes := min 2 (s.rd Rg.cciCmdRegBytes c),
    read := s.on Rg.cciCmdRead c, dev := s.rd Rg.cciCmdDev c, reg := s.rd Rg.cciCmdReg c, data := data }

def cciAddr (c off : Nat) : Nat := 0x88000 + 0x100 * c + off

/-- CCI_PUSH: a write of CCI_CMD_2 pushes the transaction. A disabled master queues it and issues nothing. -/
def State.cciWriteCmd2 (s : State) (c data : Nat) : State := s.cciPush c (s.cciFromRegs c data)

def doCciPush (m : MasterId) (c : CciId) (data : Word) (s : State) : State :=
  s.withRight m.val (cciAddr c.val 0xC) .run (fun st => st.cciWriteCmd2 c.val data.toNat)

/-- A number as bytes, most significant first. -/
def wireBytes (n x : Nat) : List CciWire := (leBytes n x).reverse.map (fun b => .byte b.toNat)

/-- What a transaction puts on the bus as far as the device acknowledges, up to the data of a read: a repeated start before the
data phase of a read that has a register address (R169). -/
def CciTx.wire (t : CciTx) : List CciWire :=
  let reg := wireBytes t.regBytes t.reg
  if t.read then
    (if t.regBytes = 0 then [.start] else [.start, .byte (2 * t.dev)] ++ reg ++ [.restart]) ++ [.byte (2 * t.dev + 1)]
  else [.start, .byte (2 * t.dev)] ++ reg ++ wireBytes t.dataBytes t.data

/-- CCI_ISSUE: the head transaction goes onto the bus once its trigger has come; SDA stuck low ends it with BUS_STUCK
(R170, R173). -/
def State.cciIssue (s : State) (c : Nat) (stuck : Bool) : State :=
  let x := s.cciOf c
  match x.active, x.queue with
  | none, t :: rest =>
    if s.on Rg.cciEn c && x.triggered && s.domainServes 0 && !s.padHeld 0 then
      let s1 := s.modCci c (fun y => ({ y with queue := rest }).rearm)
      if stuck then (s1.modCci c (fun y => { y with wire := [.clocks 9, .stop] })).cciEnd c t 4 0
      else s1.modCci c (fun y => { y with active := some t, wire := t.wire })
    else s
  | _, _ => s

def doCciIssue (c : CciId) (stuck : Bool) (s : State) : State :=
  s.cciIssue c.val stuck

/-- CCI_TRANSACTION_DONE: the transaction on the bus ends OK or with an address or data NACK (R172). -/
def State.cciDone (s : State) (c status rdata : Nat) : State :=
  match (s.cciOf c).active with
  | none => s
  | some t => (s.modCci c (fun x => { x with active := none, wire := x.wire ++ [.stop] })).cciEnd c t status (rdata % 2 ^ (8 * t.dataBytes))

def doCciTransactionDone (c : CciId) (status : Fin 3) (rdata : Word) (s : State) : State :=
  s.cciDone c.val status.val rdata.toNat

/-- CCI_STRETCH_TIMEOUT: a clock stretch lasted beyond STRETCH_MS (R172). -/
def doCciStretchTimeout (c : CciId) (s : State) : State :=
  s.cciDone c.val 3 0

/-- A read of CCI_RESULT removes the oldest result and loads its data into CCI_RDATA (R174, Table Capture.9). -/
def State.cciPop (s : State) (c : Nat) : State × Nat :=
  match (s.cciOf c).results with
  | [] => (s, 0)
  | r :: rest =>
    let s1 := s.modCci c (fun x => { x with results := rest })
    (s1.wr Rg.cciRdata r.rdata c, 2 ^ 31 + r.status * 2 ^ 28 + r.tag * 2 ^ 16)

def doCciResultRead (m : MasterId) (c : CciId) (s : State) : State :=
  s.guardRead m.val (cciAddr c.val 0x10) (s.rightAt m.val (cciAddr c.val 0x10) .look)
    (fun st => st.cciPop c.val)

/-- CCI_DISABLE: clearing EN flushes the queue, each transaction ending FLUSHED (R172). -/
def State.cciFlush (s : State) (c : Nat) : State :=
  let q := (s.cciOf c).queue
  let s1 := s.modCci c (fun x => ({ x with queue := [] }).rearm)
  s1.each q (fun st t => st.cciEnd c t 5 0)

def State.cciDisable (s : State) (c : Nat) : State := (s.wr Rg.cciEn 0 c).cciFlush c

def doCciDisable (m : MasterId) (c : CciId) (s : State) : State :=
  s.withRight m.val (cciAddr c.val 0) .set (fun st => st.cciDisable c.val)

/-- The trigger of every waiting head transaction that `p` accepts has come (R170, R182). -/
def State.cciTrigger (s : State) (p : CciTx → Bool) : State :=
  s.each (List.range 4) (fun st c =>
    st.modCci c (fun x => match x.queue with
      | t :: _ => if p t then { x with triggered := true } else x
      | [] => x))

/-- A frame start of a lane in RUN or PROBATION triggers its TRIG = 1 transactions. -/
def State.cciFrameStart (s : State) (n : Nat) : State := s.cciTrigger (fun t => t.trig == 1 && t.lane == n)

/-- A Bell triggers TRIG = 2 transactions. -/
def State.cciBell (s : State) : State := s.cciTrigger (fun t => t.trig == 2)

end Sys2Proof.Machine
end

