-- ==== Sys2Proof/Machine/Pipe.lean ====
section
/-! DEFINITION. The Pipe: which stripe runs, its correction, and what a finished stripe gives (R187 to R192, R199 to R214,
R229 to R236, R241, R262). -/
namespace Sys2Proof.Machine

/-! ### Rows of a stripe -/

/-- First row, and row after the last, of stripe j of a Billet, of the rows captured. -/
def Billet.stripeRows (b : Billet) (j : Nat) : Nat × Nat :=
  let h := stripeHeight b.bind
  (j * h, min (min ((j + 1) * h) (cpGet b.bind Rg.lnHeight)) b.rows.length)

/-- Exposure e is missing from stripe j. -/
def PipeB.isMissing (p : PipeB) (e j : Nat) : Bool := p.missFrom.any (fun m => m.1 == e && decide (m.2 ≤ j))

/-- The partner frame of exposure e matched to a Billet. -/
def State.partnerOf (s : State) (b : Billet) (e : Nat) : Option PartnerFrame :=
  (s.lane b.lane).partners.find? (fun p => p.exposure == e && p.ordinal == some b.ordinal)

/-- Every exposure of stripe j is present or missing (R229). -/
def State.exposuresReady (s : State) (b : Billet) (j : Nat) : Bool :=
  !orderL b.bind || (List.range (cpGet b.bind Rg.lnExposures)).all (fun i =>
    b.pipe.isMissing (i + 1) j || (match s.partnerOf b (i + 1) with
      | some p => decide ((b.stripeRows j).2 ≤ p.rows.length)
      | none => false))

/-! ### Which stripe runs (R48, R49, R189) -/

/-- The lane's previous open Billet. -/
def State.prevBillet (s : State) (b : Billet) : Option Billet :=
  (s.billets.filter (fun x => x.lane == b.lane && decide (x.ordinal < b.ordinal))).getLast?

/-- The lines of stripe `j` of a Billet are present, in every exposure that is not missing (R52, R189, R229). -/
def State.stripeData (s : State) (b : Billet) (j : Nat) : Bool :=
  let full := min ((j + 1) * stripeHeight b.bind) (cpGet b.bind Rg.lnHeight)
  b.lane != 0xFF && b.durable && !b.dataLost && decide (j < b.stripesOwed) &&
  (!b.captureOpen || (cpGet b.bind Rg.lnFrameMode == 0 && decide (full ≤ b.rows.length))) && s.exposuresReady b j

/-- The next stripe of a Billet is ready for the Pipe. -/
def State.stripeReady (s : State) (b : Billet) : Bool :=
  let j := b.pipe.done
  s.stripeData b j && !b.pipe.busy && !b.pipe.skip &&
  (match s.prevBillet b with
   | none => true
   | some q => q.pipe.skip || q.dataLost || decide (j < q.pipe.done) || (!q.captureOpen && decide (q.stripesOwed ≤ j)))

/-- The row in which a job is placed; none once its reservation is released. -/
def State.jobRow (s : State) (ty : JobType) (o stripe : Nat) : Option Nat :=
  (s.jobs.find? (fun j => j.ty == ty && j.ordinal == o && j.stripe == stripe)).map TJob.row

/-- Priority of a ready job: placed in this Period's row first, then deadline, then Door ordinal (R48, R49). -/
def State.priority (s : State) (ty : JobType) (b : Billet) (stripe : Nat) : Nat × Nat × Nat :=
  let later := match s.jobRow ty b.ordinal stripe with
    | some r => decide (s.period < r)
    | none => false
  (b2n later, b.deadline, b.ordinal)

def lexLt (a b : Nat × Nat × Nat) : Bool :=
  decide (a.1 < b.1) || (a.1 == b.1 && (decide (a.2.1 < b.2.1) || (a.2.1 == b.2.1 && decide (a.2.2 < b.2.2))))

/-- The Billet whose ready job has the highest priority. -/
def State.pickJob (s : State) (ty : JobType) (stripe : Billet → Nat) (l : List Billet) : Option Billet :=
  l.foldl (fun best b => match best with
    | none => some b
    | some a => if lexLt (s.priority ty b (stripe b)) (s.priority ty a (stripe a)) then some b else best) none

/-- A placed job changes its stage. -/
def State.jobStage (s : State) (ty : JobType) (o stripe : Nat) (st : JobStage) : State :=
  { s with jobs := s.jobs.map (fun j =>
      if j.ty == ty && j.ordinal == o && j.stripe == stripe && j.prio == 0 then
        { j with stage := st, since := if j.stage == .running then j.since else s.now } else j) }

/-- The engine works: READY, and no power failure in progress. -/
def State.working (s : State) : Bool := s.on Rg.bootReady && s.powerFail == .off

/-- The Pipe loads the working set of another Billet (R190). -/
def State.pipeSwitch (s : State) (o : Nat) : State :=
  if s.pipe.lastBillet == some o then s else s.bump Rg.pipeSwitches

/-- A parity error in the working set: it is reloaded and the stripe runs again (R234). -/
def State.ctxParity (s : State) (n : Nat) : State := (s.bumpSat Rg.pipeCtxParity).raise 453 n 1

/-- An uncorrectable read of a stripe ends the Billet with DATA_LOST (R233). -/
def State.pipeDataLost (s : State) (o n : Nat) : State :=
  let s1 := s.modBillet o (fun b => { b with dataLost := true, pipe := { b.pipe with skip := true, busy := false } })
  ((s1.bumpSat Rg.pipeDataLost).raise 454 n 1).tryEnd o

/-- PIPE_STRIPE_START: the ready stripe with the highest priority starts; `parity` and `lost` tell what its reads meet. -/
def State.pipeStart (s : State) (parity lost : Bool) : State :=
  if s.pipe.running.isSome || !s.working || !s.domainServes 0 then s
  else
    match s.pickJob .pipe (fun b => b.pipe.done) (s.billets.filter s.stripeReady) with
    | none => s
    | some b =>
      let o := b.ordinal
      let n := b.lane
      let a := s.takeArmed 453 n
      let s1 := if parity || a.2 then a.1.ctxParity n else a.1
      let d := s1.takeArmed 454 n
      let sw := (d.1.pipeSwitch o).wr Rg.pipeLane n
      if lost || d.2 then { sw with pipe := { sw.pipe with lastBillet := some o } }.pipeDataLost o n
      else
        let s2 := sw.wr Rg.pipeIdle 0
        let s3 := { s2 with pipe := { running := some (o, b.pipe.done), lastBillet := some o } }
        (s3.modBillet o (fun x => { x with pipe := { x.pipe with busy := true } })).jobStage .pipe o b.pipe.done .running

def doPipeStripeStart (parity lost : Bool) (s : State) : State :=
  s.pipeStart parity lost

/-! ### Correction of a row (Table Pipeline.1) -/

/-- Bits of a pixel of a raw lane. -/
def pixBits (b : Kv Nat) : Nat := (dtBits (cpGet b Rg.lnDt)).getD 16

/-- The black level of phase q that a frame uses (R203). -/
def frameBl (ws : Kv Nat) (q : Nat) : Nat :=
  if cpGet ws Rg.lnObTrack = 1 then cpGet ws Rg.lnBlTrack q else cpGet ws Rg.lnBlBase q

/-- The exposures present at row y of stripe j, longest first: index and row. -/
def State.exposureRows (s : State) (b : Billet) (j y : Nat) : List (Nat × List Nat) :=
  (0, b.rows.getD y []) ::
  (if !orderL b.bind then []
   else (List.range (cpGet b.bind Rg.lnExposures)).filterMap (fun i =>
     if b.pipe.isMissing (i + 1) j then none else (s.partnerOf b (i + 1)).map (fun p => (i + 1, p.rows.getD y []))))

/-- The inputs of the black-level stage of a row: aligned (Order B), or linearised and merged (Order L). -/
def State.blackInputs (s : State) (b : Billet) (j y : Nat) : List Nat :=
  let n := pixBits b.bind
  let bank := bankOf b.ws
  let ex := s.exposureRows b j y
  if !orderL b.bind then (b.rows.getD y []).map (alignPix n)
  else
    (List.range (cpGet b.bind Rg.lnWidth)).map (fun x =>
      mergePix (ex.map (fun e =>
        let p := e.2.getD x 0
        (p * 2 ^ (16 - n), linPix (fun i => s.tbl bank (2 + e.1) i) (alignPix n p), cpGet b.ws Rg.lnSat e.1,
         cpGet b.ws Rg.lnKnee e.1))))

/-- A corrected row: z of each pixel, and the number of dynamic replacements (R200 to R211). -/
def State.correctRow (s : State) (b : Billet) (ds : List Defect) (y : Nat) (vin : List Nat) : List Nat × Nat :=
  let cfa := cpGet b.bind Rg.lnCfa
  let bank := bankOf b.ws
  let w := cpGet b.bind Rg.lnWidth
  let h := cpGet b.bind Rg.lnHeight
  let bo := vin.mapIdx (fun x v => blackPix (frameBl b.ws (phaseOf cfa x y)) (cpGet b.ws Rg.lnWg) v)
  let st := if cpGet b.ws Rg.lnStaticEn = 1 then bo.mapIdx (fun x v => staticPix ds cfa bo x y v) else bo
  let dy := if cpGet b.ws Rg.lnDynEn = 1 then st.mapIdx (fun x v => dynPix ds cfa (cpGet b.ws Rg.lnDynThr) st x y v)
            else st.map (fun v => (v, false))
  let sh := dy.mapIdx (fun x p =>
    let gain := if cpGet b.ws Rg.lnShadeEn = 1 then
        shadeGain (fun i j => s.tbl bank 1 (phaseOf cfa x y * 1089 + j * 33 + i)) w h x y
      else 4096
    shadePix gain p.1)
  let z := if !orderL b.bind then sh.map (linPix (fun i => s.tbl bank 2 i)) else sh
  (z, (dy.filter (fun p => p.2)).length)

/-- The decode-view part of a row (R213, R214, R266); none outside the view. -/
def State.viewRow (s : State) (b : Billet) (y : Nat) (z : List Nat) : Option (List Nat) :=
  let v := viewRect b.bind
  if y < v.2.1 ∨ v.2.1 + v.2.2.2 ≤ y then none
  else
    let part := (z.drop v.1).take v.2.2.1
    some (if isYuv b.bind then part.map (· % 256) else part.map (fun x => s.tbl (bankOf b.ws) 5 (x / 1024)))

/-! ### Optical black (R204 to R206, R492 to R494) -/

/-- The window of optical-black rows and columns holds a pixel. -/
def inOb (ws : Kv Nat) (x y : Nat) : Bool :=
  decide (cpGet ws Rg.lnObY0 ≤ y) && decide (y < cpGet ws Rg.lnObY0 + min 16 (cpGet ws Rg.lnObRows)) &&
  decide (cpGet ws Rg.lnObX0 ≤ x) && decide (x < cpGet ws Rg.lnObX0 + cpGet ws Rg.lnObCols)

/-- Black-stage inputs of the window enter the sums of their phase (R204). -/
def obAdd (b : Billet) (ds : List Defect) (y : Nat) (vin : List Nat) (ob : List ObSum) : List ObSum :=
  (vin.zipIdx.filter (fun p => inOb b.ws p.2 y && !listedIn ds p.2 y)).foldl (fun acc p =>
    acc.mapIdx (fun q o =>
      if q = phaseOf (cpGet b.bind Rg.lnCfa) p.2 y then
        { sum := o.sum + p.1, n := o.n + 1, full := o.full + b2n (p.1 == pixMax) }
      else o)) ob

/-- One phase is updated at the end of the window (R204, R205, R492, R493). -/
def State.obPhase (s : State) (b : Billet) (q : Nat) (o : ObSum) : State :=
  let n := b.lane
  if o.n = 0 ∨ o.n < 2 * o.full then
    (s.modBillet b.ordinal (fun x => { x with pipe := { x.pipe with mark := x.pipe.mark ||| 2 } })).raiseCnt 64 455 n n
  else
    let m : Int := ((o.sum + o.n / 2) / o.n : Nat)
    let t : Int := s.rd Rg.lnBlTrack n q
    let slew : Int := cpGet b.ws Rg.lnSlew
    let v1 : Int := clip20 (t + clampI (-slew) slew (m - t))
    let cut := decide (m - t < -slew) || decide (slew < m - t)
    let dev : Int := s.rd Rg.lnObDev n
    let base : Int := cpGet b.ws Rg.lnBlBase q
    let v2 := if dev = 0 then v1 else clampI (base - dev) (base + dev) v1
    let s1 := s.wr Rg.lnBlTrack (clip20 v2) n q
    let s2 := if v2 = v1 then s1 else (s1.bumpSat Rg.lnObClamped n).raiseCnt 64 925 n n
    let k := if cut then (s2.lane n).obSlew.getD q 0 + 1 else 0
    let hit := cut && decide (max 1 (s2.rd Rg.lnObSlewN n) ≤ k)
    let s3 := s2.modLane n (fun l => { l with obSlew := l.obSlew.set q (if hit then 0 else k) })
    if hit then (s3.bumpSat Rg.lnObSlewed n).raiseCnt 64 924 n n else s3

/-- The tracked levels follow once the stripe that holds the window's last row has been processed. -/
def State.obUpdate (s : State) (b : Billet) (y0 y1 : Nat) (ob : List ObSum) : State :=
  let rows := min 16 (cpGet b.ws Rg.lnObRows)
  let last := cpGet b.ws Rg.lnObY0 + rows - 1
  if !isYuv b.bind ∧ cpGet b.ws Rg.lnObTrack = 1 ∧ 0 < rows ∧ y0 ≤ last ∧ last < y1 then
    let qs := if 4 ≤ cpGet b.bind Rg.lnCfa then [0] else [0, 1, 2, 3]
    s.each qs (fun st q => st.obPhase b q (ob.getD q {}))
  else s

/-! ### Stripe done -/

/-- The statistics of one row (R243 to R247). -/
def statRow (b : Billet) (y : Nat) (raw z : List Nat) (t : StatB) : StatB :=
  if !t.enabled || t.lost then t
  else if isYuv b.bind then (z.zipIdx).foldl (fun acc p => acc.yuv p.2 y p.1) t
  else
    let n := pixBits b.bind
    (z.zipIdx).foldl (fun acc p =>
      acc.raw (cpGet b.ws Rg.lnHistCh) p.2 y (phaseOf (cpGet b.bind Rg.lnCfa) p.2 y) p.1
        (raw.getD p.2 0 == 2 ^ n - 1)) t

/-- What the rows of a stripe give. -/
structure StripeOut where
  plane : List (List Nat) := []
  view : List (List Nat) := []
  dyn : Nat := 0
  ob : List ObSum := []
  stat : StatB := {}
  deriving DecidableEq, Repr

/-- Process the rows y0 … y1 − 1 of stripe j. -/
def State.runRows (s : State) (b : Billet) (j y0 y1 : Nat) : StripeOut :=
  let yuv := isYuv b.bind
  let ds := if yuv then [] else s.defects (bankOf b.ws)
  (List.range (y1 - y0)).foldl (fun (acc : StripeOut) i =>
    let y := y0 + i
    let raw := b.rows.getD y []
    let vin := if yuv then raw else s.blackInputs b j y
    let z := if yuv then (raw, 0) else s.correctRow b ds y vin
    { plane := acc.plane ++ [z.1], view := acc.view ++ (s.viewRow b y z.1).toList, dyn := acc.dyn + z.2,
      ob := if yuv || cpGet b.ws Rg.lnObTrack == 0 then acc.ob else obAdd b ds y vin acc.ob,
      stat := statRow b y raw z.1 acc.stat })
    { ob := b.pipe.ob, stat := b.stat }

/-- The last stripe has been processed: the verdict and the statistics (R218, R248, R267). -/
def State.lastStripe (s : State) (o : Nat) : State :=
  let cut := match s.billet? o with
    | some b => (b.truncated || b.reset, b.dataLost)
    | none => (false, false)
  (s.formVerdict o).postStats o (cut.1 && !cut.2) cut.2

/-- PIPE_STRIPE_DONE: the stripe gives its decode view and compare sums, statistics, output lines and optical-black means
(R192). -/
def State.pipeDone (s : State) : State :=
  match s.pipe.running with
  | none => s
  | some (o, j) =>
    let s0 := (({ s with pipe := { s.pipe with running := none } }).wr Rg.pipeIdle 1).jobStage .pipe o j .done
    match s0.billet? o with
    | none => s0
    | some b =>
      let y := b.stripeRows j
      let r := s0.runRows b j y.1 y.2
      let done := j + 1
      let lastStripe := !b.captureOpen && decide (b.stripesOwed ≤ done) || decide (stripeCount b.bind ≤ done)
      let s1 := s0.modBillet o (fun x =>
        { x with stat := { r.stat with stripes := r.stat.stripes + 1 },
                 pipe := { x.pipe with busy := false, done := done, view := x.pipe.view ++ r.view,
                                       plane := x.pipe.plane ++ r.plane, dynCount := x.pipe.dynCount + r.dyn, ob := r.ob } })
      let whole := decide (min ((j + 1) * stripeHeight b.bind) (cpGet b.bind Rg.lnHeight) ≤ y.2)
      let s2 := s1.refStripe o j r.view whole
      let s3 := s2.obUpdate b y.1 y.2 r.ob
      let s4 := s3.streamsRun o b.lane y.2 lastStripe
      let s5 := if lastStripe then s4.lastStripe o else s4
      s5.tryEnd o

def doPipeStripeDone (s : State) : State := s.pipeDone

/-! ### Missing partners (R229, R230) -/

/-- The first stripe of which a partner lacks lines. -/
def State.partnerStripe (s : State) (b : Billet) (e : Nat) : Nat :=
  match s.partnerOf b e with
  | some p => partnerLack b.bind p.rows.length
  | none => 0

/-- The frame time of R228: FRAME_INT, or F Periods while it is 0. -/
def State.frameTime (s : State) (n : Nat) : Nat :=
  if s.rd Rg.lnFrameInt n = 0 then bindF (s.lane n).bound s.periodTicks * s.periodTicks else s.rd Rg.lnFrameInt n

end Sys2Proof.Machine
end

