-- ==== Sys2Proof/Machine/Wake.lean ====
section
/-! DEFINITION. Wake events (R688, R691). -/
namespace Sys2Proof.Machine

/-- The hold of the WAKE vote in ms; 0 is taken as 1 (Table Power.13). -/
def State.wakeHoldMs (s : State) : Nat := max 1 (s.rd Rg.wakeHold)

/-- A wake event of source code `c`, whose domains are further limited to `mask`: an enabled source raises the WAKE vote
on every domain of its mask, and the event is recorded, counted and raised as E0024 (R691). -/
def State.wakeEvent (s : State) (c : Nat) (mask : Nat := 63) : State :=
  if (s.rd Rg.wakeEn).testBit c && 1 ≤ c && c ≤ 25 then
    let ds := (List.range 6).filter (fun d => (s.rd Rg.wakeMask c &&& mask).testBit d)
    let s1 := s.each ds (fun st d => st.wr Rg.rollInternal (st.rd Rg.rollInternal d ||| 2) d)
    let last := if s.rd Rg.wakeStamp = s.now then max c (s.rd Rg.wakeLast) else c
    let s2 := ((s1.wr Rg.wakeLast last).wr Rg.wakeStamp s.now).bump Rg.wakeCount
    let s3 := { s2 with power := { s2.power with wakeUntil := some (s.now + msTicks s.wakeHoldMs) } }
    s3.raiseLim 64 24 0 c 0
  else s

end Sys2Proof.Machine
end

