-- ==== Sys2Proof/Machine/Strobe.lean ====
section
/-! DEFINITION. Strobe triggers, the placement of pulses, standing reservations, and the pulses of the LED sinks and the
high-side outputs (R353 to R368, R378 to R386). -/
namespace Sys2Proof.Machine

/-! ### Access to the parts of Bellows -/

def State.led (s : State) (n : Nat) : LedSt := kvGet {} s.blw.leds n

def State.modLed (s : State) (n : Nat) (f : LedSt → LedSt) : State :=
  { s with blw := { s.blw with leds := kvMod {} s.blw.leds n f } }

def State.dout (s : State) (n : Nat) : DoutSt := kvGet {} s.blw.douts n

def State.modDout (s : State) (n : Nat) (f : DoutSt → DoutSt) : State :=
  { s with blw := { s.blw with douts := kvMod {} s.blw.douts n f } }

/-- A setting of a sink as it is in force (R358, R385). -/
def State.ledIn (s : State) (n : Nat) (f : Fld) : Nat := kvGet (f.reset 0 0) (s.led n).force (f.key 0 0)

/-- A setting of an output as it is in force (R385). -/
def State.doutIn (s : State) (n : Nat) (f : Fld) : Nat := kvGet (f.reset 0 0) (s.dout n).force (f.key 0 0)

/-- The sink whose reference, DELAY, WIDTH and reservation sink `n` takes: that of its pair under GANG (R361). -/
def State.ledBase (s : State) (n : Nat) : Nat := if n % 2 = 1 ∧ s.rd Rg.ledGang n = 1 then n - 1 else n

/-- The sink it is ganged with, if there is one (R361). -/
def State.ledPartner (s : State) (n : Nat) : Option Nat :=
  if n % 2 = 1 then (if s.rd Rg.ledGang n = 1 then some (n - 1) else none)
  else if s.rd Rg.ledGang (n + 1) = 1 then some (n + 1) else none

/-- FIELD_OK (R354). -/
def State.fieldOk (s : State) : Bool := s.rd Rg.blwField == 0

/-- BELLOWS is UP or DROPPING: its registers and pins behave normally (R682, R687). -/
def State.bellowsServes (s : State) : Bool := s.domainServes 5

/-! ### Reservations (R358, R384) -/

/-- The standing reservation that a sink's registers ask for: that of its pair under GANG (R358, R361). -/
def State.strobeCost (s : State) (n : Nat) : Nat :=
  let b := s.ledBase n
  max 1 (s.rd Rg.ledMaxPulses b) * (clamp 250 2500000 (s.rd Rg.ledWidth b) + 1250) + 12500 * s.rd Rg.ledTrimEn b

/-- It fits the capacity of the sink's STROBE unit. -/
def State.strobeFits (s : State) (n : Nat) : Bool := decide (s.strobeCost n ≤ s.admNow (11 + n))

/-- The sink is disabled: its reservation ends and its pending pulses fall away. -/
def State.ledDisable (s : State) (n : Nat) : State :=
  let s1 := { s.wr Rg.ledEn 0 n with standing := kvSet 0 s.standing (11 + n) 0 }
  s1.modLed n (fun l => { l with force := kvSet 0 l.force (Rg.ledEn.key 0 0) 0, pend := [] })

/-- The writes of EN, WIDTH, MAX_PULSES and TRIM_EN: they are taken if the new reservation fits, and take effect at the
next Bell; EN = 0 takes effect at once (R358). -/
def State.strobeWrite (s : State) (n : Nat) (ups : List (Fld × Nat)) : State :=
  let s1 := s.each ups (fun st u => st.wr u.1 u.2 n)
  if s1.rd Rg.ledEn n = 1 then (if s1.strobeFits n then s1 else s) else s1.ledDisable n

/-- The reservations are tested again; a sink whose reservation no longer fits has EN cleared and raises E0968 (R384). -/
def State.strobeRetest (s : State) : State :=
  s.each (upto 8) (fun st n =>
    if st.on Rg.ledEn n && !st.strobeFits n then (st.ledDisable n).raise 968 n 0 else st)

/-- The settings that take effect at a Bell (R358, R385). -/
def ledBellFields : List Fld :=
  [Rg.ledEn, Rg.ledWidth, Rg.ledMaxPulses, Rg.ledTrimEn, Rg.ledRefSel, Rg.ledRefIdx, Rg.ledDelay, Rg.ledFlkEn,
   Rg.ledFlkPhase, Rg.ledFlkMax]

def doutBellFields : List Fld := [Rg.doutRefSel, Rg.doutRefIdx, Rg.doutDelay]

/-- A copy of fields of one object, by the keys of object 0. -/
def State.copyOf (s : State) (n : Nat) (fs : List Fld) : Kv Nat :=
  fs.foldl (fun m f => kvSet (f.reset 0 0) m (f.key 0 0) (s.rd f n)) []

/-- One sink at a Bell: its settings come into force, its reservation stands in every row from now on, and the first
flash falls due when TRIM_EN is set (R358, R385, R495). -/
def State.ledBellOne (s : State) (n : Nat) : State :=
  let trimWas := s.ledIn n Rg.ledTrimEn = 1 ∧ s.ledIn n Rg.ledEn = 1
  let c := s.copyOf n ledBellFields
  let s1 := s.modLed n (fun l => { l with force := c })
  let trimIs := s1.ledIn n Rg.ledTrimEn = 1 ∧ s1.ledIn n Rg.ledEn = 1
  let s2 := if trimIs ∧ ¬ trimWas then s1.modLed n (fun l => { l with flashDue := some s.period }) else s1
  let cost := if s2.on Rg.ledEn n && s2.domainUp 5 then s2.strobeCost n else 0
  { s2 with standing := kvSet 0 s2.standing (11 + n) cost }

/-- What a Bell does to the settings of Bellows. -/
def State.bellowsBell (s : State) : State :=
  let s1 := s.each (upto 8) State.ledBellOne
  s1.each (upto 8) (fun st n => st.modDout n (fun d => { d with force := s.copyOf n doutBellFields }))

/-! ### Setpoint (R362) -/

/-- I_T of a sink in mA. -/
def State.ledIT (s : State) (n : Nat) : Nat :=
  let i : Int := clamp 50 3000 (s.rd Rg.ledISet n)
  (clampI 50 3000 (i * (1024 + s.rdI Rg.ledTrim n) / 1024)).toNat

/-- The Quench step that counts: 4 in the thermal state CRITICAL, 0 without QEN (R362, R698). -/
def State.ledStep (s : State) (n : Nat) : Nat :=
  if s.rd Rg.th2State = 3 then 4 else if s.on Rg.ledQen n then s.rd Rg.ledQStep n else 0

/-- Q_s of a step. -/
def State.ledPercent (s : State) (n step : Nat) : Nat := if step = 0 then 100 else s.rd Rg.ledQ n (step - 1)

/-- I of a sink in mA, as it is formed at a pulse start. -/
def State.ledSetpoint (s : State) (n : Nat) : Nat := s.ledIT n * s.ledPercent n (s.ledStep n) / 100

/-! ### Skips (R359) -/

/-- A trigger of a sink is skipped for a cause from 1 = OVERLAP to 5 = QUENCHED: it is counted and E0967 is raised. -/
def State.ledSkip (s : State) (n cause : Nat) : State :=
  let f := if cause = 1 then Rg.ledSkOverlap else if cause = 2 then Rg.ledSkOverRate
    else if cause = 3 then Rg.ledSkNoField else if cause = 4 then Rg.ledSkFault else Rg.ledSkQuenched
  ((s.bumpSat f n).wr Rg.ledSkipLast cause n).raiseLim 64 967 0 n 0

/-- The output may not fire: it is latched off or waits for a retry. -/
def OffState.blocks : OffState → Bool
  | .clear => false
  | .held => true
  | .waiting _ => true
  | .retryDue => false

/-! ### Flicker placement (R365) -/

/-- The fractional part of a rational. -/
def ratFrac (q : Rat) : Rat := q - (q.floor : Rat)

/-- The nearest whole number to a rational; a tie goes up. -/
def ratRound (q : Rat) : Int := (q + (1 / 2 : Rat)).floor

/-- Φ at a tick, in cycles from 0 to 1 (R500). -/
def State.flkPhaseAt (s : State) (t : Nat) : Rat :=
  let k := s.sfe.flk
  ratFrac (k.phase + k.freq * (((t : Int) - (k.phaseAt : Int) : Int) : Rat) / 250000000)

/-- The start of a pulse after the move of R365; none when there is no move within FLK_MAX, or no lock. -/
def State.flkMove (s : State) (n start : Nat) : Option Nat :=
  if s.on Rg.flkLocked then
    let p : Rat := (s.ledIn n Rg.ledFlkPhase : Rat) / 65536
    let span : Rat := 250000000 / s.sfe.flk.freq
    let ahead : Rat := ratFrac (p - s.flkPhaseAt start) * span
    let back : Rat := if ahead = 0 then 0 else span - ahead
    let lim : Rat := (s.ledIn n Rg.ledFlkMax : Rat)
    if back ≤ ahead then (if back ≤ lim then some (start - (ratRound back).toNat) else none)
    else if ahead ≤ lim then some (start + (ratRound ahead).toNat) else none
  else none

/-! ### Triggers of a sink (R357, R359) -/

/-- The end of the latest pulse that a sink has had, has, or has scheduled. -/
def LedSt.busyUntil (l : LedSt) : Option Nat :=
  let ends := l.pend.map (fun p => p.start + p.width) ++ (match l.active with | some a => [a.stop] | none => [])
    ++ (match l.lastEnd with | some e => [e] | none => [])
  match ends with
  | [] => none
  | e :: es => some (es.foldl max e)

/-- Two ticks lie in one Period, by the nominal Period counted from the last Bell. -/
def State.samePeriod (s : State) (a b : Nat) : Bool :=
  let z : Int := s.rd Rg.bellStamp
  let p : Int := max 1 s.periodTicks
  decide (((a : Int) - z) / p = ((b : Int) - z) / p)

/-- A lit interval, kept for the test of R497: those of the last 2 ms. -/
def State.litAdd (s : State) (a b : Nat) : State :=
  { s with blw := { s.blw with lit := (a, b) :: s.blw.lit.filter (fun e => decide (s.now < e.2 + 500000)) } }

/-- A lit interval from a to b ends now: it stays in the list as long as it lasted. -/
def State.litCut (s : State) (a b : Nat) : State :=
  { s with blw := { s.blw with lit := s.blw.lit.map (fun (e : Nat × Nat) =>
      if e.1 = a ∧ e.2 = b then (e.1, min e.2 s.now) else e) } }

/-- A flash of the sink that the pulse would overlap ends, its measurement is discarded, and it falls due again (R508). -/
def State.flashYield (s : State) (n : Nat) (p : Sched) : State :=
  match (s.led n).flash with
  | some f =>
    if p.start < f.start + 10000 ∧ f.start < p.start + p.width then
      (s.litCut f.start (f.start + 10000)).modLed n (fun l => { l with flash := none, flashDue := some s.period })
    else s
  | none => s

/-- Test a pulse of a sink and schedule it, or skip it. Outside FIELD_OK every trigger is skipped with cause NO_FIELD (R355). -/
def State.ledPlace (s : State) (n : Nat) (p : Sched) : State :=
  let l := s.led n
  let overlap := match l.busyUntil with | some e => decide (p.start < e + 1250) | none => false
  let inPeriod := (l.starts.filter (s.samePeriod p.start)).length
  let lim := max 1 (s.ledIn (s.ledBase n) Rg.ledMaxPulses)
  if !s.fieldOk then s.ledSkip n 3
  else if overlap then s.ledSkip n 1
  else if lim ≤ inPeriod ∨ 8 ≤ l.pend.length then s.ledSkip n 2
  else if l.off.blocks || s.padHeld 3 || !s.domainUp 5 then s.ledSkip n 4
  else
    (s.flashYield n p).modLed n (fun l => { l with pend := l.pend ++ [p], starts := (p.start :: l.starts).take 16 })

/-- Sink `n` is enabled and not ganged to the sink below it. -/
def State.ledLeads (s : State) (n : Nat) : Bool := s.ledIn n Rg.ledEn == 1 && s.ledBase n == n

/-- A reference instant of sink `n`, stamped `t`: it schedules one pulse on it, and on the sink ganged with it (R357,
R361, R365). The latest reference stamp is kept for the trim flashes (R495). -/
def State.ledTrigger (s : State) (t : Nat) (n : Nat) : State :=
  let s0 := s.modLed n (fun l => { l with lastRef := some t })
  let start := t + max 500 (s.ledIn n Rg.ledDelay)
  let width := clamp 250 2500000 (s.ledIn n Rg.ledWidth)
  let moved := if s.ledIn n Rg.ledFlkEn = 1 then s.flkMove n start else some start
  let s1 := if moved.isNone then s0.bumpSat Rg.ledFlkMiss n else s0
  let p : Sched := { start := moved.getD start, width := width }
  let before := (s1.led n).pend.length
  let s2 := s1.ledPlace n p
  match s.ledPartner n with
  | some q =>
    if before < (s2.led n).pend.length && s.ledIn q Rg.ledEn == 1 then
      (s2.modLed q (fun l => { l with lastRef := some t })).ledPlace q p
    else s2
  | none => s2

/-! ### High-side outputs (R366) -/

/-- The level that an output's mode commands. -/
def State.doutLevel (s : State) (n : Nat) : Bool :=
  let m := s.rd Rg.doutMode n
  if m = 0 then s.on Rg.doutOut n
  else if m = 1 then (s.dout n).active.isSome
  else if m = 2 then ((s.led (s.rd Rg.doutFollow n)).active).isSome
  else false

/-- No latch, wait, probe or field state holds the output off. -/
def State.doutMay (s : State) (n : Nat) : Bool :=
  let d := s.dout n
  s.fieldOk && !d.off.blocks && !d.probed && s.rd Rg.doutTied n == 0 && s.rd Rg.doutBackfeed n == 0

/-- Set an output's switch to what its mode, POL and its latches ask for; a held bank keeps its level (R366, R685). A
retry begins when it turns on after a retry wait, and is over when it turns off without a fault (R379). -/
def State.doutRefresh (s : State) (n : Nat) : State :=
  if !s.bellowsServes || s.padHeld 4 then s
  else
    let d := s.dout n
    let want := s.doutMay n && (s.doutLevel n != s.on Rg.doutPol n)
    if want = d.on then s
    else if want then
      s.modDout n (fun d => { d with on := true, high := 0, reverse := 0, retrying := d.off == .retryDue })
    else
      let s1 := s.modDout n (fun d => { d with on := false, offSince := s.now, high := 0, reverse := 0 })
      if d.retrying && s.doutMay n then
        (s1.wr Rg.doutRetries 0 n).modDout n (fun d => { d with off := .clear, retrying := false })
      else s1

def State.doutRefreshAll (s : State) : State := s.each (upto 8) State.doutRefresh

/-- A reference instant of output `n` in PULSE mode, stamped `t`: one pulse, or a counted skip (R366). -/
def State.doutTrigger (s : State) (t : Nat) (n : Nat) : State :=
  let d := s.dout n
  let start := t + max 500 (s.doutIn n Rg.doutDelay)
  let p : Sched := { start := start, width := max 250 (s.rd Rg.doutWidth n) }
  let clash := d.active.isSome || d.pend.any (fun q => decide (start < q.start + q.width))
  if clash || !s.fieldOk || !s.domainUp 5 || d.off.blocks || s.rd Rg.doutTied n == 1 || s.rd Rg.doutBackfeed n == 1 then
    s.bumpSat Rg.doutSkips n
  else s.modDout n (fun d => { d with pend := d.pend ++ [p] })

/-! ### References (R356) -/

/-- A reference instant stamped `t`: every sink and every output in PULSE mode whose reference in force it is fires.
Outside UP and DROPPING the sinks are off (R387). -/
def State.reference (s : State) (sel idx t : Nat) : State :=
  if s.bellowsServes then
    let hit := fun (a b : Nat) => a == sel && (sel == 1 || b == idx)
    let leds := (upto 8).filter (fun n => s.ledLeads n && hit (s.ledIn n Rg.ledRefSel) (s.ledIn n Rg.ledRefIdx))
    let outs := (upto 8).filter (fun n =>
      s.rd Rg.doutMode n == 1 && hit (s.doutIn n Rg.doutRefSel) (s.doutIn n Rg.doutRefIdx))
    (s.each leds (fun st n => st.ledTrigger t n)).each outs (fun st n => st.doutTrigger t n)
  else s

/-! ### Pulses of a sink -/

/-- The sink's pulse ends now, before its time: it stays in the list of lit intervals as long as it lasted. -/
def State.pulseCut (s : State) (n : Nat) : State :=
  match (s.led n).active with
  | some a =>
    ((s.litCut a.start a.stop).modLed n (fun l => { l with active := none, lastEnd := some s.now })).doutRefreshAll
  | none => s

/-- The sink's flash ends now and its measurement is discarded (R509). -/
def State.flashDrop (s : State) (n : Nat) : State :=
  match (s.led n).flash with
  | some f => (s.litCut f.start (f.start + 10000)).modLed n (fun l => { l with flash := none })
  | none => s

/-- PULSE_START: the earliest scheduled pulse of a sink reaches its start. Its setpoint is formed; it is skipped for
NO_FIELD, FAULT or QUENCHED, or it fires, and every output that follows the sink turns on (R357, R359, R362, R366). -/
def State.pulseStart (s : State) (n : Nat) : State :=
  match (s.led n).pend with
  | [] => s
  | p :: rest =>
    if !s.bellowsServes then s
    else
      let s1 := (s.reach p.start).modLed n (fun l => { l with pend := rest })
      let l := s1.led n
      let skip := fun (c : Nat) =>
        (s1.modLed n (fun l => { l with starts := l.starts.erase p.start })).ledSkip n c
      if !s1.fieldOk then skip 3
      else if l.off.blocks || s1.padHeld 3 then skip 4
      else if s1.ledSetpoint n < 50 then skip 5
      else
        let a : ActivePulse := { start := s1.now, stop := s1.now + p.width, current := s1.ledSetpoint n,
                                 retry := l.off == .retryDue, forced := (kvGet none (s1.evt.armed.map
                                   (fun e => (e.1, some e.2))) (928 + n)).isSome }
        let s2 := ({ s1 with evt := { s1.evt with armed := kvDel s1.evt.armed (928 + n) } }.modLed n (fun l => { l with active := some a })).bump Rg.ledPulses n
        (s2.litAdd a.start a.stop).doutRefreshAll

def doPulseStart (n : LedId) (s : State) : State := s.pulseStart n.val

/-- PULSE_END: the pulse ends after WIDTH. The measurements are written, LOW_CURRENT and OPEN are set, and a retry that
has completed clears RETRIES (R363, R364, R379). Measured current in mA and pin voltage in mV come from outside. -/
def State.pulseEnd (s : State) (n iMeas vSink : Nat) : State :=
  match (s.led n).active with
  | none => s
  | some a =>
    let s1 := (s.reach a.stop).modLed n (fun l => { l with active := none, lastEnd := some (max s.now a.stop) })
    let i := min iMeas 4095
    let s2 := (s1.wr Rg.ledIMeas i n).wr Rg.ledVSink (min (vSink / 200) 255) n
    let low := decide (10 * i < 9 * a.current)
    let opn := decide (2 * i < a.current) && decide (vSink < 300)
    let s3 := if low then s2.wr Rg.ledLowCurrent 1 n else s2
    let s4 := if opn then s3.wr Rg.ledOpenF 1 n else s3
    let s5 := if low || opn then s4.raiseLim 64 (936 + n) 0 n (16 * b2n low + 8 * b2n opn) else s4
    let s6 := if a.retry then (s5.wr Rg.ledRetries 0 n).modLed n (fun l => { l with off := .clear }) else s5
    s6.doutRefreshAll


/-- STROBE_ENABLE: a write of EN, WIDTH, MAX_PULSES and TRIM_EN of a sink by master `m`. -/
def doStrobeEnable (m : MasterId) (n : LedId) (en : Bool) (width : BitVec 22) (maxPulses : BitVec 4) (trimEn : Bool)
    (s : State) : State :=
  s.withRight m.val (0x400100 + 0x80 * n.val) .set (fun st => st.strobeWrite n.val
    [(Rg.ledEn, b2n en), (Rg.ledWidth, width.toNat), (Rg.ledMaxPulses, maxPulses.toNat), (Rg.ledTrimEn, b2n trimEn)])

/-! ### Sink faults and retries (R378, R379, R382) -/

/-- What becomes of an output that turns off for a fault: RETRY, whether the attempt was a retry, and the failed retries
so far; the answer holds the new failed retries. -/
def offAfterFault (now retry retries : Nat) (wasRetry : Bool) : OffState × Nat :=
  if retry = 0 then (.held, retries)
  else
    let r := if wasRetry then retries + 1 else retries
    if 3 ≤ r then (.held, 3) else (.waiting (now + 25000000), r)

/-- A sink turns off for a short and latches SHORT. -/
def State.ledShortOff (s : State) (n : Nat) : State :=
  let wasRetry := match (s.led n).active with | some a => a.retry | none => (s.led n).off == .retryDue
  let r := offAfterFault s.now (s.rd Rg.ledRetry n) (s.rd Rg.ledRetries n) wasRetry
  let s1 := ((s.pulseCut n).flashDrop n).modLed n (fun l => { l with off := r.1 })
  (s1.wr Rg.ledRetries r.2 n).wr Rg.ledShort 1 n

/-- The instant at which a condition that has held since 2 µs into a pulse or flash has held for 10 µs, when it falls
within the pulse. -/
def State.shortDue (s : State) (n : Nat) : Option Nat :=
  match (s.led n).active, (s.led n).flash with
  | some a, _ => if a.start + 3000 ≤ a.stop then some (a.start + 3000) else none
  | none, some f => some (f.start + 3000)
  | none, none => none

/-- SINK_SHORT: a short condition held for 10 µs. The sink turns off, latches SHORT and raises E0928 + n; the fault ends
the pulse of its gang partner too and latches it (R361, R378). -/
def State.sinkShort (s : State) (n : Nat) : State :=
  match s.shortDue n with
  | none => s
  | some t =>
    let s1 := ((s.reach t).ledShortOff n).raise (928 + n) n 4
    match s.ledPartner n with
    | some q => s1.ledShortOff q
    | none => s1

def doSinkShort (n : LedId) (s : State) : State := s.sinkShort n.val

/-- PULSE_END: a pulse that an injected short strikes ends with the short instead, if it is long enough (R724). -/
def doPulseEnd (n : LedId) (iMeas vSink : Nat) (s : State) : State :=
  let forced := match (s.led n.val).active with | some a => a.forced && decide (a.start + 3000 ≤ a.stop) | none => false
  if forced then (s.markInjected (928 + n.val)).sinkShort n.val else s.pulseEnd n.val iMeas vSink

/-- Writing 1 to SHORT: the latch goes, RETRIES clears, and a retry wait ends (R379, R382). -/
def State.ledShortClear (s : State) (n : Nat) : State :=
  ((s.wr Rg.ledShort 0 n).wr Rg.ledRetries 0 n).modLed n (fun l => { l with off := .clear })

/-- The led clear command: SHORT, OPEN and LOW_CURRENT (R626). -/
def State.ledClear (s : State) (n : Nat) : State :=
  ((s.ledShortClear n).wr Rg.ledOpenF 0 n).wr Rg.ledLowCurrent 0 n

/-- Writing 1 to OVERLOAD (R379). -/
def State.doutOverloadClear (s : State) (n : Nat) : State :=
  (((s.wr Rg.doutOverload 0 n).wr Rg.doutRetries 0 n).modDout n (fun d => { d with off := .clear, retrying := false })).doutRefresh n

/-- The dout clear command: OVERLOAD, TIED, BACKFEED and RETRIES (R626). -/
def State.doutClear (s : State) (n : Nat) : State :=
  (((s.wr Rg.doutTied 0 n).wr Rg.doutBackfeed 0 n).doutOverloadClear n)

/-- An output's retry wait ends: its next trigger, or at once a DOUT that is commanded on in LEVEL mode, is a retry. -/
def State.doutWaitEnd (s : State) (n : Nat) : State :=
  match (s.dout n).off with
  | .waiting t => ((s.reach t).modDout n (fun d => { d with off := .retryDue })).doutRefresh n
  | _ => s

def State.ledWaitEnd (s : State) (n : Nat) : State :=
  match (s.led n).off with
  | .waiting t => (s.reach t).modLed n (fun l => { l with off := .retryDue })
  | _ => s

/-- RETRY_WAIT_END: of a DOUT or of an LED sink. -/
def doRetryWaitEnd (dout : Bool) (n : LedId) (s : State) : State :=
  if dout then s.doutWaitEnd n.val else s.ledWaitEnd n.val

end Sys2Proof.Machine
end

