-- ==== Sys2Proof/Machine/Frame.lean ====
section
/-! DEFINITION. Frame starts, the latch, lines of pixels, frame ends, merge partners, user-defined packets and escape-mode
entries (R131 to R135, R149 to R157, R160, R161, R175, R194 to R197, R206, R226, R228 to R231). -/
namespace Sys2Proof.Machine

/-! ### The latch (R194 to R197, R206, R226, R273) -/

/-- The shadow fields of the exposure loop (R273). -/
def aeFields : List Fld :=
  [Rg.lnAeEn, Rg.lnAeRb, Rg.lnAeCci, Rg.lnAeDev, Rg.lnAeReg, Rg.lnAeDeadband, Rg.lnAeTarget, Rg.lnAeMax, Rg.lnAeMin,
   Rg.lnAeSkip, Rg.lnAeQuant, Rg.lnAeZones]

/-- The black levels at the latch: the tracked ones, which restart from BL_BASE after OB_TRACK went from 0 to 1. -/
def State.latchBlack (s : State) (n : Nat) (ws : Kv Nat) : State :=
  if (s.lane n).obRestart then
    (s.each (upto 4) (fun st q => st.wr Rg.lnBlTrack (cpGet ws Rg.lnBlBase q) n q)).modLane n
      (fun l => { l with obRestart := false, obSlew := [0, 0, 0, 0] })
  else s

/-- The latch of a frame start of lane n that goes to the Door. When the shadow set's bank is not valid, the frame keeps the
profile and bank of the previous working set, which before the first latch holds the reset values (R226). -/
def State.latch (s : State) (n : Nat) (tag : Option Nat) : State × Latched :=
  let l := s.lane n
  let shadow := s.shadowAt n
  let hold := shadow.hold == 1 && l.prevWs.isSome
  let prev := l.prevWs.getD []
  let ws0 := if hold then prev else shadow.ws
  let sym := if hold then l.prevSym else shadow.sym
  let bad := !isYuv l.bound && s.badBanks.contains (bankOf shadow.ws)
  let put := fun (m : Kv Nat) (f : Fld) (j v : Nat) => kvSet (f.reset 0 j) m (laneKey f j) v
  let ws1 := if bad then put (put ws0 Rg.lnProfile 0 (cpGet prev Rg.lnProfile)) Rg.lnBank 0 (cpGet prev Rg.lnBank) else ws0
  let s1 := s.latchBlack n ws1
  let ws2 := (upto 4).foldl (fun m q => put m Rg.lnBlTrack q (s1.rd Rg.lnBlTrack n q)) ws1
  let restart := aeFields.any (fun f => cpGet ws2 f != cpGet prev f)
  let s2 := s1.modLane n (fun l =>
    { l with prevWs := some ws2, prevSym := sym, aeSince := if restart then 0 else l.aeSince })
  let s3 := (if bad then s2.raise 452 n 0 else s2).sizesLatch n l.bound ws2
  (s3, { ws := ws2, sym := sym, tableHeld := bad, tag := tag })

/-! ### Merge partners (R228 to R231) -/

/-- Two frame starts lie within 2 frame times of each other. -/
def State.inWindow (s : State) (n a b : Nat) : Bool := decide (absDiff a b ≤ 2 * s.frameTime n)

/-- The open Billet that a partner frame belongs to. -/
def State.partnerBillet (s : State) (n e tag stamp : Nat) : Option Billet :=
  s.billets.find? (fun b => b.lane == n && orderL b.bind && b.pipe.tag == some tag &&
    s.inWindow n b.stamp stamp && (s.partnerOf b e).isNone)

/-- Change one partner frame of a lane. -/
def State.modPartnerIs (s : State) (n : Nat) (p : PartnerFrame) (f : PartnerFrame → PartnerFrame) : State :=
  s.modLane n (fun l => { l with partners := l.partners.map (fun q => if q = p then f q else q) })

/-- A partner frame is matched to a Billet: its mark is ORed into that of the frame, and rows missing at its close make the
exposure missing (R229, R231). An exposure that is missing already stays so (R230). -/
def State.partnerJoin (s : State) (n : Nat) (b : Billet) (p : PartnerFrame) : State :=
  let gone := b.pipe.missFrom.any (fun m => m.1 == p.exposure)
  let s1 := s.modPartnerIs n p (fun q => { q with ordinal := some b.ordinal, frame := some b.frame, late := gone })
  let s2 := if p.closed && decide (p.rows.length < cpGet b.bind Rg.lnHeight) then
      s1.miss b.ordinal p.exposure (partnerLack b.bind p.rows.length)
    else s1
  s2.shareMark n (some b.frame) p.mark

/-- A partner of a refused frame is discarded without storage; its mark is ORed into that of the frame (R157, R231). -/
def State.partnerRefuse (s : State) (n frame : Nat) (p : PartnerFrame) : State :=
  let s1 := s.modPartnerIs n p (fun q => { q with dropped := true, frame := some frame, rows := [] })
  let s2 := s1.modLane n (fun l => { l with partners := l.partners.filter (fun q => !(q.closed && q.dropped)) })
  s2.shareMark n (some frame) p.mark

/-- A partner frame that partners nothing is discarded and counted. -/
def State.orphan (s : State) (n e : Nat) : State :=
  (s.bumpSat Rg.lnPartnerOrphan n).modPartner n e (fun p => { p with dropped := true, rows := [] })

/-- The tags of the partner frames that a lane holds: the frames of one tag share a frame buffer (R148, R228). -/
def State.heldTags (s : State) (n : Nat) : List (Option Nat) :=
  (((s.lane n).partners.filter (fun q => q.ordinal.isNone && !q.dropped)).map PartnerFrame.tag).eraseDups

/-- The frame number of the last refused frame, when a partner with tag t and its frame start belongs to it. -/
def State.refusedMate (s : State) (n t stamp : Nat) : Option Nat :=
  match (s.lane n).refusedTag with
  | some (some rt, at_, fr) => if rt = t && s.inWindow n at_ stamp then some fr else none
  | _ => none

/-- The tag of a partner frame is known, or known to be absent: it is matched, held in a free frame buffer, or
discarded. -/
def State.partnerPlace (s : State) (n e : Nat) (tag : Option Nat) : State :=
  match tag with
  | none => s.orphan n e
  | some t =>
    let s1 := s.modPartner n e (fun p => { p with tag := some t })
    match s1.partnerIn n e with
    | none => s1
    | some p =>
      match s1.refusedMate n t p.stamp, s1.partnerBillet n e t p.stamp with
      | some fr, _ => s1.partnerRefuse n fr p
      | none, some b => s1.partnerJoin n b p
      | none, none =>
        if (s1.openOf n).length + (s1.heldTags n).length ≤ s1.bnd n Rg.lnBufFrames then s1 else s1.orphan n e

/-- A held partner frame whose window has closed. -/
def State.partnerOld (s : State) (n : Nat) (p : PartnerFrame) : Bool :=
  p.ordinal.isNone && !p.dropped && decide (p.stamp + 2 * s.frameTime n < s.now)

/-- Held partner frames whose window has closed are discarded and counted (R228). -/
def State.partnerExpire (s : State) (n : Nat) : State :=
  let k := ((s.lane n).partners.filter (s.partnerOld n)).length
  if k = 0 then s
  else (s.addSat Rg.lnPartnerOrphan k n).modLane n (fun l =>
    { l with partners := (l.partners.filter (fun p => !(s.partnerOld n p && p.closed))).map (fun p =>
        if s.partnerOld n p then { p with dropped := true, rows := [] } else p) })

/-- PARTNER_MISSING: the window closes or the stripe bound passes for the lane's oldest Billet that still waits for the
exposure (R229). Where no Billet waits, it is the window of the oldest frame of the exposure that the lane holds (R228). -/
def State.partnerMissing (s : State) (n e : Nat) : State :=
  match s.billets.find? (fun b => b.lane == n && decide (e ≤ cpGet b.bind Rg.lnExposures) && orderL b.bind &&
      !(b.pipe.missFrom.any (fun m => m.1 == e)) && decide (s.partnerStripe b e < stripeCount b.bind)) with
  | none =>
    match (s.lane n).partners.find? (fun p => p.exposure == e && p.ordinal.isNone && !p.dropped) with
    | some p => (s.reach (p.stamp + 2 * s.frameTime n + 1)).partnerExpire n
    | none => s
  | some b =>
    let j := s.partnerStripe b e
    let due := match s.partnerOf b e with
      | some _ => b.stamp + (j + 1) * stripeHeight b.bind * b.tMax
      | none => b.stamp + min (stripeHeight b.bind * b.tMax) (2 * s.frameTime n)
    ((s.reach due).miss b.ordinal e j).partnerExpire n

def doPartnerMissing (n : LaneId) (second : Bool) (s : State) : State :=
  s.partnerMissing n.val (1 + b2n second)

/-- A frame start of exposure 1 or 2 (R228). -/
def State.partnerStart (s : State) (n e fn : Nat) : State :=
  let s1 := (s.partnerEnd n e mkNoFrameEnd).partnerExpire n
  let s2 := s1.modLane n (fun l =>
    { l with partners := l.partners ++ [{ exposure := e, tag := none, stamp := s.now, badLine := s.on Rg.lnBadLine n }] })
  if s.bnd n Rg.lnTagSrc = 0 then s2.partnerPlace n e (some fn) else s2

/-- The held partner frames of a lane with a tag and within the window of a frame start. -/
def State.heldMates (s : State) (n t stamp : Nat) : List PartnerFrame :=
  (s.lane n).partners.filter (fun p => p.tag == some t && p.ordinal.isNone && !p.dropped && s.inWindow n p.stamp stamp)

/-- The tag of exposure 0 is settled: partner frames already held are matched, and without a tag every partner is missing
from stripe 0 (R149). -/
def State.tagKnown (s : State) (n o : Nat) (tag : Option Nat) : State :=
  match s.billet? o with
  | none => s
  | some b =>
    if !orderL b.bind then s
    else
      let es := (List.range (cpGet b.bind Rg.lnExposures)).map (· + 1)
      let s1 := s.modBillet o (fun x => { x with pipe := { x.pipe with tag := tag } })
      match tag with
      | none => s1.each es (fun st e => st.miss o e 0)
      | some t => s1.each es (fun st e =>
          match (st.heldMates n t b.stamp).find? (fun p => p.exposure == e) with
          | some p => st.partnerJoin n { b with pipe := { b.pipe with tag := tag } } p
          | none => st)

/-- The tag of a refused frame is settled: its partners are discarded (R157, R231). -/
def State.tagRefused (s : State) (n stamp frame : Nat) (tag : Option Nat) : State :=
  let s1 := s.modLane n (fun l => { l with refusedTag := some (tag, stamp, frame) })
  match tag with
  | none => s1
  | some t => s1.each (s1.heldMates n t stamp) (fun st p => st.partnerRefuse n frame p)

/-- The tag that a frame's first embedded-data packet gives, if it is long enough (R149). -/
def embeddedTag (off : Nat) (l : List (List Byte)) : Option Nat :=
  match l with
  | [] => none
  | p :: _ => if off + 2 ≤ p.length then some ((p.getD off 0).toNat * 256 + (p.getD (off + 1) 0).toNat) else none

/-! ### Frame starts (R150 to R153, R175) -/

/-- The frame number test of R153: whether the new number is a jump; a 0 is never a jump and is never taken as P. -/
def fnJump (prev : Option Nat) (fn : Nat) : Bool :=
  match prev with
  | none => false
  | some p => fn != 0 && fn != (p + 1) % 65536 && fn != 1

/-- The lane's open capture closes because its next frame starts (R155, R175). -/
def State.closeBefore (s : State) (n : Nat) : State :=
  match (s.lane n).capture with
  | none => s
  | some _ =>
    if isCsi (s.bnd n Rg.lnPort) then (s.bumpSat Rg.lnNoFe n).closeCapture n mkNoFrameEnd else s.closeCapture n 0

/-- What every frame start of a bound lane records (R150, Table Capture.7). -/
def State.stampFrame (s : State) (n fn : Nat) : State :=
  let s1 := ((s.bump Rg.lnFrames n).wr Rg.lnFrameStamp s.now n).wr Rg.lnSensorFn fn n
  let s2 := match (s.lane n).lastFs with
    | some t => s1.wr Rg.lnFrameInt (min (s.now - t) (2 ^ 32 - 1)) n
    | none => s1
  s2.modLane n (fun l => { l with lastFs := some s.now, lastFsPeriod := some s.period, prevFn := if fn = 0 then l.prevFn else some fn })

/-- A frame start of exposure 0 of a bound lane: it closes the previous capture, and in RUN and PROBATION it is latched and
goes to the Door (R151); otherwise it counts in STOPPED. -/
def State.frameStart (s : State) (n fn : Nat) (ecc : Bool) : State :=
  let s0 := (s.stopTie n).closeBefore n
  let jump := s0.on Rg.lnFnCheck n && isCsi (s0.bnd n Rg.lnPort) && fnJump (s0.lane n).prevFn fn
  let s1 := (s0.stampFrame n fn).modLane n (fun l => { l with deaf := false })
  if s1.isRunning n then
    let tag := if s1.bnd n Rg.lnTagSrc = 0 then some fn else none
    let la := s1.latch n tag
    let d := la.1.doorDecide n s1.now la.2
    let s2 := if jump then d.1.bumpSat Rg.lnFnJump n else d.1
    let cap : Capture :=
      { ordinal := d.2, frame := s2.rd Rg.lnFrameNum n, sensorFn := fn,
        mark := (if jump then mkFnJump else 0) ||| (if ecc then mkEccFixed else 0),
        errClass := s2.rd Rg.lnErrClass n, onError := s2.on Rg.lnOnError n, badLine := s2.on Rg.lnBadLine n,
        policy := s2.on Rg.lnPolicy n, probClean := s2.rd Rg.lnProbClean n }
    let s3 := s2.modLane n (fun l => { l with capture := some cap })
    let s4 := match d.2, tag with
      | some o, some t => s3.tagKnown n o (some t)
      | some _, none => s3
      | none, _ => s3.tagRefused n s1.now cap.frame tag
    let s5 := (s4.partnerExpire n).cciFrameStart n
    (s5.reference 2 n s5.now).truncateOnError n
  else
    let s2 := s1.bumpSat Rg.lnStopped n
    if s2.rd Rg.lnState n = 1 then s2.reference 2 n s2.now else s2

/-- FRAME_START: the last byte of a frame-start packet on a virtual channel of a CSI port, with its frame number; or the
first active word of bus line Y0 of the lanes of a parallel port's sub-window (R150). -/
def State.frameArrives (s : State) (p chan fn : Nat) (ecc : Bool) : State :=
  if !s.portLive p then s
  else if isCsi p then
    let s1 := s.header p chan false
    let hs := s1.holders p chan
    let s2 := if ecc then s1.each hs (fun st h =>
        if h.2 = 0 then st.bumpSat Rg.lnEccFixed h.1 else st.markCount h.1 mkEccFixed Rg.lnEccFixed) else s1
    s2.each hs (fun st h =>
      if h.2 = 0 then st.frameStart h.1 fn ecc
      else if st.isRunning h.1 then st.partnerStart h.1 h.2 fn else st)
  else
    let hs := (s.holders p chan).filter (fun h => !(kvGet {} s.ports p).started.contains h.1)
    let s1 := { s with ports := kvMod {} s.ports p (fun x => { x with started := x.started ++ hs.map Prod.fst }) }
    s1.each hs (fun st h => st.frameStart h.1 0 false)

def doFrameStart (p : PortId) (chan : Fin 16) (fn : Fin 65536) (ecc : Bool) (s : State) : State :=
  s.frameArrives p.val chan.val fn.val ecc

/-! ### Lines (R154 to R161) -/

/-- A row as it is stored: completed with copies of its last pixel, or cut at WIDTH (R160). -/
def fitRow (w : Nat) (px : List Nat) : List Nat := px.take w ++ List.replicate (w - px.length) (px.getLastD 0 % 65536)

/-- The pixels of a line; one without pixels has no last pixel to repeat: a free value. -/
def State.linePixels (s : State) (px : List Nat) : State × List Nat :=
  if px = [] then (let f := s.free 16; (f.1, [f.2])) else (s, px.map (· % 65536))

/-- The mark bits of a line with its counters: CRC, SHORT_LINE and LONG_LINE (Table Capture.4). -/
def State.lineCheck (s : State) (n len : Nat) (crcOk : Bool) : State × Nat :=
  let w := s.bnd n Rg.lnWidth
  let s1 := if crcOk then s else s.bumpSat Rg.lnCrcErr n
  let s2 := if len < w then s1.bumpSat Rg.lnShortLine n else if w < len then s1.bumpSat Rg.lnLongLine n else s1
  (s2, (if crcOk then 0 else mkCrc) ||| (if len < w then mkShortLine else if w < len then mkLongLine else 0))

/-- A line that no row takes: a payload that failed its CRC counts, and so does what the line is (R132, R156). -/
def State.lineLost (s : State) (n : Nat) (crcOk : Bool) (f : Fld) : State :=
  (if crcOk then s else s.bumpSat Rg.lnCrcErr n).bumpSat f n

/-- The row that a line gives: a failed one under BAD_LINE is the previous row, or zeros (R160, R161). -/
def rowOf (w : Nat) (prev : List (List Nat)) (bad : Bool) (px : List Nat) : List Nat :=
  if bad then prev.getLastD (List.replicate w 0) else fitRow w px

/-- The first line of a frame whose tag lies in its embedded data settles the tag (R149). -/
def State.firstLine (s : State) (n : Nat) (c : Capture) : State :=
  if s.bnd n Rg.lnTagSrc = 1 ∧ ¬ c.firstLineDone then
    let tag := embeddedTag (s.bnd n Rg.lnTagOffset) c.embedded
    match c.ordinal with
    | some o => s.tagKnown n o tag
    | none => s.tagRefused n (((s.lane n).lastFs).getD s.now) c.frame tag
  else s

/-- A line of the lane's pixel data type on exposure 0. With no capture open it stores nothing and counts in ORPHAN or
DISCARDED, and beyond HEIGHT rows it gives LONG_FRAME (R154, R156, R157). -/
def State.lineIn (s : State) (n : Nat) (px0 : List Nat) (crcOk : Bool) : State :=
  match (s.lane n).capture with
  | none => s.lineLost n crcOk (if (s.lane n).deaf then Rg.lnDiscarded else Rg.lnOrphan)
  | some c =>
    let w := s.bnd n Rg.lnWidth
    let h := s.bnd n Rg.lnHeight
    if h ≤ c.rows then
      ((s.lineLost n crcOk Rg.lnLongFrame).markLane n (mkLongFrame ||| (if crcOk then 0 else mkCrc))).truncateOnError n
    else
      let ck := s.lineCheck n px0.length crcOk
      let px := ck.1.linePixels px0
      let s3 := match c.ordinal with
        | none => px.1
        | some o => px.1.modBillet o (fun b => { b with rows := b.rows ++ [rowOf w b.rows (!crcOk && c.badLine) px.2] })
      let s4 := s3.modLane n (fun l => { l with capture := l.capture.map (fun c =>
        { c with rows := c.rows + 1, lastRow := s.now, mark := c.mark ||| ck.2, firstLineDone := true }) })
      let s6 := (s4.firstLine n c).truncateOnError n
      if !isCsi (s.bnd n Rg.lnPort) && h ≤ c.rows + 1 then s6.closeCapture n 0 else s6

/-- A line of a partner frame whose capture is open: it is checked as one of exposure 0 is, and stored unless the frame is
not; the lines of an exposure that is missing count in PARTNER_LATE and raise E0450 (R157, R161, R162, R230). -/
def State.partnerRow (s : State) (n e : Nat) (q : PartnerFrame) (px0 : List Nat) (crcOk : Bool) : State :=
  let w := s.bnd n Rg.lnWidth
  if s.bnd n Rg.lnHeight ≤ q.count then
    (s.lineLost n crcOk Rg.lnLongFrame).partnerMark n e (mkLongFrame ||| (if crcOk then 0 else mkCrc))
  else
    let ck := s.lineCheck n px0.length crcOk
    let px := ck.1.linePixels px0
    let store := !q.dropped && !q.late
    let s1 := px.1.modPartner n e (fun r =>
      { r with count := r.count + 1, lastRow := s.now, firstLineDone := true,
               rows := if store then r.rows ++ [rowOf w r.rows (!crcOk && q.badLine) px.2] else r.rows })
    let s2 := s1.partnerMark n e ck.2
    if q.late then (s2.bumpSat Rg.lnPartnerLate n).raiseCnt 64 450 n n else s2

/-- A line on exposure 1 or 2: it joins the partner frame in progress, whose tag the first line may settle. -/
def State.partnerLine (s : State) (n e : Nat) (px : List Nat) (crcOk : Bool) : State :=
  match s.partnerIn n e with
  | none => s.lineLost n crcOk (if (s.lane n).deaf then Rg.lnDiscarded else Rg.lnOrphan)
  | some p =>
    let s0 := if !p.firstLineDone && s.bnd n Rg.lnTagSrc == 1 then
        s.partnerPlace n e (embeddedTag (s.bnd n Rg.lnTagOffset) p.embedded) else s
    match s0.partnerIn n e with
    | none => s0
    | some q => s0.partnerRow n e q px crcOk

/-! ### Lines of a parallel bus (R136 to R138, R142, R146) -/

/-- The active words of what a bus line samples: each has the bus's width, and with DE_EN = 0 they begin H_START cycles after
the active edge of HSYNC (R136, R137). -/
def State.busWords (s : State) (p : Nat) (px : List Nat) : List Nat :=
  let k := p - 4
  let own := px.map (· % 2 ^ (s.rd Rg.parWidth k + 1))
  if s.rd Rg.parSync k == 0 && s.rd Rg.parDeEn k == 0 then own.drop (s.rd Rg.parHStart k) else own

/-- The line that arrives is an active one: after a code of active video in embedded-sync mode, and with DE_EN = 0 no
earlier than V_START lines after the VSYNC edge (R137, R138). -/
def State.lineActive (s : State) (p : Nat) : Bool :=
  let x := kvGet {} s.ports p
  let k := p - 4
  if s.rd Rg.parSync k = 1 then x.active
  else s.rd Rg.parDeEn k == 1 || decide (s.rd Rg.parVStart k ≤ x.vLine)

/-- The pixels of a sub-window in the active words of a bus line, as they are stored: chroma in [15:8] and Y in [7:0] for
YUV422, which takes two words a pixel on an 8-bit bus (R142, R146, R148). -/
def State.busPixels (s : State) (n p : Nat) (words : List Nat) : List Nat :=
  let px :=
    if s.bnd n Rg.lnDt = 0x1E then
      if s.rd Rg.parWidth (p - 4) = 7 then
        (List.range (words.length / 2)).map (fun i => words.getD (2 * i) 0 % 256 * 256 + words.getD (2 * i + 1) 0 % 256)
      else words.map (fun w => w % 256 * 256 + w / 256 % 256)
    else words
  (px.drop (s.bnd n Rg.lnX0)).take (s.bnd n Rg.lnWidth)

/-- The next active line of a parallel bus: it is numbered, lanes whose sub-window begins at it have their frame start, and
the running lanes whose sub-window includes it take it with `f` (R137, R146, R150). -/
def State.busLine (s : State) (p : Nat) (f : State → Nat → State) : State :=
  let x := kvGet {} s.ports p
  let line := x.busLine
  let starts := (s.lanesOf p).filter (fun n => s.bnd n Rg.lnY0 == line && !x.started.contains n)
  let s1 := { s with ports := kvMod {} s.ports p (fun y =>
    { y with busLine := line + 1, vLine := y.vLine + 1, started := y.started ++ starts }) }
  let s2 := s1.each starts (fun st n => st.frameStart n 0 false)
  s2.each ((s.lanesAtLine p line).filter s2.isRunning) f

/-- A line that is not active passes. -/
def State.idleLine (s : State) (p : Nat) : State :=
  { s with ports := kvMod {} s.ports p (fun y => { y with vLine := y.vLine + 1 }) }

/-- PIXEL_LINE: on a CSI port a long packet of a pixel data type on a virtual channel, on a parallel port what a bus line
samples. -/
def State.pixelLine (s : State) (p chan dt : Nat) (px : List Nat) (crcOk ecc : Bool) : State :=
  if !s.portLive p then s
  else if isCsi p then
    let s1 := s.header p chan ecc
    s1.each (s1.holders p chan) (fun st h =>
      if !st.isRunning h.1 then (if crcOk then st else st.bumpSat Rg.lnCrcErr h.1)
      else if st.bnd h.1 Rg.lnDt ≠ dt then
        (if crcOk then st else st.markCount h.1 mkCrc Rg.lnCrcErr).markCount h.1 mkDtMismatch Rg.lnDtMismatch
      else if h.2 = 0 then st.lineIn h.1 px crcOk else st.partnerLine h.1 h.2 px crcOk)
  else if s.lineActive p then s.busLine p (fun st n => st.lineIn n (st.busPixels n p (st.busWords p px)) true)
  else s.idleLine p

def doPixelLine (p : PortId) (chan : Fin 16) (dt : Fin 64) (px : List (BitVec 16)) (crcOk ecc : Bool) (s : State) : State :=
  s.pixelLine p.val chan.val dt.val (px.map BitVec.toNat) crcOk ecc

/-- Lines that a lane loses to an overflow count for it, and its open capture gets OVERFLOW (R178). -/
def State.laneOverflow (s : State) (n lines : Nat) : State :=
  ((s.addSat Rg.lnOverflow lines n).markLane n mkOverflow).truncateOnError n

/-- PORT_OVERFLOW: whole lines are discarded and counted by the port and by their lanes: the lane of a CSI port, or every lane
whose sub-window includes the bus line, which keeps its number (R178). -/
def State.portOverflow (s : State) (p n lines : Nat) : State :=
  let s1 := (s.addSat Rg.portOverflow lines p).raise (344 + p) p lines
  if isCsi p then (if s1.isBound n && s1.bnd n Rg.lnPort == p then s1.laneOverflow n lines else s1)
  else s1.each (List.range lines) (fun st _ => st.busLine p (fun t k => t.laneOverflow k 1))

def doPortOverflow (p : PortId) (n : LaneId) (lines : Nat) (s : State) : State :=
  if s.portLive p.val && 0 < lines then s.portOverflow p.val n.val lines else s

/-- FRAME_END: a frame-end packet on a virtual channel (R155). -/
def doFrameEnd (p : PortId) (vc : Fin 16) (ecc : Bool) (s : State) : State :=
  if s.portLive p.val && isCsi p.val then
    let s1 := s.header p.val vc.val ecc
    s1.each (s1.takers p.val vc.val) (fun st h => if h.2 = 0 then st.frameEnd0 h.1 else st.partnerEnd h.1 h.2 0)
  else s

/-- USER_DEFINED_PACKET: a packet of type 0x30 to 0x37 goes to the pass-through streams of an accepted frame (R133,
R264). -/
def doUserDefinedPacket (p : PortId) (vc : Fin 16) (t : Fin 8) (crcOk ecc : Bool) (bytes : List Byte) (s : State) : State :=
  if s.portLive p.val && isCsi p.val then
    let s1 := (s.header p.val vc.val ecc).payload p.val vc.val crcOk
    s1.each (s1.takers p.val vc.val) (fun st h =>
      match (st.lane h.1).capture with
      | some c => (match c.ordinal with
        | some o => st.passPacket o h.1 (0x30 + t.val) bytes
        | none => st)
      | none => st)
  else s

/-- ESCAPE_ENTRY: escape-mode entry on D-PHY data lane 0 of a CSI port: LP reads 1 until a packet header arrives, and under
WAKE_EN it gives WAKE_SEEN, E0352 + p, and a wake source (R135, Table Capture.7). -/
def doEscapeEntry (p : Fin 4) (s : State) : State :=
  let s0 := if s.domainServes 0 then s.wr Rg.portLp 1 p else s
  if s.on Rg.csiWakeEn p.val then
    let s1 := if s.domainServes 0 then s0.wr Rg.portWakeSeen 1 p else s0
    (s1.raise (352 + p.val) p.val 0).wakeEvent (1 + p.val)
  else s0

end Sys2Proof.Machine
end

