-- ==== Sys2Proof/Machine/Vision.lean ====
section
/-! DEFINITION. What the decode view of a Billet shows of a candidate: its contrast, its corners' geometry, the bands of its
quiet zone, and the samples of a Slate tag (R281 to R284, R297, R301, R326, R327). -/
namespace Sys2Proof.Machine

/-! ### Pixels -/

/-- The decode-view value of a frame pixel, if the view holds it (R266). -/
def Billet.viewAt (b : Billet) (x y : Int) : Option Nat :=
  let v := viewRect b.bind
  planeAt b.pipe.view (x - v.1) (y - v.2.1)

/-- Side i of a quadrilateral: from corner i to the next. -/
def Found.side (c : Found) (i : Nat) : Pt × Pt := (c.corners.getD i ⟨0, 0⟩, c.corners.getD ((i + 1) % 4) ⟨0, 0⟩)

/-- Which way the corners turn: 1 as R301 orders them, −1 for the other way. -/
def Found.turn (c : Found) : Int :=
  if ((List.range 4).map (fun i => (c.side i).1.x * (c.side i).2.y - (c.side i).2.x * (c.side i).1.y)).sum < 0 then -1 else 1

/-- How far a point lies outside side i, times the side's length. -/
def Found.outside (c : Found) (i : Nat) (x y : Int) : Int :=
  let e := c.side i
  c.turn * ((x - e.1.x) * (e.2.y - e.1.y) - (y - e.1.y) * (e.2.x - e.1.x))

/-- Squared length of side i. -/
def Found.len2 (c : Found) (i : Nat) : Int :=
  let e := c.side i
  (e.2.x - e.1.x) ^ 2 + (e.2.y - e.1.y) ^ 2

/-- The centre of a pixel, in 1/16 px, lies in the quadrilateral (R301). -/
def Found.holds (c : Found) (x y : Nat) : Bool := (List.range 4).all (fun i => decide (c.outside i (16 * x + 8) (16 * y + 8) ≤ 0))

/-- The pixel's centre lies in the band of width `w`, in 1/1600 px, along side i. -/
def Found.bandHolds (c : Found) (i w : Nat) (x y : Nat) : Bool :=
  let e := c.side i
  let d := c.outside i (16 * x + 8) (16 * y + 8)
  let t := (16 * x + 8 - e.1.x) * (e.2.x - e.1.x) + (16 * y + 8 - e.1.y) * (e.2.y - e.1.y)
  decide (0 ≤ d) && decide ((100 * d) ^ 2 ≤ (w : Int) ^ 2 * c.len2 i) && decide (0 ≤ t) && decide (t ≤ c.len2 i)

/-- The decode-view values of the pixels that a test picks. -/
def Billet.valuesWhere (b : Billet) (p : Nat → Nat → Bool) : List Nat :=
  let v := viewRect b.bind
  (b.pipe.view.zipIdx.map (fun r => (r.1.zipIdx.filter (fun q => p (v.1 + q.2) (v.2.1 + r.2))).map Prod.fst)).flatten

/-- A percentile by nearest rank: DESIGN CHOICE, log entry 119. -/
def percentile (p : Nat) (l : List Nat) : Nat :=
  (l.mergeSort (fun a b => decide (a ≤ b))).getD ((l.length * p + 99) / 100 - 1) 0

/-- Symbol contrast SC (R282). -/
def Billet.contrastOf (b : Billet) (c : Found) : Nat :=
  let l := b.valuesWhere c.holds
  percentile 90 l - percentile 10 l

/-! ### Geometry of the corners -/

/-- The corner angles lie between θ and 180° − θ, where cos² θ is `k` / 10^30. -/
def Found.anglesWithin (c : Found) (k : Nat) : Bool :=
  (List.range 4).all (fun i =>
    let p := c.corners.getD i ⟨0, 0⟩
    let a := c.corners.getD ((i + 1) % 4) ⟨0, 0⟩
    let z := c.corners.getD ((i + 3) % 4) ⟨0, 0⟩
    let dot := (a.x - p.x) * (z.x - p.x) + (a.y - p.y) * (z.y - p.y)
    decide (dot ^ 2 * (10 ^ 30 : Int) ≤ (k : Int) * (c.len2 i * c.len2 ((i + 3) % 4))))

/-- cos² 65° and cos² 85°, to thirty places. -/
def cosSq65 : Nat := 178606195156730336838678295046

def cosSq85 : Nat := 7596123493895970316628487705

/-- Opposite sides differ by at most a factor of 1.5 (Table Decode.1). -/
def Found.sidesAlike (c : Found) : Bool :=
  (List.range 2).all (fun i => decide (4 * c.len2 i ≤ 9 * c.len2 (i + 2)) && decide (4 * c.len2 (i + 2) ≤ 9 * c.len2 i))

/-- a ≥ r √n, for whole numbers. -/
def geRoot (a r n : Int) : Bool := if 0 ≤ a then decide (r ≤ 0) || decide (r ^ 2 * n ≤ a ^ 2) else decide (r < 0) && decide (a ^ 2 ≤ r ^ 2 * n)

/-- The band of width `w`, in 1/1600 px, along side i stays in the decode view: both far corners do (R283). -/
def Found.bandInView (c : Found) (v : Nat × Nat × Nat × Nat) (i w : Nat) : Bool :=
  let e := c.side i
  let nx := c.turn * (e.2.y - e.1.y) * w
  let ny := -(c.turn * (e.2.x - e.1.x) * w)
  let n := c.len2 i
  [e.1, e.2].all (fun p =>
    geRoot nx (100 * (16 * v.1 - p.x)) n && geRoot (-nx) (100 * (p.x - 16 * (v.1 + v.2.2.1))) n &&
    geRoot ny (100 * (16 * v.2.1 - p.y)) n && geRoot (-ny) (100 * (p.y - 16 * (v.2.1 + v.2.2.2))) n)

/-- First and last frame row that the quadrilateral touches. -/
def Found.rowsOf (c : Found) : Nat × Nat :=
  let ys := c.corners.map (fun p => p.y.toNat)
  ((ys.foldl min (ys.headD 0)) / 16, (ys.foldl max 0 + 15) / 16 - 1)

/-- It spans more than one stripe of height h (FLAGS.SPANNED). -/
def Found.spans (c : Found) (h : Nat) : Bool := c.rowsOf.1 / h != c.rowsOf.2 / h

/-! ### Quiet zone (R283, Table Decode.2) -/

/-- Required quiet zone, in 1/100 module: the sides of the quadrilateral and their widths; by record code within EAN/UPC. The
ends of a linear or stacked symbol are its left and right sides. -/
def quietZone (family code : Nat) : List (Nat × Nat) :=
  let ends := fun a z => [(3, a), (1, z)]
  let all := fun a => (List.range 4).map (fun i => (i, a))
  match family with
  | 0 | 1 | 3 | 5 => ends 1000 1000
  | 2 => if code = 4 then ends 1100 700 else if code = 5 then ends 700 700 else ends 900 900
  | 4 => ends 100 100
  | 6 => all 400
  | 7 => all 200
  | 8 => all 100
  | 9 => ends 200 200
  | 10 => ends 100 100
  | 12 | 13 => all 200
  | _ => []

/-- The scale of QZ_REQ in percent (R283). -/
def quietScale (req : Nat) : Nat := if req = 0 then 100 else if req = 1 then 50 else if req = 2 then 25 else 0

/-- The quiet zone is quiet: no edge of SC / 2 lies in a band, and a part outside the view counts as QZ_EDGE says (R283). -/
def Found.quietOk (c : Found) (v : Nat × Nat × Nat × Nat) (req edge : Nat) : Bool :=
  ((quietZone c.family c.code).zipIdx).all (fun p =>
    let need := p.1.2 * quietScale req / 100
    decide (need ≤ c.quiet.getD p.2 0) && (edge == 1 || c.bandInView v p.1.1 (need * c.moduleSize)))

/-- The frame row whose processing closes the candidate: that of its lowest extent plus the required quiet zone of its sides
that face down, clipped to the decode view (R286). The zone is laid straight down: DESIGN CHOICE, log entry 119. -/
def Found.closeRow (c : Found) (v : Nat × Nat × Nat × Nat) (req : Nat) : Nat :=
  let down := (quietZone c.family c.code).filter (fun p => decide (c.turn * ((c.side p.1).2.x - (c.side p.1).1.x) < 0))
  let w := (down.map (fun p => p.2 * quietScale req / 100)).foldl max 0 * c.moduleSize
  let low := (c.corners.map (fun p => p.y.toNat)).foldl max 0
  min (v.2.1 + v.2.2.2 - 1) ((100 * low + w + 1599) / 1600 - 1)

/-- A decode-view value inside the symbol or its quiet zone is 0 or 255 (R297). -/
def Billet.clippedAt (b : Billet) (c : Found) : Bool :=
  let zone := quietZone c.family c.code
  (b.valuesWhere (fun x y => c.holds x y || zone.any (fun p => c.bandHolds p.1 (p.2 * c.moduleSize) x y))).any (fun v =>
    v == 0 || v == 255)

/-! ### The grid of a Slate tag (R327) -/

/-- The point of the quadrilateral at module coordinates (u, w) in halves of a module on a grid of n, through the perspective
mapping of its corners: x, y and their divisor. -/
def Found.mapped (c : Found) (n : Nat) (u w : Int) : Int × Int × Int :=
  let p := fun i => c.corners.getD i ⟨0, 0⟩
  let sx := (p 0).x - (p 1).x + (p 2).x - (p 3).x
  let sy := (p 0).y - (p 1).y + (p 2).y - (p 3).y
  let ax := (p 1).x - (p 2).x
  let ay := (p 1).y - (p 2).y
  let bx := (p 3).x - (p 2).x
  let b_y := (p 3).y - (p 2).y
  let d := ax * b_y - bx * ay
  let g := sx * b_y - bx * sy
  let h := ax * sy - sx * ay
  let z : Int := 2 * n
  ((((p 1).x - (p 0).x) * d + g * (p 1).x) * u + (((p 3).x - (p 0).x) * d + h * (p 3).x) * w + (p 0).x * d * z,
   (((p 1).y - (p 0).y) * d + g * (p 1).y) * u + (((p 3).y - (p 0).y) * d + h * (p 3).y) * w + (p 0).y * d * z,
   g * u + h * w + d * z)

/-- The decode-view value at the centre of module (r, k), which may lie in the quiet zone. -/
def Billet.sampleAt (b : Billet) (c : Found) (n : Nat) (r k : Int) : Option Nat :=
  let m := c.mapped n (2 * k + 1) (2 * r + 1)
  let s : Int := if m.2.2 < 0 then -1 else 1
  b.viewAt ((s * m.1) / (16 * (s * m.2.2))) ((s * m.2.1) / (16 * (s * m.2.2)))

/-- What a core samples of a Slate candidate: every module, and the modules of the 2-module quiet zone that lie in the view. A
zone wholly outside the view has no stated mean: a free value (R319, R327). -/
def Billet.slateView (b : Billet) (c : Found) : SlateView :=
  let n := slateN (c.family == 13)
  let grid := fun (m : Nat) => ((List.range m).map (fun r => (List.range m).map (fun k => (r, k)))).flatten
  let zone := (grid (n + 4)).filter (fun m => !(decide (2 ≤ m.1) && decide (m.1 < n + 2) && decide (2 ≤ m.2) && decide (m.2 < n + 2)))
  let quiet := zone.filterMap (fun m => b.sampleAt c n ((m.1 : Int) - 2) ((m.2 : Int) - 2))
  { samples := (grid n).map (fun m => (b.sampleAt c n m.1 m.2).getD 0),
    quiet := if quiet.isEmpty then [Config.emptyMean.toNat] else quiet }

/-- The four corner regions of a Slate candidate are dark 3 × 3 blocks, but for the light centre of one: at least 8 of 9
modules lie on the dark side of the mean of the ears' mean and the quiet zone's (R317, R326). DESIGN CHOICE, log entry
119. -/
def Billet.slateSeen (b : Billet) (c : Found) : Bool :=
  let n := slateN (c.family == 13)
  let v := b.slateView c
  let ears := [(0, 0), (0, n - 3), (n - 3, 0), (n - 3, n - 3)].map (fun o =>
    ((List.range 3).map (fun i => (List.range 3).map (fun k => v.samples.getD ((o.1 + i) * n + (o.2 + k)) 0))).flatten)
  let all := ears.flatten
  let t := all.sum * v.quiet.length + v.quiet.sum * all.length
  let k := 2 * all.length * v.quiet.length
  ears.all (fun e => decide (8 ≤ (e.filter (fun x => if c.inverted then decide (t < x * k) else decide (x * k < t))).length))

end Sys2Proof.Machine
end

