-- ==== Sys2Proof/Machine/Finder.lean ====
section
/-! DEFINITION. The Finders: which stripe job runs, which candidates are reported, and how they are numbered (R277 to R289,
R308 to R310, Tables Decode.1 and Decode.2). -/
namespace Sys2Proof.Machine

/-! ### Limits of Table Decode.1 -/

/-- A linear family (bits 0 to 5). -/
def isLinear (f : Nat) : Bool := decide (f < 6)

/-- PDF417 and MicroPDF417 (bits 9 and 10). -/
def isStacked (f : Nat) : Bool := f == 9 || f == 10

/-- Module size within limits: 1.5 to 20 px, or 2 to 40 px for a matrix family. -/
def Found.sizeOk (c : Found) : Bool :=
  if isLinear c.family || isStacked c.family then decide (24 ≤ c.moduleSize) && decide (c.moduleSize ≤ 320)
  else decide (32 ≤ c.moduleSize) && decide (c.moduleSize ≤ 640)

/-- Bar or row height. -/
def Found.heightOk (c : Found) : Bool :=
  if isLinear c.family then decide (max 160 (5 * c.moduleSize) ≤ c.barHeight)
  else if isStacked c.family then decide (max 64 (3 * c.moduleSize) ≤ c.barHeight)
  else true

/-- Skew and perspective. -/
def Found.skewOk (c : Found) : Bool :=
  if isLinear c.family then decide (c.skew ≤ 640) && decide (c.ratio ≤ 160)
  else c.anglesWithin cosSq65 && c.sidesAlike

/-- Blur: at most 1.2 X, or 1.0 module for a matrix family. -/
def Found.blurOk (c : Found) : Bool :=
  if isLinear c.family || isStacked c.family then decide (10 * c.blur ≤ 12 * c.moduleSize) else decide (c.blur ≤ c.moduleSize)

/-- Contrast; a CONTRAST_MIN of 0 is taken as 1. -/
def Found.contrastOk (c : Found) (sc cm : Nat) : Bool :=
  decide (max 1 cm ≤ sc) && decide (max 1 cm ≤ 2 * c.minEdge)

/-- Least and largest of a list of coordinates. -/
def minOf (l : List Int) : Int := l.foldl min (l.headD 0)

def maxOf (l : List Int) : Int := l.foldl max (l.headD 0)

/-- The quadrilateral lies inside the decode view and extends at most 2,048 px each way (R266, R310). -/
def Found.extentOk (c : Found) (v : Nat × Nat × Nat × Nat) : Bool :=
  let xs := c.corners.map Pt.x
  let ys := c.corners.map Pt.y
  c.corners.length == 4 &&
  decide ((16 * v.1 : Nat) ≤ minOf xs) && decide (maxOf xs ≤ (16 * (v.1 + v.2.2.1) : Nat)) &&
  decide ((16 * v.2.1 : Nat) ≤ minOf ys) && decide (maxOf ys ≤ (16 * (v.2.1 + v.2.2.2) : Nat)) &&
  decide (maxOf xs - minOf xs ≤ 32768) && decide (maxOf ys - minOf ys ≤ 32768)

/-- The record codes of a family (Table Decode.2). -/
def familyCodes (f : Nat) : List Nat :=
  [[0x01, 0x02], [0x03], [0x04, 0x05, 0x06, 0x07], [0x08], [0x09, 0x0A, 0x0B, 0x0C, 0x0D], [0x0E], [0x10], [0x11], [0x12, 0x13],
   [0x14], [0x15], [0x16, 0x17, 0x18], [0x20], [0x21]].getD f []

/-- The structure of the family is seen: for a Slate tag its four ears too (R284, R326). -/
def Billet.structureSeen (b : Billet) (c : Found) : Bool :=
  c.structureOk && (decide (c.family < 12) || b.slateSeen c)

/-- POLARITY admits the candidate; 0b11 is taken as 2 (R281). -/
def Found.polarityOk (c : Found) (pol : Nat) : Bool := decide (2 ≤ pol) || (pol == 1) == c.inverted

/-- The Finder reports the candidate (R281, R282, R284). -/
def Found.reported (c : Found) (b : Billet) : Bool :=
  decide (c.family < 14) && (familyCodes c.family).contains c.code && (cpGet b.bind Rg.lnSymEn).testBit c.family && c.polarityOk (cpGet b.ws Rg.lnPolarity) &&
  c.sizeOk && c.heightOk && c.skewOk && c.blurOk && c.contrastOk (b.contrastOf c) (cpGet b.ws Rg.lnContrastMin) &&
  c.extentOk (viewRect b.bind) && b.structureSeen c &&
  c.quietOk (viewRect b.bind) (cpGet b.ws Rg.lnQzReq) (cpGet b.ws Rg.lnQzEdge)

/-! ### Overlap (R285) -/

/-- Twice the signed area of a polygon. -/
def area2 (l : List (Rat × Rat)) : Rat :=
  ((l.zip (l.drop 1 ++ l.take 1)).map (fun (e : (Rat × Rat) × (Rat × Rat)) => e.1.1 * e.2.2 - e.2.1 * e.1.2)).sum

/-- The corners of a candidate as a polygon of positive area. -/
def Found.polygon (c : Found) : List (Rat × Rat) :=
  let l := c.corners.map (fun p => ((p.x : Rat), (p.y : Rat)))
  if area2 l < 0 then l.reverse else l

/-- Which side of the line from `a` to `b` a point lies on. -/
def sideOf (a b p : Rat × Rat) : Rat := (b.1 - a.1) * (p.2 - a.2) - (b.2 - a.2) * (p.1 - a.1)

/-- The point at which the segment from `p` to `q` meets the line from `a` to `b`. -/
def meetAt (a b p q : Rat × Rat) : Rat × Rat :=
  let u := sideOf a b p
  let v := sideOf a b q
  let t := u / (u - v)
  (p.1 + t * (q.1 - p.1), p.2 + t * (q.2 - p.2))

/-- Clip a polygon to one side of a line. -/
def clipSide (a b : Rat × Rat) (l : List (Rat × Rat)) : List (Rat × Rat) :=
  ((l.zip (l.drop 1 ++ l.take 1)).map (fun (e : (Rat × Rat) × (Rat × Rat)) =>
    let inP := decide (0 ≤ sideOf a b e.1)
    let inQ := decide (0 ≤ sideOf a b e.2)
    (if inP then [e.1] else []) ++ (if inP != inQ then [meetAt a b e.1 e.2] else []))).flatten

/-- Twice the area that two candidates share. -/
def shared2 (c d : Found) : Rat :=
  let q := d.polygon
  area2 ((q.zip (q.drop 1 ++ q.take 1)).foldl (fun l (e : (Rat × Rat) × (Rat × Rat)) => clipSide e.1 e.2 l) c.polygon)

/-- Two candidates overlap by more than half of the smaller one's area. -/
def overlapping (c d : Found) : Bool :=
  decide (min (area2 c.polygon) (area2 d.polygon) < 2 * shared2 c d)

/-- `c` is kept rather than `d`: the lower family bit, then the one that opened first. -/
def keptFirst (c d : Found) : Bool :=
  decide (c.family < d.family) || (c.family == d.family && decide (c.opened ≤ d.opened))

/-- Of overlapping candidates one is kept. -/
def dedupe (old : List Found) (l : List Found) : List Found :=
  (l.mergeSort keptFirst).foldl (fun acc c => if (old ++ acc).any (overlapping c) then acc else acc ++ [c]) []

/-- The order in which candidates of one job are numbered (R287). -/
def numberedBefore (c d : Found) : Bool :=
  let yc := maxOf (c.corners.map Pt.y)
  let yd := maxOf (d.corners.map Pt.y)
  let xc := minOf (c.corners.map Pt.x)
  let xd := minOf (d.corners.map Pt.x)
  decide (yc < yd) || (yc == yd && (decide (xc < xd) || (xc == xd && decide (c.family ≤ d.family))))

/-! ### Jobs -/

/-- One Anvil beside its registers. -/
def State.anvil (s : State) (a : Nat) : AnvilSt := kvGet {} s.anvils a

def State.modAnvil (s : State) (a : Nat) (f : AnvilSt → AnvilSt) : State := { s with anvils := kvMod {} s.anvils a f }

/-- The Billet has Finder jobs left: it was not reset, lost no data, and has stripes to come. -/
def Billet.finderOpen (b : Billet) : Bool := !b.reset && !b.dataLost && (b.captureOpen || decide (b.finderNext < b.stripesOwed))

/-- Candidate tracks an Anvil holds open (R289). -/
def State.openHeld (s : State) (a : Nat) : Nat :=
  ((s.billets.filter (fun b => b.lane != 0xFF && b.anvil == a && b.finderOpen)).map Billet.openCands).sum

/-- A Finder job of a Billet is ready (R278). -/
def State.finderReady (s : State) (a : Nat) (b : Billet) : Bool :=
  b.lane != 0xFF && b.anvil == a && !b.waitReturn && b.finderBusy.isNone && !b.reset && !b.dataLost &&
    decide (b.finderNext < b.pipe.done) && s.anvilUsable a

/-- A corrected SRAM error is counted and reported (R308). -/
def State.sramCorrected (s : State) (a : Nat) : State := (s.bumpSat Rg.anvSramCorr a).raiseCnt 64 530 a a

def doSramCorrected (a : Fin 8) (s : State) : State :=
  if s.domainServes (anvilDomain a.val) then s.sramCorrected a.val else s

/-- An SRAM read of an Anvil meets an armed injection (Table Events.2). -/
def State.sramRead (s : State) (a : Nat) : State :=
  let t := s.takeArmed 530 a
  if t.2 then t.1.sramCorrected a else t.1

/-- FINDER_JOB_START: an idle Finder starts the ready job with the highest priority, to completion (R278). -/
def State.finderStart (s : State) (a : Nat) : State :=
  if (s.anvil a).job.isSome || !s.working || !s.anvilUsable a then s
  else
    match s.pickJob .finder Billet.finderNext (s.billets.filter (s.finderReady a)) with
    | none => s
    | some b =>
      let s1 := (s.sramRead a).modAnvil a (fun x => { x with job := some (b.ordinal, b.finderNext) })
      (s1.modBillet b.ordinal (fun x => { x with finderBusy := some b.finderNext })).jobStage .finder b.ordinal b.finderNext
        .running

def doFinderJobStart (a : Fin 8) (s : State) : State := s.finderStart a.val

/-- A candidate is released with the next number; one that a recomputation finds again is decoded again only if it was
resolved (R118, R287). -/
def Billet.release (b : Billet) (c : Found) : Billet :=
  match b.refound with
  | none => { b with cands := b.cands ++ [{ num := b.cands.length, found := c }] }
  | some k =>
    if k < b.cands.length then
      { b with refound := some (k + 1), cands := b.cands.map (fun x =>
          if x.num = k ∧ x.stage = .resolved then { x with stage := .queued, again := true } else x) }
    else { b with refound := some (k + 1), cands := b.cands ++ [{ num := b.cands.length, found := c }] }

/-- Candidates that the Finder has released so far in its present pass. -/
def Billet.releasedNow (b : Billet) : Nat := b.refound.getD b.cands.length

/-- A candidate closes: it is counted, and released or extra (R286, R288). -/
def State.closeCand (s : State) (o : Nat) (c : Found) : State :=
  match s.billet? o with
  | none => s
  | some b =>
    let first := decide (b.seen ≤ b.closed)
    let s1 := if first then s.bumpSat Rg.lnCand b.lane else s
    if b.releasedNow < b.maxSym then
      s1.modBillet o (fun x => { x.release c with closed := x.closed + 1 })
    else
      let s2 := s1.modBillet o (fun x => { x with closed := x.closed + 1, extra := x.extra + 1, extras := x.extras ++ [c] })
      if first then (s2.bumpSat Rg.lnCandExtra b.lane).raiseCnt 64 528 b.lane b.lane else s2

/-- Tracks beyond 256 are not opened (R289). -/
def State.openLimit (s : State) (a o lost : Nat) : State :=
  if lost = 0 then s
  else ((s.addSat Rg.anvOpenLimit lost a).modBillet o (fun x => { x with candLost := true })).raise 529 a lost

/-- The stripe holds the last line of the decode view. -/
def viewEnds (b : Kv Nat) (j : Nat) : Bool :=
  let v := viewRect b
  decide (v.2.1 + v.2.2.2 ≤ (j + 1) * stripeHeight b)

/-- A reply whose epoch is not the current one is discarded: it counts, with E0035 (R727). -/
def State.staleReply (s : State) (u : Nat) : State := (s.bumpSat Rg.evtStaleReplies).raiseLim 64 35 0 u 0

/-- The stripe that closes a candidate is the one whose rows hold its closing row (R286). -/
def Billet.closesIn (b : Billet) (j : Nat) (c : Found) : Bool :=
  let r := c.closeRow (viewRect b.bind) (cpGet b.ws Rg.lnQzReq)
  decide ((b.stripeRows j).1 ≤ r) && decide (r < (b.stripeRows j).2)

/-- A candidate whose closing row is still to come stays open (R286). -/
def Billet.staysOpen (b : Billet) (j : Nat) (c : Found) : Bool :=
  decide ((b.stripeRows j).2 ≤ c.closeRow (viewRect b.bind) (cpGet b.ws Rg.lnQzReq))

/-- FINDER_JOB_DONE: the job ends; its closed candidates are released in order. `found` are the candidates that it saw whole,
`left` the other tracks that stay open, `refused` the tracks that were not opened because 256 were open, `epoch` that of the
reply (R118, R286 to R289). -/
def State.finderDone (s : State) (a epoch cycles left refused : Nat) (found : List Found) : State :=
  if epoch != s.rd Rg.anvEpoch a then s.staleReply a
  else match (s.anvil a).job with
    | none => s
    | some (o, j) =>
      let s0 := s.modAnvil a (fun x => { x with job := none })
      match s0.billet? o with
      | none => s0
      | some b =>
        let s1 := (s0.wr Rg.anvFinderCycles (s0.rd Rg.anvFinderCycles a + min cycles (finderCost b.bind j)) a).jobStage
          .finder o j .done
        let others := s1.openHeld a - (if b.finderOpen then b.openCands else 0)
        let want := if viewEnds b.bind j then 0 else left + (found.filter (b.staysOpen j)).length
        let keep := min want (256 - others)
        let earlier := (b.cands.take b.releasedNow).map Cand.found ++ b.extras
        let list := (dedupe earlier (found.filter (fun c => b.closesIn j c && c.reported b))).mergeSort numberedBefore
        let s2 := (s1.modBillet o (fun x =>
          { x with finderBusy := none, finderNext := j + 1, openCands := keep })).openLimit a o (want - keep + refused)
        let s3 := s2.each list (fun st c => st.closeCand o c)
        (s3.wr Rg.anvOpen (s3.openHeld a) a).tryEnd o

def doFinderJobDone (a : Fin 8) (epoch cycles : Nat) (tracks : OpenTracks) (found : List Found) (s : State) : State :=
  s.finderDone a.val epoch cycles tracks.left tracks.refused found

end Sys2Proof.Machine
end

