-- ==== Sys2Proof/Machine/Gs1.lean ====
section
/-! DEFINITION. GS1 element strings (R294, R295). -/
namespace Sys2Proof.Machine

/-- What the engine knows of one AI. -/
structure AiInfo where
  varies : Bool
  len : Nat
  date : Bool
  deriving DecidableEq, Repr

/-- One element string: AI digits, AI value, offset and length of the value. -/
structure Element where
  digits : Nat
  ai : Nat
  offset : Nat
  len : Nat
  deriving DecidableEq, Repr

/-- The byte 0x1D that delivers an FNC1 separator. -/
def groupSep : Nat := 0x1D

/-- Value of decimal digits; none if a byte is no digit. -/
def digitsVal (l : List Nat) : Option Nat :=
  l.foldl (fun acc c => match acc with
    | some v => if 48 ≤ c ∧ c ≤ 57 then some (10 * v + (c - 48)) else none
    | none => none) (some 0)

/-- A valid user entry takes precedence over the built-in table (R294). -/
def State.aiInfo (s : State) (digits ai : Nat) : Option AiInfo :=
  let w := Config.gs1Builtin digits ai
  match (List.range 16).find? (fun i => s.on Rg.gs1Valid i && s.rd Rg.gs1Digits i + 2 == digits && s.rd Rg.gs1Ai i == ai) with
  | some i => some { varies := s.on Rg.gs1Variable i, len := s.rd Rg.gs1Len i, date := w.getLsbD 11 && w.getLsbD 10 }
  | none => if w.getLsbD 11 then some { varies := w.getLsbD 9, len := w.toNat % 512, date := w.getLsbD 10 } else none

/-- The AI at the start of the data: its digits, its value and what is known of it; the shortest one known. -/
def State.aiAt (s : State) (l : List Nat) : Option (Nat × Nat × AiInfo) :=
  [2, 3, 4].findSome? (fun n =>
    if l.length < n then none
    else match digitsVal (l.take n) with
      | none => none
      | some v => (s.aiInfo n v).map (fun i => (n, v, i)))

/-- The modulo 10 check digit with weights 3 and 1 from the right (the GS1 General Specifications; PRESUMED, log entry 31). -/
def gs1CheckOk (l : List Nat) : Bool :=
  match digitsVal l with
  | none => false
  | some _ =>
    let r := l.reverse.zipIdx.map (fun p => (p.1 - 48) * (if p.2 % 2 = 1 then 3 else 1))
    decide (r.sum % 10 = 0)

/-- AIs whose value ends in a check digit (R294). -/
def checkedAi (digits ai : Nat) : Bool :=
  (digits == 2 && decide (ai ≤ 2)) || (digits == 3 && decide (410 ≤ ai) && decide (ai ≤ 415))

/-- The value of an element: its length, or a violation (R294). -/
def valueLen (i : AiInfo) (l : List Nat) : Option Nat :=
  if i.varies then
    let n := (l.takeWhile (fun c => c != groupSep)).length
    if 1 ≤ n ∧ n ≤ i.len then some n else none
  else if i.len ≤ l.length ∧ !(l.take i.len).contains groupSep then some i.len else none

/-- Parse element strings from offset `pos` on; none on an unknown AI, a length violation or a failed check. -/
def State.gs1Parse (s : State) : Nat → Nat → List Nat → Option (List Element)
  | 0, _, _ => none
  | _, _, [] => some []
  | fuel + 1, pos, l =>
    match s.aiAt l with
    | none => none
    | some (n, v, i) =>
      let rest := l.drop n
      match valueLen i rest with
      | none => none
      | some k =>
        let val := rest.take k
        let okDate := !i.date || (k == 6 && (digitsVal val).isSome)
        if (checkedAi n v && !gs1CheckOk val) || !okDate then none
        else
          let tail := rest.drop k
          let sep := if tail.head? = some groupSep then 1 else 0
          (s.gs1Parse fuel (pos + n + k + sep) (tail.drop sep)).map
            (fun es => { digits := n, ai := v, offset := pos + n, len := k } :: es)

/-- The 6 bytes of an element entry (Table Decode.7). -/
def Element.bytes (e : Element) : List Byte :=
  leBytes 1 e.digits ++ leBytes 2 e.ai ++ leBytes 2 e.offset ++ leBytes 1 (sat8 e.len)

end Sys2Proof.Machine
end

