-- ==== Sys2Proof/Machine/Decoding.lean ====
section
/-! DEFINITION. The decoder cores: dispatch, the outcome of an attempt, grading, and the SYMBOL record (R279, R280, R290 to
R303, R306, R330). -/
namespace Sys2Proof.Machine

/-! ### The queue of released candidates (R279) -/

/-- A released candidate that waits, with its place in the order: front first, then those whose decode job stands in this
Period's row or an earlier one (R48), then deadline, Door ordinal, number. -/
structure Waiting where
  front : Nat
  later : Nat
  deadline : Nat
  ordinal : Nat
  num : Nat
  deriving DecidableEq, Repr

/-- The candidates that wait. -/
def State.waiting (s : State) : List Waiting :=
  ((s.billets.map (fun b => (b.cands.filter (fun c => c.stage == .queued)).map (fun c =>
    { front := b2n (!c.front), later := (s.priority .decode b 0).1, deadline := b.deadline, ordinal := b.ordinal, num := c.num }))).flatten)

def Waiting.before (a b : Waiting) : Bool :=
  decide (a.front < b.front) || (a.front == b.front && (decide (a.later < b.later) || (a.later == b.later &&
    lexLt (a.deadline, a.ordinal, a.num) (b.deadline, b.ordinal, b.num))))

/-- The candidate at the head of the queue. -/
def State.headWaiting (s : State) : Option Waiting :=
  s.waiting.foldl (fun best w => match best with
    | none => some w
    | some b => if w.before b then some w else best) none

/-- The first idle core of an unfenced Anvil: lowest Anvil, then lowest core (R279). -/
def State.idleCore (s : State) : Option (Nat × Nat) :=
  ((List.range 32).map (fun i => (i / 4, i % 4))).find? (fun (e : Nat × Nat) =>
    s.anvilUsable e.1 && (kvGet none ((s.anvil e.1).cores.map (fun x => (x.1, some x.2))) e.2).isNone)

/-- CORES_BUSY follows the cores. -/
def State.coresSync (s : State) (a : Nat) : State := s.wr Rg.anvCoresBusy (s.anvil a).cores.length a

/-- Change one candidate of a Billet. -/
def State.modCand (s : State) (o k : Nat) (f : Cand → Cand) : State :=
  s.modBillet o (fun b => { b with cands := b.cands.map (fun c => if c.num == k then f c else c) })

/-- CANDIDATE_DISPATCH: the head of the queue goes to the first idle core (R279). -/
def State.dispatch (s : State) : State :=
  if !s.working then s
  else
    match s.headWaiting, s.idleCore with
    | some w, some (a, c) =>
      let s1 := (s.sramRead a).modAnvil a (fun x => { x with cores := kvPut x.cores c (w.ordinal, w.num) })
      (((s1.modCand w.ordinal w.num (fun x => { x with stage := .decoding a c s.now, front := false })).jobStage
        .decode w.ordinal 0 .running)).coresSync a
    | _, _ => s

def doCandidateDispatch (s : State) : State := s.dispatch

/-! ### The outcome -/

/-- The core is free again, and its attempt is counted. -/
def State.freeCore (s : State) (a c : Nat) : State :=
  ((s.modAnvil a (fun x => { x with cores := kvDel x.cores c })).bumpSat Rg.anvDecodes a).coresSync a

/-- Lane counter of a failure reason (R290). -/
def failCounter (r : Nat) : Fld :=
  if r = 1 then Rg.lnFailFormat else if r = 2 then Rg.lnFailEcc else if r = 3 then Rg.lnFailCheck
  else if r = 4 then Rg.lnFailLength else Rg.lnFailTimeout

/-- A failed attempt resolves the candidate without a record (R76, R290). -/
def State.candFail (s : State) (b : Billet) (c : Cand) (r : Nat) : State :=
  let s1 := s.modCand b.ordinal c.num (fun x => { x with stage := .resolved })
  if c.again then s1
  else
    (s1.modBillet b.ordinal (fun x => { x with fails := x.fails.set (r - 1) (x.fails.getD (r - 1) 0 + 1) })).bumpSat
      (failCounter r) b.lane

/-- The data as it is delivered: ECI escapes, doubled backslashes, and 0x1D for a separator (R293, R294). -/
def deliverData (l : List Datum) : List Nat :=
  let esc := l.any (fun d => match d with
    | .eci _ => true
    | _ => false)
  (l.map (fun d => match d with
    | .byte b => if esc && b.toNat == 0x5C then [0x5C, 0x5C] else [b.toNat]
    | .eci n => 0x5C :: (List.range 6).map (fun i => 48 + n / 10 ^ (5 - i) % 10)
    | .sep => [groupSep])).flatten

/-- An ECI designator occurs. -/
def hasEci (l : List Datum) : Bool := l.any (fun d => match d with
  | .eci _ => true
  | _ => false)

/-- Families with a length test: Code 128, Code 39, Interleaved 2 of 5 and Codabar (Table Decode.11). -/
def hasLengths (f : Nat) : Bool := f == 0 || f == 1 || f == 3 || f == 5

/-- Families whose OPT[0] allows a mirror image (Table Decode.11). -/
def hasMirror (f : Nat) : Bool := f == 6 || f == 7 || f == 8 || f == 11 || f == 12 || f == 13

/-- A symbol before its record: what its payload is made of. -/
structure Formed where
  code : Nat
  head : List Nat
  saBytes : List Nat
  data : List Nat
  flags : Nat
  parse : Bool
  deriving DecidableEq, Repr

/-- The failure reason, or the symbol, of an attempt. -/
def Billet.judgeOut (b : Billet) (c : Found) (out : DecodeOut) : Except Nat Formed :=
  let w := b.symset.getD c.family (0, 0, 0)
  match out with
  | .failed r => .error (r.val + 1)
  | .slate =>
    let r := (b.slateView c).read (c.family == 13) c.inverted w.2.2 (b.contrastOf c)
    match r.1 with
    | .fail e => .error e
    | .ok d e f => .ok { code := if c.family = 13 then 0x21 else 0x20, head := [slateN (c.family == 13), 0, 0, e, f],
                         saBytes := [0, 0], data := d, flags := b2n r.2 * flMirrored, parse := false }
  | .symbol x =>
    if hasLengths c.family && (decide (x.chars < w.2.1) || decide (w.1 < x.chars)) then .error 4
    else if x.mirrored && !(hasMirror c.family && w.2.2.testBit 0) then .error 1
    else
      .ok { code := if c.family = 0 then (if x.fnc1First then 0x02 else 0x01) else c.code,
            head := [x.size1, x.size2, x.ecc, x.corrected, x.erased],
            saBytes := match x.sa with
              | some (p, t, i) => [16 * p + t, i]
              | none => [0, 0],
            data := deliverData x.data,
            flags := b2n x.mirrored * flMirrored + b2n (hasEci x.data) * flEci + b2n x.sa.isSome * flSa,
            parse := cpGet b.bind Rg.lnGs1En == 1 && (x.fnc1First || c.family == 4) }

/-! ### Grading (R296, R297) -/

/-- The symbol grade × 10: the mean of the scan grades, or the lowest parameter grade. -/
def gradeOf (family : Nat) (g : GradeOut) : Nat :=
  if isLinear family then g.scans.sum / max 1 g.scans.length else g.params.foldl min 40

/-- The grades are limited (R297). -/
def Billet.gradeLimited (b : Billet) (c : Found) : Bool :=
  decide (c.moduleSize < (if isLinear c.family then 64 else 80)) || b.clippedAt c ||
  !c.anglesWithin cosSq85 ||
  decide ((cpGet b.ws Rg.lnCalHi : Int) - cpGet b.ws Rg.lnCalLo < 100) ||
  decide ((cpGet b.ws Rg.lnRefHi : Int) - cpGet b.ws Rg.lnRefLo < 50)

/-! ### The record (R300 to R303) -/

/-- A payload within 3,968 bytes: element entries are dropped first, then DATA is cut (R303). The GS1_COUNT, the bytes, and
whether something was cut. -/
def fitPayload (count : Nat) (front grades data : List Nat) (saB : List Nat) (es : List Element) : List Byte × Bool :=
  let make (n : Nat) (d : List Nat) (e : List Element) : List Byte :=
    (front ++ [n] ++ saB ++ grades ++ d).map (fun v => BitVec.ofNat 8 (sat8 v)) ++ (e.map Element.bytes).flatten
  let room := 3968 - 16
  if data.length + 6 * es.length ≤ room then (make count data es, false)
  else
    let n := if es.isEmpty then count else 0
    (make n (data.take room) [], true)

/-- Bytes 34 onward of a SYMBOL record (Table Decode.4). -/
def symbolArea (code grade : Nat) (c : Found) : List Byte :=
  leBytes 1 code ++ leBytes 1 grade ++ leBytes 2 c.orientation ++ leBytes 2 c.moduleSize ++
  (c.corners.map (fun p => leBytes 3 p.x.toNat ++ leBytes 3 p.y.toNat)).flatten

/-- The SYMBOL record of a formed symbol, and whether its parse failed and its grades are limited. -/
def State.symbolRec (s : State) (b : Billet) (c : Cand) (f : Formed) (g : GradeOut) : Rec × Bool × Bool :=
  let graded := cpGet b.bind Rg.lnGradeEn == 1
  let limited := graded && b.gradeLimited c.found
  let es := if f.parse then s.gs1Parse (f.data.length + 1) 0 f.data else some []
  let bad := es.isNone
  let list := es.getD []
  let grades := if graded then (List.range 8).map (fun i => g.params.getD i 0xFF) else List.replicate 8 0xFF
  let p := fitPayload (if bad then 0xFF else list.length) f.head grades f.data f.saBytes list
  let flags := f.flags + b2n graded * flGraded + b2n limited * flGradeLimited + b2n (f.parse && !bad) * flGs1 +
    b2n bad * flGs1Bad + b2n c.found.inverted * flInverted + b2n (c.found.spans (stripeHeight b.bind)) * flSpanned + b2n p.2 * flDataClipped
  ({ ordinal := b.ordinal, cand := some c.num, kind := .symbol, endCode := 0, lane := b.lane, frame := b.frame,
     period := b.period, stamp := b.stamp, flags := flags,
     area := symbolArea f.code (if graded then gradeOf c.found.family g else 0xFF) c.found, payload := p.1 }, bad, limited)

/-- Big-endian value of bytes. -/
def beVal (l : List Nat) : Nat := l.foldl (fun a x => 256 * a + x) 0

/-- The Slate tag that a decode yields (Table Slate.2). -/
def slateTagOf (num : Nat) (d : List Nat) : SlateTag :=
  { cand := num, sid := d.getD 6 0, flags := d.getD 7 0, counter := beVal (d.take 6) }

/-- A result is formed: committed at once, or held as the terminal record when it is candidate M − 1 (R77). A candidate
decoded again repeats its key (R97). -/
def State.candOk (s : State) (b : Billet) (c : Cand) (f : Formed) (g : GradeOut) : State :=
  let r := s.symbolRec b c f g
  let n := b.lane
  let s1 := s.modCand b.ordinal c.num (fun x => { x with stage := .resolved })
  if c.again then
    (if c.num + 1 = b.maxSym then s1 else s1.commitRec b (some c.found.family) r.1)
  else
    let slate := 12 ≤ c.found.family
    let s2 := s1.modBillet b.ordinal (fun x =>
      { x with symbols := x.symbols + 1,
               heldRec := if c.num + 1 = b.maxSym then some r.1 else x.heldRec,
               slate := if slate then { x.slate with tags := x.slate.tags ++ [slateTagOf c.num f.data] } else x.slate })
    let s3 := if c.num + 1 = b.maxSym then s2 else (s2.commitRec b (some c.found.family) r.1).bumpSat Rg.lnDecoded n
    let s4 := if r.2.1 then s3.raiseCnt 64 531 n n else s3
    if r.2.2 then s4.raiseCnt 64 532 n n else s4

/-- An attempt on a core ends with an outcome; a reply with a stale epoch is discarded (R118, R290). -/
def State.decodeDone (s : State) (a core : Nat) (out : DecodeOut) (g : GradeOut) : State :=
  match (s.anvil a).cores.find? (fun e => e.1 == core) with
    | none => s
    | some (_, o, k) =>
      let s1 := s.freeCore a core
      match s1.billet? o with
      | none => s1
      | some b =>
        match b.cands.find? (fun c => c.num == k) with
        | none => s1
        | some c =>
          let s2 := match b.judgeOut c.found out with
            | .error r => s1.candFail b c r
            | .ok f => s1.candOk b c f g
          let s3 := s2.each b.corrs State.gbSync
          s3.tryEnd o

/-- The outcome fits the family: a Slate tag is read as its rules say, and only one. -/
def DecodeOut.fits (out : DecodeOut) (family : Nat) : Bool :=
  match out with
  | .slate => decide (12 ≤ family)
  | .symbol _ => decide (family < 12)
  | .failed _ => true

/-- The candidate that a core decodes. -/
def State.onCore (s : State) (a core : Nat) : Option (Billet × Cand) :=
  match (s.anvil a).cores.find? (fun e => e.1 == core) with
  | none => none
  | some (_, o, k) =>
    match s.billet? o with
    | none => none
    | some b => (b.cands.find? (fun c => c.num == k)).map (fun c => (b, c))

/-- DECODE_DONE: a core finishes an attempt. -/
def doDecodeDone (a : Fin 8) (core : Fin 4) (epoch : Nat) (out : DecodeOut) (g : GradeOut) (s : State) : State :=
  if epoch != s.rd Rg.anvEpoch a.val then s.staleReply a.val
  else match s.onCore a.val core.val with
  | none => s
  | some (_, c) => if out.fits c.found.family then s.decodeDone a.val core.val out g else s

/-- The cost of one attempt: its family's, with the grading and GS1 additions (R280). -/
def attemptCost (b : Billet) (c : Cand) : Nat :=
  familyCost.getD c.found.family 0 + 50000 * cpGet b.bind Rg.lnGradeEn + 4000 * cpGet b.bind Rg.lnGs1En

/-- DECODE_TIMEOUT: an attempt reaches its cost, and fails with reason TIMEOUT (R280). -/
def State.decodeTimeout (s : State) (a core : Nat) : State :=
  match s.onCore a core with
  | none => s
  | some (b, c) =>
    let start := match c.stage with
      | .decoding _ _ t => t
      | _ => s.now
    let s1 := s.reach (start + ceilDiv (attemptCost b c * 250) (anvilMHz (s.rd Rg.pwActive)))
    s1.decodeDone a core (.failed 4) {}

def doDecodeTimeout (a : Fin 8) (core : Fin 4) (s : State) : State := s.decodeTimeout a.val core.val

end Sys2Proof.Machine
end

