-- ==== Sys2Proof/Machine/Timetable.lean ====
section
/-! DEFINITION. The Timetable at a Bell: jobs left over, released reservations, placing again, fitness, rationing and Temper
changes (R38, R49 to R65, R694, R695, R703). -/
namespace Sys2Proof.Machine

/-! ### Unit registers (Table Bell.11) -/

/-- TT_PEAK_u: the largest cost placed in an open row. -/
def State.ttPeak (s : State) (u : Nat) : Nat :=
  ((s.jobs.filter (fun j => j.unit == u && decide (s.period ≤ j.row))).map (fun j => s.rowAll u j.row)).foldl max
    (s.rowAll u s.period)

/-! ### Placing again (R58, R65) -/

/-- The earliest row of `n` rows from `lo` in which a cost fits the admissible capacity of the row. -/
def State.rowFree (s : State) (u cost : Nat) : Nat → Nat → Option Nat
  | 0, _ => none
  | n + 1, lo => if s.rowCost u lo + cost ≤ s.admAt u lo then some lo else s.rowFree u cost n (lo + 1)

/-- Rows of the placed jobs of a type of a Billet. -/
def State.rowsOf (s : State) (ty : JobType) (o : Nat) : List Nat :=
  (s.jobs.filter (fun j => j.ty == ty && j.ordinal == o)).map TJob.row

/-- The first row that R42 allows a job, as the jobs before it now stand. -/
def State.jobLo (s : State) (j : TJob) : Nat :=
  let after (l : List Nat) : Nat := if l.isEmpty then j.lo else l.foldl max 0 + 1
  match j.ty with
  | .finder => after ((s.jobs.filter (fun x => x.ty == .pipe && x.ordinal == j.ordinal && x.stripe == j.stripe)).map TJob.row)
  | .decode => after (s.rowsOf .finder j.ordinal)
  | .delivery => after (s.rowsOf .decode j.ordinal)
  | _ => j.lo

/-- Place one job again within its bounds from the current row on: in free capacity, then in the reserve; otherwise in the
last row of its bounds. -/
def State.placeAgain (s : State) (j : TJob) : State :=
  let lo := max (s.jobLo j) s.period
  let n := j.hi + 1 - lo
  let row := match s.rowFree j.unit j.cost n lo with
    | some r => r
    | none => match s.rowInReserve 1 j.unit j.cost n lo with
      | some r => r
      | none => max j.hi lo
  { s with jobs := s.jobs ++ [{ j with row := row }] }

/-- Place of a job among those of its Billet: stripe by stripe Pipe before Finder, then decode, then delivery (R43). -/
def TJob.rank (j : TJob) : Nat :=
  match j.ty with
  | .pipe => 2 * j.stripe
  | .finder => 2 * j.stripe + 1
  | .decode => 2 ^ 20
  | _ => 2 ^ 20 + 1

/-- Order of deadline, then of Door ordinal, then of the jobs of a Billet. -/
def TJob.before (a b : TJob) : Bool :=
  lexLt (a.deadline, a.ordinal, a.rank) (b.deadline, b.ordinal, b.rank) ||
    (a.deadline, a.ordinal, a.rank) == (b.deadline, b.ordinal, b.rank)

/-- A placed job that has not begun. -/
def TJob.unbegun (j : TJob) : Bool := j.stage != JobStage.running && j.stage != JobStage.done

/-- Jobs whose row lies before the bound that the jobs before them now set are placed again (R42, R58). -/
def State.keepOrder (s : State) : State :=
  s.each (s.jobs.mergeSort TJob.before) (fun st j =>
    if j.unbegun && st.jobs.contains j && decide (j.row < st.jobLo j) then
      ({ st with jobs := st.jobs.erase j }).placeAgain j else st)

/-- A row of a unit holds more than the unit's admissible capacity. -/
def State.overRow (s : State) (j : TJob) : Bool :=
  j.prio == 0 && decide (s.period ≤ j.row) && decide (s.admAt j.unit j.row < s.rowCost j.unit j.row)

/-- A job that has not begun, in such a row. -/
def State.movable (s : State) (j : TJob) : Bool := s.overRow j && j.unbegun

/-- Every open row fits the admissible capacities at a level (R57). -/
def State.fitsAt (s : State) (level : Nat) : Bool :=
  (s.jobs.filter (fun j => decide (s.period ≤ j.row))).all (fun j => decide (s.rowCost j.unit j.row ≤ s.admissible level s.periodTicks s.bell.reserveAct j.unit))

/-- The jobs of the rows that no longer fit are placed again, earliest deadline first (R58). -/
def State.replaceRows (s : State) : State :=
  let out := s.jobs.filter s.movable
  let s1 := { s with jobs := s.jobs.filter (fun j => !s.movable j) }
  (s1.each (out.mergeSort TJob.before) State.placeAgain).keepOrder

/-! ### Temper (R55 to R58, R692 to R695, R703) -/

/-- A level field: 6 and 7 are taken as 5. -/
def capLevel (v : Nat) : Nat := min v 5

/-- The highest request held, or 0. -/
def State.temperWanted (s : State) : Nat :=
  ((List.range 64).map (fun t => if s.rd Rg.pwTemperReqT t ≤ 5 then s.rd Rg.pwTemperReqT t else 0)).foldl max 0

/-- The level that requests and TEMPER_MAX ask for. -/
def State.temperAsked (s : State) : Nat := min s.temperWanted (capLevel (s.rd Rg.pwTemperMax))

/-- The target of R694. -/
def State.temperTarget (s : State) : Nat := min s.temperAsked (s.rd Rg.pwCap)

/-- The core voltage of a level in mV (Table Power.10). -/
def levelMv (l : Nat) : Nat := 650 + 50 * l

/-- A change of level completes: the voltage has settled, RAMPING clears and E0025 is raised (R695). -/
def State.temperDone (s : State) : State :=
  if s.on Rg.pwRamping then
    ((s.wr Rg.pwRamping 0).wr Rg.pwVcore (levelMv (s.rd Rg.pwActive))).raise 25 0 (s.rd Rg.pwActive)
  else s

/-- TEMPER_CHANGE_COMPLETE: at the end of the 10 mV/µs ramp and the 1 µs clock switch that began at the Bell (R695). -/
def doTemperChangeComplete (s : State) : State :=
  if s.on Rg.pwRamping then
    (s.reach (s.rd Rg.bellStamp + usTicks (absDiff (s.rd Rg.pwVcore) (levelMv (s.rd Rg.pwActive)) / 10 + 1))).temperDone
  else s

/-- A level takes effect at a Bell. -/
def State.temperSet (s : State) (l : Nat) : State :=
  let s1 := (s.wr Rg.pwActive l).wr Rg.pwRamping 1
  { (s1.wr Rg.bellPendTemper 0) with power := { s1.power with admitLevel := 5, waitSince := none, waitTold := false } }

/-- A decrease waits until every row fits: admission goes by the lower level, and after 64 Periods E0068 is raised (R57). -/
def State.temperWait (s : State) (l : Nat) : State :=
  let since := s.power.waitSince.getD s.period
  let late := decide (64 < s.period - since) && !s.power.waitTold
  let s1 := { (s.wr Rg.bellPendTemper 1) with
    power := { s.power with admitLevel := l, waitSince := some since, waitTold := s.power.waitTold || late } }
  if late then s1.raise 68 0 l else s1

/-- What a Bell does to the level in force. -/
def State.temperBell (s : State) : State :=
  let s0 := s.temperDone
  let a := s0.rd Rg.pwActive
  let c := s0.rd Rg.pwCap
  let want := s0.temperAsked
  let t := min want c
  if c < a then
    let s1 := (s0.temperSet c).replaceRows
    if t < c then s1.temperWait t else s1
  else if a < t then s0.temperSet t
  else if t < a then (if s0.fitsAt t then s0.temperSet t else s0.temperWait t)
  else if s0.power.waitSince.isSome then
    { (s0.wr Rg.bellPendTemper 0) with power := { s0.power with admitLevel := 5, waitSince := none, waitTold := false } }
  else s0

/-- A new decrease by request begins to wait at once: the Door admits against the lower capacity (R57). -/
def State.temperRefresh (s : State) : State :=
  let t := s.temperTarget
  let s1 := s.wr Rg.pwTarget t
  if s.temperAsked < s.rd Rg.pwActive ∧ s.temperAsked ≤ s.rd Rg.pwCap then s1.temperWait t
  else if s.power.waitSince.isSome && s.rd Rg.pwActive ≤ t then
    { (s1.wr Rg.bellPendTemper 0) with power := { s1.power with admitLevel := 5, waitSince := none, waitTold := false } }
  else s1

/-! ### Jobs at a Bell -/

/-- A job whose Billet is open has its data present and is not finished (R52): a Pipe stripe's lines, a Finder stripe's
decode view, a released candidate. A delivery job is finished with its Billet. -/
def State.jobReady (s : State) (j : TJob) : Bool :=
  match s.billet? j.ordinal with
  | none => false
  | some b =>
    match j.ty with
    | .pipe => decide (b.pipe.done ≤ j.stripe) && !b.pipe.skip && s.stripeData b j.stripe
    | .finder => decide (b.finderNext ≤ j.stripe) && decide (j.stripe < b.pipe.done) && !b.reset
    | .decode => b.cands.any (fun c => c.stage != .resolved)
    | _ => false

/-- Jobs of an ended row that were ready or running raise E0074 (R52). -/
def State.rowOverrun (s : State) (row : Nat) : State :=
  let l := s.jobs.filter (fun j => j.row == row && j.prio == 0 && j.stage != .done &&
    ((j.stage == .running && j.ty != .decode) || s.jobReady j))
  if l.isEmpty then s else s.raise 74 0 l.length

/-- A decode job is finished: its Billet waits for no candidate any more. -/
def State.decodeOver (s : State) (j : TJob) : Bool :=
  j.ty == .decode && (match s.billet? j.ordinal with
    | some b => b.finished
    | none => true)

/-- The reservations of completed jobs are released, and what drew on the reserve of an ended row is gone (R49). -/
def State.releaseDone (s : State) : State :=
  { s with jobs := s.jobs.filter (fun j =>
      if j.prio = 0 then j.stage != .done && !s.decodeOver j else decide (s.period ≤ j.row)) }

/-- Cycles that a running job still has to come: those of its cost that its unit has not spent yet, for a decode job those of
its candidates (R50, R51). -/
def State.jobLeft (s : State) (level : Nat) (j : TJob) : Nat :=
  let spent (t : Nat) : Nat := (s.now - t) * s.unitKHz level j.unit / 250000
  match j.ty with
  | .decode => (match s.billet? j.ordinal with
    | none => 0
    | some b =>
      let per := decodeCost b.bind / max 1 b.maxSym
      let done := (b.cands.map (fun c => match c.stage with
        | .resolved => per
        | .decoding a _ t => min per ((s.now - t) * s.unitKHz level (a + 1) / 250000)
        | .queued => 0)).sum
      per * b.maxSym - done)
  | _ => j.cost - spent j.since

/-- A job that runs over the Bell goes on, and its remaining cycles count against the new row (R50). -/
def State.carryOver (s : State) (level : Nat) : State :=
  { s with jobs := s.jobs.map (fun j =>
      if j.stage == .running && j.prio == 0 then { j with row := s.period, cost := s.jobLeft level j, since := s.now } else j) }

/-- Billets whose deadline Period has ended without their terminal record: E0072, LANE_LATE and the LATE flag (R53). -/
def State.deadlines (s : State) (ended : Nat) : State :=
  s.each (s.billets.filter (fun b => decide (b.deadline ≤ ended) && !b.late)) (fun st b =>
    let s1 := (st.modBillet b.ordinal (fun x => { x with late := true })).raise 72 b.lane 1
    if b.lane = 0xFF then s1 else s1.bumpSat Rg.lnLate b.lane)

/-- The captures of a Billet's partner frames that are open close with the mark LATE. -/
def State.latePartners (s : State) (b : Billet) : State :=
  s.each [1, 2] (fun st e => match st.partnerIn b.lane e with
    | some p => if p.ordinal = some b.ordinal then st.partnerEnd b.lane e mkLate else st
    | none => st)

/-- The captures that are open at the end of their Pipe bound close with the mark LATE, and a Billet whose exposure 0 was
open ends TRUNCATED; later lines are discarded (R54, R155). -/
def State.lateCaptures (s : State) (ended : Nat) : State :=
  s.each (s.billets.filter (fun b => b.lane != 0xFF && decide (b.period + b.span + b.tail ≤ ended)))
    (fun st b =>
      let st1 := match (st.lane b.lane).capture with
        | some c => if c.ordinal = some b.ordinal then st.closeCapture b.lane mkLate true else st
        | none => st
      st1.latePartners b)

/-- A Billet with no Anvil in service 64 Periods after its deadline ends TRUNCATED and LATE (R742). -/
def State.strandedEnd (s : State) : State :=
  if (List.range 8).any s.anvilUsable then s
  else
    s.each (s.billets.filter (fun b => b.lane != 0xFF && decide (b.deadline + 64 ≤ s.period))) (fun st b =>
      let s1 := st.modBillet b.ordinal (fun x =>
        { x with truncated := true, late := true, abandoned := x.abandoned + (x.cands.filter (fun c => c.stage != .resolved)).length,
                 cands := x.cands.map (fun c => { c with stage := .resolved }) })
      s1.endBillet b.ordinal)

/-- Every bound lane is tested for fitness again (R38). -/
def State.fitness (s : State) : State :=
  s.each ((List.range 64).filter s.isBound) (fun st n =>
    let ok := st.fitsLedger n (st.lane n).bound
    let was := st.on Rg.lnUnfit n
    let s1 := st.wr Rg.lnUnfit (b2n (!ok)) n
    if !ok && !was then s1.raise 75 n 1 else s1)

end Sys2Proof.Machine
end

