-- ==== Sys2Proof/Machine/Ration.lean ====
section
/-! DEFINITION. Rationing at a Bell: demand, budget, the scale S and the lanes' credits (R59 to R62, R64). -/
namespace Sys2Proof.Machine

/-- The units of rationing: PIPE, the pooled Finders, CORES and DELIVERY, by the index TT_BIND gives them. -/
def rationUnits : List Nat := [0, 1, 9, 19]

/-- A lane is active: it has presented a frame start in the last 64 Periods (R59). -/
def State.laneActive (s : State) (n : Nat) : Bool :=
  match (s.lane n).lastFsPeriod with
  | some k => s.isBound n && decide (s.period ≤ k + 64)
  | none => false

/-- f_i in Periods: FRAME_INT, or F while it is 0 (R59). -/
def State.frameInterval (s : State) (n : Nat) : Rat :=
  let i := s.rd Rg.lnFrameInt n
  if i = 0 then (max 1 (bindF (s.lane n).bound s.periodTicks) : Nat) else (i : Rat) / (s.periodTicks : Rat)

/-- c_i: the lane's frame cost on each unit of rationing. -/
def State.frameCosts (s : State) (n : Nat) : List Nat :=
  let b := (s.lane n).bound
  [stripeCount b * pipeCost b, ((List.range (stripeCount b)).map (finderCost b)).sum, decodeCost b,
   deliveryCost (s.entitled n).length (bindM b)]

/-- w_i: a WEIGHT of 0 is taken as 1. -/
def State.weight (s : State) (n : Nat) : Nat := max 1 (s.rd Rg.lnWeight n)

/-- The lanes whose demand counts: active, and not back-pressured (R64). -/
def State.rationLanes (s : State) : List Nat :=
  (List.range 64).filter (fun n => s.laneActive n && !s.backPressured (s.entitled n))

/-- Budgets of the Period that begins, costed at the lower of two levels (R55, R60). -/
def State.budgets (s : State) (level : Nat) : List Nat :=
  let adm := fun u => if s.ttCap u = 0 then 0 else s.admissible level s.periodTicks s.bell.reserveAct u
  [adm 0, ((List.range 8).map (fun a => adm (a + 1))).sum, adm 9, adm 19]

/-- The largest scale on one unit: `l` holds r_i and w_i of each lane, heaviest first; `sat` the demand of lanes that
reach their whole demand. -/
def unitScale (budget : Rat) : Rat → List (Rat × Nat) → Rat
  | _, [] => 1
  | sat, (r, w) :: l =>
    let open_ := (((r, w) :: l).map (fun (e : Rat × Nat) => e.1 * (e.2 : Rat) / 16)).sum
    if open_ = 0 then 1
    else
      let q := (budget - sat) / open_
      if q * (w : Rat) ≤ 16 then max 0 (min 1 q) else unitScale budget (sat + r) l

/-- S and the unit that sets it (R61). -/
def State.scaleNow (s : State) (b8 : List Rat) : Rat × Nat :=
  let lanes := s.rationLanes.mergeSort (fun a b => decide (s.weight b ≤ s.weight a))
  let per := (rationUnits.zipIdx).map (fun u =>
    (unitScale (b8.getD u.2 0 / 8) 0
      (lanes.map (fun n => (((s.frameCosts n).getD u.2 0 : Rat) / s.frameInterval n, s.weight n))), u.1))
  per.foldl (fun (best : Rat × Nat) (e : Rat × Nat) => if e.1 < best.1 then e else best) (1, 0)

/-- Every lane's credit becomes 1 frame when rationing turns on. -/
def State.creditsStart (s : State) : State :=
  s.each (List.range 64) (fun st n => (st.modLane n (fun l => { l with credit := 1 })).showCredit n)

/-- One Bell's credits: min(1, w S / 16) / f_i, capped at 2 frames (R62). -/
def State.creditsEarn (s : State) (scale : Rat) : State :=
  s.each s.rationLanes (fun st n =>
    let gain := min 1 ((st.weight n : Rat) * scale / 16) / st.frameInterval n
    (st.modLane n (fun l => { l with credit := min 2 (l.credit + gain) })).showCredit n)

/-- Rationing at a Bell; `level` is the level the beginning Period is costed at. -/
def State.rationBell (s : State) (level : Nat) : State :=
  let lanes := s.rationLanes
  let demand := (List.range 4).map (fun i =>
    (lanes.map (fun n => ((s.frameCosts n).getD i 0 : Rat) / s.frameInterval n)).sum)
  let hist := ({ demand := demand, budget := s.budgets level } : RationBell) :: s.ration.hist.take 7
  let d8 := fun i => (hist.map (fun b => b.demand.getD i 0)).sum
  let b8 := (List.range 4).map (fun i => (((hist.map (fun b => b.budget.getD i 0)).sum : Nat) : Rat))
  let exceeds := (List.range 4).any (fun i => decide (b8.getD i 0 < d8 i))
  let was := s.on Rg.bellRationed
  let calm := if exceeds then 0 else s.ration.calm + 1
  let s1 := { s with ration := { s.ration with hist := hist, calm := calm } }
  if !was && !exceeds then s1
  else if was && decide (8 ≤ calm) then
    ({ ((s1.wr Rg.bellRationed 0).wr Rg.bellTtScale 65536) with ration := { s1.ration with scale := 1 } }).raise 70 0 0
  else
    let s2 := if was then s1 else ((s1.wr Rg.bellRationed 1).creditsStart).raise 69 0 0
    let sc := s2.scaleNow b8
    let s3 := (s2.wr Rg.bellTtScale (sc.1 * 65536).floor.toNat).wr Rg.bellTtBind sc.2
    ({ s3 with ration := { s3.ration with scale := sc.1 } }).creditsEarn sc.1

end Sys2Proof.Machine
end

