-- ==== Sys2Proof/Machine/Bellows.lean ====
section
/-! DEFINITION. The field side of Bellows: the field state, high-side outputs, digital inputs, encoders, Quench and trim
flashes (R354, R355, R366 to R383, R387, R495 to R498). -/
namespace Sys2Proof.Machine

/-! ### Field state (R354, R355) -/

/-- Every sink and every output goes off: pulses in progress end at once and count as NO_FIELD, flashes end (R355, R383,
R509). -/
def State.fieldOff (s : State) : State :=
  let s1 := s.each (upto 8) (fun st n =>
    let st1 := if (st.led n).active.isSome then (st.pulseCut n).ledSkip n 3 else st
    (st1.flashDrop n).modDout n (fun d => { d with active := none }))
  s1.doutRefreshAll

/-- FIELD_LOST: VFIELD, in units of 10 mV, has fallen below 8.5 V. -/
def State.fieldLost (s : State) (v : Nat) : State :=
  if v < 850 ∧ s.rd Rg.blwField ≠ 1 then
    (((s.wr Rg.blwVfieldMv v).wr Rg.blwField 1).fieldOff).raise 960 0 v
  else s

/-- FIELD_OV: VFIELD has risen above 38.0 V. -/
def State.fieldOv (s : State) (v : Nat) : State :=
  if 3800 < v ∧ s.rd Rg.blwField ≠ 2 then
    (((s.wr Rg.blwVfieldMv (min v 65535)).wr Rg.blwField 2).fieldOff).raise 962 0 v
  else s

/-- FIELD_OK: VFIELD has stayed above 9.5 V, or after an overvoltage below 37.0 V, for 10 ms. A DOUT with RESTORE takes
up its commanded state; one without has OUT cleared. -/
def State.fieldOkAgain (s : State) (v : Nat) : State :=
  if s.rd Rg.blwField ≠ 0 ∧ 950 < v ∧ v ≤ 3800 ∧ (s.rd Rg.blwField = 2 → v < 3700) then
    let s1 := (s.wr Rg.blwVfieldMv v).wr Rg.blwField 0
    let s2 := s1.each (upto 8) (fun st n => if st.on Rg.doutRestore n then st else st.wr Rg.doutOut 0 n)
    (s2.doutRefreshAll).raise 961 0 v
  else s

def doFieldLost (v : Nat) (s : State) : State := s.fieldLost v
def doFieldOv (v : Nat) (s : State) : State := s.fieldOv v
def doFieldOk (v : Nat) (s : State) : State := s.fieldOkAgain v

/-! ### High-side outputs (R366 to R368, R381) -/

/-- DOUT_OUT_WRITE: master `m` writes OUT. -/
def doDoutOutWrite (m : MasterId) (n : LedId) (v : Bool) (s : State) : State :=
  s.withRight m.val (0x400500 + 0x20 * n.val) .set (fun st => (st.wr Rg.doutOut (b2n v) n.val).doutRefresh n.val)

/-- DOUT_CLEAR: the dout clear command of a master with Run on the output. -/
def doDoutClear (m : MasterId) (n : LedId) (s : State) : State :=
  s.withRight m.val (0x400500 + 0x20 * n.val) .run (fun st => st.doutClear n.val)

/-- LED_CLEAR: the led clear command of a master with Run on the sink. -/
def doLedClear (m : MasterId) (n : LedId) (s : State) : State :=
  s.withRight m.val (0x400100 + 0x80 * n.val) .run (fun st => st.ledClear n.val)

/-- DOUT_PULSE_START: the earliest pulse of an output in PULSE mode reaches its start; a latch or a lost field skips it. -/
def State.doutPulseStart (s : State) (n : Nat) : State :=
  match (s.dout n).pend with
  | [] => s
  | p :: rest =>
    if !s.bellowsServes then s
    else
      let s1 := (s.reach p.start).modDout n (fun d => { d with pend := rest })
      if s1.doutMay n then
        (s1.modDout n (fun d => { d with active := some { start := s1.now, width := p.width } })).doutRefresh n
      else s1.bumpSat Rg.doutSkips n

def doDoutPulseStart (n : LedId) (s : State) : State := s.doutPulseStart n.val

/-- DOUT_PULSE_END: WIDTH ticks after its start. -/
def State.doutPulseEnd (s : State) (n : Nat) : State :=
  match (s.dout n).active with
  | none => s
  | some p => ((s.reach (p.start + p.width)).modDout n (fun d => { d with active := none })).doutRefresh n

def doDoutPulseEnd (n : LedId) (s : State) : State := s.doutPulseEnd n.val

/-- DOUT_OVERLOAD: an output that conducts has stayed in limit for LIMIT_TIME × 100 µs. It turns off, latches OVERLOAD and
follows RETRY (R367, R379). One that is held by its bank or whose domain is away turns off for the rest of the hold
(R686). -/
def State.doutOverload (s : State) (n : Nat) : State :=
  let d := s.dout n
  if !d.on then s
  else if !s.bellowsServes || s.padHeld 4 then
    let s1 := s.modDout n (fun d => { d with on := false, offSince := s.now, heldOver := true })
    if s.domainUp 5 then s1.wr Rg.doutOverload 1 n else s1
  else
    let r := offAfterFault s.now (s.rd Rg.doutRetry n) (s.rd Rg.doutRetries n) d.retrying
    let s1 := s.modDout n (fun d => { d with off := r.1, retrying := false, active := none })
    (((s1.wr Rg.doutRetries r.2 n).wr Rg.doutOverload 1 n).doutRefresh n).raise (944 + n) n 2

def doDoutOverload (n : LedId) (s : State) : State := s.doutOverload n.val

/-- An output latches BACKFEED (R381). -/
def State.doutBackfed (s : State) (n : Nat) : State :=
  ((s.wr Rg.doutBackfeed 1 n).doutRefresh n).raise (944 + n) n 8

/-- The probe turns the next output off, or ends: no output made the readback of `a` fall. -/
def State.probeNext (s : State) (a : Nat) (rest : List Nat) : State :=
  match rest.filter (fun b => (s.dout b).on && b != a) with
  | [] => { (s.doutBackfed a) with blw := { (s.doutBackfed a).blw with probe := none } }
  | b :: bs =>
    let s1 := (s.modDout b (fun d => { d with probed := true })).doutRefresh b
    { s1 with blw := { s1.blw with probe := some { a := a, b := b, rest := bs, start := s.now } } }

/-- What a sample of the readback and of reverse current counts for one output (R368, R381). -/
def State.doutCount (s : State) (readback reverse : Nat) (n : Nat) : State :=
  let s1 := s.wr Rg.doutReadback (b2n (readback.testBit n)) n
  s1.modDout n (fun d =>
    let rested := !d.on && decide (d.offSince + 12500 ≤ s.now)
    { d with high := if rested && readback.testBit n then d.high + 1 else 0
             reverse := if d.on && reverse.testBit n then d.reverse + 1 else 0 })

/-- One sample of all outputs: an output that is on and shows reverse current on 3 samples in a row latches BACKFEED (R381). -/
def State.doutScan (s : State) (readback reverse : Nat) (mA : List Nat) : State :=
  let s1 := s.each (upto 8) (State.doutCount · readback reverse ·)
  let s2 := s1.each (upto 8) (fun st n => st.wr Rg.doutIMeas (min (mA.getD n 0) 4095) n)
  s2.each (upto 8) (fun st n =>
    if 3 ≤ (st.dout n).reverse ∧ st.rd Rg.doutBackfeed n = 0 then st.doutBackfed n else st)

/-- The outputs whose readback asks for a tie probe (R368). -/
def State.tieSuspects (s : State) : List Nat :=
  (upto 8).filter (fun n =>
    decide (3 ≤ (s.dout n).high) && s.rd Rg.doutTied n == 0 && s.rd Rg.doutBackfeed n == 0)

/-- DOUT_SAMPLE: every 10 µs the readbacks and currents are sampled. An output that has been off for 50 µs and reads 1 on 3
samples in a row starts the tie probe (R368). The readbacks, the outputs with more than 50 mA of reverse current, and the
currents in mA come from outside. -/
def State.doutSample (s : State) (readback reverse : Nat) (mA : List Nat) : State :=
  if !s.bellowsServes then s
  else
    let s0 := s.reach (s.blw.lastDoutSample + 2500)
    let s1 := { s0 with blw := { s0.blw with lastDoutSample := s0.now } }.doutScan readback reverse mA
    match s1.blw.probe, s1.tieSuspects with
    | none, a :: _ => s1.probeNext a (upto 8)
    | _, _ => s1

def doDoutSample (readback reverse : BitVec 8) (mA : List Nat) (s : State) : State :=
  s.doutSample readback.toNat reverse.toNat mA

/-- TIE_PROBE_STEP: the 5 µs window of the probed output ends; `r1` and `r4` are the readbacks of the other output 1 µs
and 4 µs into it (R381). -/
def State.tieProbeStep (s : State) (r1 r4 : Bool) : State :=
  match s.blw.probe with
  | none => s
  | some p =>
    let s1 := s.reach (p.start + 1250)
    if !r1 || !r4 then
      let s2 := { s1 with blw := { s1.blw with probe := none } }
      let s3 := (s2.wr Rg.doutTied 1 p.a).wr Rg.doutTied 1 p.b
      let s4 := s3.modDout p.b (fun d => { d with probed := false })
      (s4.raise (944 + min p.a p.b) (min p.a p.b) 4).raise (944 + max p.a p.b) (max p.a p.b) 4
    else
      let s2 := (s1.modDout p.b (fun d => { d with probed := false })).doutRefresh p.b
      s2.probeNext p.a p.rest

def doTieProbeStep (r1 r4 : Bool) (s : State) : State := s.tieProbeStep r1 r4

/-! ### Quadrature encoders (R372 to R374) -/

/-- A compare of an encoder: it is counted, NEXT moves by PITCH in the same direction, and the sinks and outputs
referenced to it fire (R374). -/
def State.encCompare (s : State) (e t : Nat) : State :=
  let pitch := max 1 (s.rd Rg.encPitch e)
  let next := if s.on Rg.encCmpDir e then s.rd Rg.encNext e + 2 ^ 32 - pitch else s.rd Rg.encNext e + pitch
  ((s.wr Rg.encNext next e).bump Rg.encCompares e).reference 4 e t

/-- One count of an encoder, up or down, stamped `t`. -/
def State.encCount (s : State) (e t : Nat) (up : Bool) : State :=
  let s1 := s.wr Rg.encPos (if up then s.rd Rg.encPos e + 1 else s.rd Rg.encPos e + 2 ^ 32 - 1) e
  let diff := toSigned 32 (s1.rd Rg.encPos e + 2 ^ 32 - s1.rd Rg.encNext e)
  let fires := if s1.on Rg.encCmpDir e then !up && decide (diff ≤ 0) else up && decide (0 ≤ diff)
  if s1.on Rg.encValid e && s1.on Rg.encCmpEn e && fires then s1.encCompare e t else s1

/-- The encoder's phases move from the levels (a, b) to (a', b'): one count, or an error when both change. -/
def State.encStep (s : State) (e t : Nat) (a b a' b' : Bool) : State :=
  if a != a' && b != b' then (s.bumpSat Rg.encErr e).raiseLim 64 (963 + e) 0 e 0
  else if a == a' && b == b' then s
  else
    -- A leads B: A rises while B is 0, B rises while A is 1, A falls while B is 1, B falls while A is 0
    let up := if a != a' then a' != b else b' == a
    s.encCount e t (up != s.on Rg.encDirInv e)

/-- ENC_POS_WRITE: the position is loaded, with NEXT and PITCH where they are named, and VALID is set. A pitch outside 1
to 16,777,215 writes nothing (R374, R626). -/
def State.encLoad (s : State) (e pos : Nat) (next pitch : Option Nat) : State :=
  match pitch with
  | some 0 => s
  | _ =>
    let s1 := (s.wr Rg.encPos pos e).wr Rg.encValid 1 e
    let s2 := match next with | some v => s1.wr Rg.encNext v e | none => s1
    match pitch with | some v => s2.wr Rg.encPitch v e | none => s2

def doEncPosWrite (m : MasterId) (e : Fin 4) (pos : Word) (next : Option Word) (pitch : Option (BitVec 24)) (s : State) :
    State :=
  s.withRight m.val (0x400700 + 0x20 * e.val) .set
    (fun st => st.encLoad e.val pos.toNat (next.map BitVec.toNat) (pitch.map BitVec.toNat))

/-! ### Digital inputs (R370, R371) -/

/-- The filter delay of an input in ticks: FILT × 40 ns, or × 40 µs with LONG. -/
def State.dinDelay (s : State) (n : Nat) : Nat := s.rd Rg.dinFilt n * (if s.on Rg.dinLong n then 10000 else 10)

/-- An accepted edge of an input: a counted edge is stamped with the tick of the first sample at the new level, counts,
raises E0977 + n, and is a reference; with WAKE_EN it is a wake source too. While BELLOWS is away it only wakes (R371,
R387). -/
def State.dinEdge (s : State) (n : Nat) (rising : Bool) : State :=
  let sel := s.rd Rg.dinEdge n
  let counts := if rising then sel == 0 || sel == 2 else sel == 1 || sel == 2
  if counts then
    let t := s.now - s.dinDelay n
    let s1 := if s.bellowsServes then
        (((s.bumpSat Rg.dinEdges n).wr Rg.dinLastStamp t n).raiseLim 1 (977 + n) 0 n 0).reference 3 n t
      else s
    if s.on Rg.dinWakeEn n then s1.wakeEvent (17 + n) else s1
  else s

/-- DIN_EDGE: the filtered levels of the eight inputs become `levels`. -/
def State.dinLevels (s : State) (levels : Nat) : State :=
  let old := fun n => s.on Rg.dinLevel n
  let changed := (upto 8).filter (fun n => old n != levels.testBit n)
  let s1 := s.each changed (fun st n => st.wr Rg.dinLevel (b2n (levels.testBit n)) n)
  let s2 := s1.each changed (fun st n => st.dinEdge n (levels.testBit n))
  if s.bellowsServes then
    s2.each (upto 4) (fun st e =>
      let first := if changed.contains (2 * e) then 2 * e else 2 * e + 1
      st.encStep e (s.now - s.dinDelay first) (old (2 * e)) (old (2 * e + 1)) (levels.testBit (2 * e))
        (levels.testBit (2 * e + 1)))
  else s2

def doDinEdge (levels : BitVec 8) (s : State) : State := s.dinLevels levels.toNat

/-! ### Quench (R375 to R377) -/

/-- THR_k of a sink, k from 1 to 4. -/
def State.quenchThr (s : State) (n k : Nat) : Int := s.rdI Rg.ledThr n (k - 1)

/-- A fault of the sink's channel: the step becomes max(s, FAIL_STEP) at once, and QFAULT is set with E0969 + n. -/
def State.quenchFault (s : State) (n : Nat) : State :=
  let s1 := s.wr Rg.ledQStep (max (s.rd Rg.ledQStep n) (min 4 (s.rd Rg.ledFailStep n))) n
  let s2 := s1.modLed n (fun l => { l with up := 0, dn := 0, good := 0 })
  if s.on Rg.ledQFault n then s2 else (s2.wr Rg.ledQFault 1 n).raise (969 + n) n 0

/-- One step up or down (R376). -/
def State.quenchMove (s : State) (n step : Nat) (up : Bool) : State :=
  let s1 := (s.wr Rg.ledQStep step n).modLed n (fun l => { l with up := 0, dn := 0 })
  (s1.bumpSat (if up then Rg.ledQUp else Rg.ledQDown) n).raiseLim 64 (952 + n) 0 n step

/-- The procedure of R376 on a good sample `v`; while QFAULT is set the sample only counts towards clearing it (R377). -/
def State.quenchGood (s : State) (n : Nat) (v : Int) : State :=
  let l := s.led n
  let dwell := max 1 (s.rd Rg.ledQDwell n)
  if s.on Rg.ledQFault n then
    if dwell ≤ l.good + 1 then (s.wr Rg.ledQFault 0 n).modLed n (fun l => { l with good := 0 })
    else s.modLed n (fun l => { l with good := l.good + 1 })
  else
    let st := s.rd Rg.ledQStep n
    let up := if st < 4 ∧ s.quenchThr n (st + 1) ≤ v then l.up + 1 else 0
    let dn := if 0 < st ∧ v < s.quenchThr n st - (s.rd Rg.ledQHyst n : Int) then l.dn + 1 else 0
    let s1 := s.modLed n (fun l => { l with up := up, dn := dn })
    if dwell ≤ up then s1.quenchMove n (st + 1) true
    else if dwell ≤ dn then s1.quenchMove n (st - 1) false
    else s1

/-- A result sample of a channel reaches every sink that follows it (R375 to R377). -/
def State.quenchSample (s : State) (chan : Nat) (v : Int) (bad tone : Bool) : State :=
  s.each (upto 8) (fun st n =>
    if st.on Rg.ledQen n && st.rd Rg.ledQchan n == chan && st.bellowsServes then
      let st1 := st.modLed n (fun l => { l with lastSample := st.now })
      if bad then st1.quenchFault n else if tone then st1 else st1.quenchGood n v
    else st)

/-- QUENCH_TIMEOUT: no sample for QTIMEOUT ms (R377). -/
def State.quenchTimeout (s : State) (n : Nat) : State :=
  if s.on Rg.ledQen n && s.bellowsServes then
    (s.reach ((s.led n).lastSample + msTicks (max 1 (s.rd Rg.ledQTimeout n)))).quenchFault n
  else s

def doQuenchTimeout (n : LedId) (s : State) : State := s.quenchTimeout n.val

/-- A write of a threshold: it is ignored if the four are left out of ascending order (R375). -/
def State.quenchThrWrite (s : State) (n k v : Nat) : State :=
  let s1 := s.wr Rg.ledThr v n k
  let t := fun j => s1.quenchThr n j
  if t 1 ≤ t 2 ∧ t 2 ≤ t 3 ∧ t 3 ≤ t 4 then s1 else s

/-! ### Trim flashes (R495, R496, R498) -/

/-- The slots of a channel: the positions of a grid frame that its SLOTS holds (R393). -/
def State.slotHeld (s : State) (c k : Nat) : Bool := (s.rd Rg.saSlots c).testBit (k % 8)

/-- The first slot of channel `c` from slot `k` on, within one grid frame. -/
def State.nextSlot (s : State) (c k : Nat) : Option Nat :=
  ((upto 8).map (· + k)).find? (s.slotHeld c)

/-- The instant at which a due flash of sink `n` fires: the first that lies 4,000 ticks after the start of a slot of
TRIM_CHAN and meets R495. -/
def State.flashAt (s : State) (n : Nat) : Option (Nat × Nat) :=
  let l := s.led n
  match l.lastRef, l.flashDue with
  | some r, some due =>
    if due ≤ s.period ∧ s.ledIn n Rg.ledEn = 1 ∧ s.ledIn n Rg.ledTrimEn = 1 ∧ l.flash.isNone ∧ l.active.isNone
        ∧ s.fieldOk ∧ ¬ l.off.blocks then
      let lo := max (max s.now (r + s.rd Rg.ledTrimDelay n)) (match l.lastEnd with | some e => e + 1250 | none => 0)
      let k0 := ceilDiv (lo - 4000) 31250
      match s.nextSlot (s.rd Rg.ledTrimChan n) k0 with
      | some k =>
        let t := 31250 * k + 4000
        let before : Bool := match l.pend with | p :: _ => decide (t + 11250 ≤ p.start) | [] => true
        if t + 10000 ≤ r + s.rd Rg.ledTrimDelay n + s.rd Rg.ledTrimSpan n ∧ before then some (t, k) else none
      | none => none
    else none
  | _, _ => none

/-- TRIM_FLASH_START: a due flash fires at the first allowed instant, at I_T (R495, R496). -/
def State.flashStart (s : State) (n : Nat) : State :=
  match s.flashAt n with
  | none => s
  | some (t, k) =>
    let s1 := (s.reach t).bump Rg.ledTrimFlashes n
    let f : Flash := { start := t, current := s.ledIT n, slot := k }
    (s1.modLed n (fun l => { l with flash := some f
                                    flashDue := some (s1.period + max 1 (s1.rd Rg.ledTrimEvery n)) })).litAdd t (t + 10000)

def doTrimFlashStart (n : LedId) (s : State) : State := if s.bellowsServes then s.flashStart n.val else s

/-- A measurement is discarded, counted in TRIM_BAD and raised as E0921 (R497). -/
def State.trimBad (s : State) (n : Nat) : State := (s.bumpSat Rg.ledTrimBad n).raiseLim 64 921 n n 0

/-- TRIM_FLASH_END: after 10,000 ticks; its measurement is taken when its slot has ended (R496, R497). -/
def State.flashEnd (s : State) (n : Nat) : State :=
  match (s.led n).flash with
  | none => s
  | some f =>
    let s1 := (s.reach (f.start + 10000)).modLed n (fun l => { l with flash := none })
    let c := s.rd Rg.ledTrimChan n
    if s.rd Rg.saEn c = 0 ∨ s.rd Rg.saPreset c = 3 ∨ 2 ≤ s.rd Rg.saBlank c then s1.trimBad n
    else s1.modLed n (fun l => { l with measure := some f })

def doTrimFlashEnd (n : LedId) (s : State) : State := s.flashEnd n.val

/-- TRIM_CAPTURE: a write of CAPTURE makes an LREF capture pending (R498). -/
def doTrimCapture (m : MasterId) (n : LedId) (s : State) : State :=
  s.withRight m.val (0x400100 + 0x80 * n.val) .run
    (fun st => st.modLed n.val (fun l => { l with capture := true }))

/-- Round a quotient of integers to the nearest whole number: the floor of the quotient plus one half. -/
def roundDiv (a b : Int) : Int := if b = 0 then 0 else (2 * a + b) / (2 * b)

/-- The loop acts on the mean of AVG measurements (R498). -/
def State.trimAct (s : State) (n : Nat) (mean : Int) : State :=
  let iT : Int := s.ledIT n
  let iSet : Int := clamp 50 3000 (s.rd Rg.ledISet n)
  if mean ≤ 0 then s.bumpSat Rg.ledTrimBad n
  else if s.rd Rg.ledLref n = 0 ∨ (s.led n).capture then
    (s.wr Rg.ledLref (roundDiv (256 * mean) iT).toNat n).modLed n (fun l => { l with capture := false })
  else
    let trim := s.rdI Rg.ledTrim n
    let step : Int := max 1 (s.rd Rg.ledTrimStepMax n)
    let t1 := roundDiv ((1024 + trim) * (s.rd Rg.ledLref n : Int) * iSet) (256 * mean) - 1024
    let t2 := clampI (trim - step) (trim + step) t1
    if t2 < -128 ∨ 127 < t2 then
      ((s.wr Rg.ledTrimLimit 1 n).raiseLim 64 920 n n 0).wrI Rg.ledTrim (clampI (-128) 127 t2) n
    else (s.wr Rg.ledTrimLimit 0 n).wrI Rg.ledTrim t2 n

/-- One valid measurement: after AVG of them the loop acts on their rounded mean, which LAST_M holds (R498). -/
def State.trimMeasure (s : State) (n : Nat) (m : Int) : State :=
  let avg := max 1 (s.rd Rg.ledTrimAvg n)
  let l := s.led n
  if avg ≤ l.avgCount + 1 then
    let mean := roundDiv (l.avgSum + m) (l.avgCount + 1)
    ((s.wrI Rg.ledTrimLastM mean n).modLed n (fun l => { l with avgSum := 0, avgCount := 0 })).trimAct n mean
  else s.modLed n (fun l => { l with avgSum := l.avgSum + m, avgCount := l.avgCount + 1 })

/-! ### The drop and rise of the domain (R387, R677, R679) -/

/-- BELLOWS begins to drop: pending pulses are cancelled and counted in the FAULT skip counter (R677), and the standing
reservations are released (R679). -/
def State.bellowsDropping (s : State) : State :=
  s.each (upto 8) (fun st n =>
    let k := (st.led n).pend.length
    let st1 := (st.addSat Rg.ledSkFault k n).modLed n (fun l => { l with pend := [], starts := [] })
    let st2 := { st1 with standing := kvSet 0 st1.standing (11 + n) 0 }
    (st2.addSat Rg.doutSkips (st2.dout n).pend.length n).modDout n (fun d => { d with pend := [] }))

/-- A pulse or a flash is in progress: BELLOWS has not quiesced (R677). -/
def State.bellowsBusy (s : State) : Bool :=
  (upto 8).any (fun n => (s.led n).active.isSome || (s.led n).flash.isSome || (s.dout n).active.isSome)

/-- BELLOWS is UP again: encoders lose VALID, every Quench state starts at FAIL_STEP with QFAULT set (R387), a held output
that turned off in limit has OVERLOAD set (R686), and the reservations are tested (R679). -/
def State.bellowsRisen (s : State) : State :=
  let s1 := s.each (upto 4) (fun st e => (st.wr Rg.encValid 0 e).wr Rg.encPos 0 e)
  let s2 := s1.each (upto 8) (fun st n =>
    let st1 := (st.wr Rg.ledQStep (min 4 (st.rd Rg.ledFailStep n)) n).wr Rg.ledQFault 1 n
    let st2 := st1.modLed n (fun _ => { lastSample := s.now, off := if st.on Rg.ledShort n then .held else .clear })
    let st3 := if (st.dout n).heldOver then st2.wr Rg.doutOverload 1 n else st2
    st3.modDout n (fun d => { on := d.on, offSince := s.now, off := if st3.on Rg.doutOverload n then .held else .clear }))
  let s3 := { s2 with blw := { leds := s2.blw.leds, douts := s2.blw.douts } }
  s3.strobeRetest

end Sys2Proof.Machine
end

