-- ==== Sys2Proof/Machine/Sfe.lean ====
section
/-! DEFINITION. The sensor front end, analogue side: the slot grid, channels, routing, excitation, guards and the impedance
check (R391 to R429). -/
namespace Sys2Proof.Machine

/-! ### Access to the parts -/

def State.chan (s : State) (n : Nat) : ChanSt := kvGet {} s.sfe.chans n

def State.modChan (s : State) (n : Nat) (f : ChanSt → ChanSt) : State :=
  { s with sfe := { s.sfe with chans := kvMod {} s.sfe.chans n f } }

def State.exc (s : State) (x : Nat) : ExcSt := kvGet {} s.sfe.excs x

def State.modExc (s : State) (x : Nat) (f : ExcSt → ExcSt) : State :=
  { s with sfe := { s.sfe with excs := kvMod {} s.sfe.excs x f } }

/-- A setting of a channel in force since its last sample boundary (R449, R474). -/
def State.chanIn (s : State) (n : Nat) (f : Fld) : Nat := kvGet (f.reset 0 0) (s.chan n).force (f.key 0 0)

/-- Whether a channel is enabled, and runs: SFE is UP and its pads are released (Table Power.8). -/
def State.chanOn (s : State) (n : Nat) : Bool := s.on Rg.saEn n

def State.chanRuns (s : State) (n : Nat) : Bool := s.chanOn n && s.domainUp 4 && !s.padHeld 2

/-! ### Presets and slots (R392 to R396) -/

/-- Slot positions in a grid frame, grid frames in a sample, and slots in a sample, by preset (Table SFE-A.1). -/
def presetPositions (p : Nat) : Nat := [8, 4, 2, 1].getD p 1
def presetFrames (p : Nat) : Nat := [1, 1, 10, 100].getD p 100
def presetSlots (p : Nat) : Nat := [1, 4, 20, 100].getD p 100

/-- BLANK in clocks (Table SFE-A.4). -/
def blankClocks (code : Nat) : Nat := if code = 0 then 16 else if code = 1 then 32 else 64

/-- Positions of group k that its enabled channels hold. -/
def State.groupSlots (s : State) (k : Nat) : Nat :=
  [k, k + 8, k + 16].foldl (fun m c => if s.chanOn c then m ||| s.rd Rg.saSlots c else m) 0

/-- The lowest `n` free positions of a group, if it has so many (R395). -/
def State.freeSlots (s : State) (k n : Nat) : Option Nat :=
  let free := (upto 8).filter (fun i => !(s.groupSlots k).testBit i)
  if n ≤ free.length then some ((free.take n).foldl (fun m i => m + 2 ^ i) 0) else none

/-- The modulator that serves group k for a channel that is enabled now (R504). -/
def State.groupMod (s : State) (k : Nat) : Nat :=
  if s.rd Rg.modGroup 8 = k ∧ s.rd Rg.calPhase ≠ 4 then 8 else k

/-! ### Range tags (R411, R412) -/

def State.gainMax (s : State) (n : Nat) : Nat := s.rd Rg.saGainMax n

def State.gainMin (s : State) (n : Nat) : Nat := min (s.rd Rg.saGainMin n) (s.gainMax n)

def State.rangeFixed (s : State) (n : Nat) : Bool := s.rd Rg.saRangeMode n == 1

/-- A write of GAIN or RANGE_MODE waits for the next sample boundary (R411, R428). -/
def State.rangeWrite (s : State) (n : Nat) (f : Fld) (v : Nat) : State :=
  (s.wr f v n).modChan n (fun c => { c with rangeWritten := true })

/-! ### Routing (R397 to R402) -/

/-- The drives of pin p: force and return of the sources whose DEST is 1, and the bias (Table SFE-A.2). -/
def State.pinDrives (s : State) (p : Nat) : List Nat :=
  (upto 4).foldl (fun l x =>
      if s.on Rg.excDest x then
        l ++ (if s.rd Rg.excXpF x = p then [1] else []) ++ (if s.rd Rg.excXpRtn x = p then [2] else [])
      else l) []
    ++ (if s.rd Rg.xpBias p ≠ 0 then [3] else [])

/-- Pin p is an input of an enabled Tongs channel. -/
def State.pinInput (s : State) (p : Nat) : Bool :=
  ((upto 24).drop 16).any (fun n => s.chanOn n && (s.rd Rg.saXpP n == p || s.rd Rg.saXpN n == p))

/-- The routing is legal (R399). -/
def State.routingLegal (s : State) : Bool :=
  (upto 16).all (fun p => decide ((s.pinDrives p).length ≤ 1)) &&
  ((upto 24).drop 16).all (fun n => !s.chanOn n || s.rd Rg.saXpP n != s.rd Rg.saXpN n) &&
  (upto 4).all (fun x => !s.on Rg.excDest x || s.rd Rg.excXpF x != s.rd Rg.excXpRtn x)

/-- DRIVE and INPUT of the pins follow the routing (Table SFE-A.6). -/
def State.pinSync (s : State) : State :=
  s.each (upto 16) (fun st p => (st.wr Rg.xpDrive ((st.pinDrives p).headD 0) p).wr Rg.xpInput (b2n (st.pinInput p)) p)

def RouteFld.fld : RouteFld → Fld
  | .xpP _ => Rg.saXpP | .xpN _ => Rg.saXpN | .xpF _ => Rg.excXpF | .xpRtn _ => Rg.excXpRtn
  | .dest _ => Rg.excDest | .bias _ => Rg.xpBias

def RouteFld.idx : RouteFld → Nat
  | .xpP n => n.val | .xpN n => n.val | .xpF x => x.val | .xpRtn x => x.val | .dest x => x.val | .bias p => p.val

/-- The times at which a routing field may be written (R400). -/
def State.routeOpen (s : State) : RouteFld → Bool
  | .xpP n => !s.chanOn n.val
  | .xpN n => !s.chanOn n.val
  | .xpF x => !(upto 24).any (fun n => s.chanOn n && s.rd Rg.saExcSel n == x.val + 1)
  | .xpRtn x => !(upto 24).any (fun n => s.chanOn n && s.rd Rg.saExcSel n == x.val + 1)
  | .dest x => !(upto 24).any (fun n => s.chanOn n && s.rd Rg.saExcSel n == x.val + 1)
  | .bias p => !s.pinInput p.val

/-- The state with the routing fields of a list stored. -/
def State.routed (s : State) (l : List (RouteFld × Nat)) : State := s.each l (fun st e => st.wr e.1.fld e.2 e.1.idx)

/-- A routing change may be made: each field is open, and the result is legal (R399, R400). -/
def State.routeMay (s : State) (l : List (RouteFld × Nat)) : Bool :=
  l.all (fun e => s.routeOpen e.1) && (s.routed l).routingLegal

/-- A routing change: it is made whole or ignored (R400, R401). -/
def State.route (s : State) (l : List (RouteFld × Nat)) : State := if s.routeMay l then (s.routed l).pinSync else s

/-- The address of a routing field's register. -/
def RouteFld.addr (r : RouteFld) : Nat := r.fld.base + r.fld.s1 * r.idx

/-- The field exists: only S16 to S23 have XP_P and XP_N (Table SFE-A.4). -/
def RouteFld.there : RouteFld → Bool
  | .xpP n => decide (16 ≤ n.val)
  | .xpN n => decide (16 ≤ n.val)
  | _ => true

/-- SFE_ROUTING_WRITE: one write of routing fields by master `m`, who needs Set on each object. -/
def doSfeRoutingWrite (m : MasterId) (l : List (RouteFld × Word)) (s : State) : State :=
  match l.find? (fun e => !s.rightAt m.val e.1.addr .set) with
  | some e => s.withRight m.val e.1.addr .set (fun st => st)
  | none => s.withRight m.val (match l with | e :: _ => e.1.addr | [] => 0x3A0000) .set
      (fun st => st.route ((l.filter (fun e => e.1.there)).map (fun e => (e.1, e.2.toNat))))

/-! ### Enabling and disabling (R395, R396, R471) -/

/-- The settings of the digital chain that wait for a sample boundary (R449, R474). -/
def chanForceFields : List Fld :=
  [Rg.sdFirSrc, Rg.sdMinph, Rg.sdSpike, Rg.sdSpikeThr, Rg.sdLinMode, Rg.sdLinTable, Rg.sdTchan]

/-- A channel's chain starts afresh: the comb-integrator stage is cleared, every setting is in force, and a check falls
due at its first slot (R396, R415, R436, R450). What it has posted since its enable stays posted over a drop of the domain
(R458, R472). -/
def State.chanStart (s : State) (n : Nat) : State :=
  let c := s.copyOf n chanForceFields
  let due := s.on Rg.sfeToneEn && s.rd Rg.saCheckS n != 0
  let s1 := s.modChan n (fun old =>
    { enabledAt := s.now, force := c, checkDue := due, posted := old.posted, before := old.before })
  let s2 := s1.wr Rg.saRange (if s.rangeFixed n then s.rd Rg.saGain n else s.gainMin n) n
  s2.wr Rg.saChecking 0 n

/-- The group of a channel has the free slot positions that its preset takes, or the channel has them (R395). -/
def State.chanMayEnable (s : State) (n : Nat) : Bool :=
  s.chanOn n || (s.freeSlots (n % 8) (presetPositions (s.rd Rg.saPreset n))).isSome

/-- SFE_CHANNEL_ENABLE: the channel takes the lowest free positions of its group; without enough of them, or with an
illegal routing, the enable fails. -/
def State.chanEnable (s : State) (n : Nat) : State :=
  if s.chanOn n then s
  else
    match s.freeSlots (n % 8) (presetPositions (s.rd Rg.saPreset n)) with
    | none => s
    | some m =>
      let s1 := ((s.wr Rg.saEn 1 n).wr Rg.saSlots m n).wr Rg.saMod (s.groupMod (n % 8)) n
      if s1.routingLegal then (s1.chanStart n).pinSync else s

/-- A check of the channel ends without a result (R425). -/
def State.checkAbandon (s : State) (n : Nat) : State := s.wr Rg.saChecking 0 n

/-- SFE_CHANNEL_DISABLE: the sample in progress is discarded and the slots are free; the result words stay. -/
def State.chanDisable (s : State) (n : Nat) : State :=
  if s.chanOn n then
    let s1 := ((s.wr Rg.saEn 0 n).wr Rg.saSlots 0 n).checkAbandon n
    let s2 := s1.modChan n (fun c => { last := c.last })
    { s2 with sfe := { s2.sfe with rot := { s2.sfe.rot with toMove := s2.sfe.rot.toMove.erase n } } }.pinSync
  else s

def sfeAddr (n off : Nat) : Nat := 0x3A0000 + 0x40 * n + off

/-! ### Source and pin limits (R402, R407, R408, R419) -/

/-- Status bits of a channel's faults, as its register holds them. -/
def State.chanFaults (s : State) (n : Nat) : Nat :=
  128 * s.rd Rg.saOpenF n + 64 * s.rd Rg.saShort n + 32 * s.rd Rg.saLeak n

/-- Change a fault bit of a channel; a change raises E0832 + n (R418, R419). -/
def State.chanFault (s : State) (f : Fld) (v : Nat) (n : Nat) : State :=
  if s.rd f n = v then s else let s1 := s.wr f v n; s1.raise (832 + n) n (s1.chanFaults n)

/-- A channel that selects a source shows its LEAK (R418). -/
def State.leakShow (s : State) (n : Nat) : State :=
  let sel := s.rd Rg.saExcSel n
  if 1 ≤ sel ∧ sel ≤ 4 then s.chanFault Rg.saLeak (s.rd Rg.excLeak (sel - 1)) n else s

/-- The channels that select source x. -/
def State.selecting (s : State) (x : Nat) : List Nat := (upto 24).filter (fun n => s.rd Rg.saExcSel n == x + 1)

/-- The end of the 64th slot of a check that began at tick t. -/
def State.checkStop (s : State) (n t : Nat) : Nat :=
  let k := t / 31250
  let p := max 1 (presetPositions (s.rd Rg.saPreset n))
  let last := k + 8 * (64 / p) - 1
  match ((upto 8).map (fun i => last - i)).find? (s.slotHeld n) with
  | some q => 31250 * (q + 1)
  | none => t

/-- A check of the channel ends without a result, unless it has reached its end on this tick: then it is applied as well as
what would end it (R425, R426). -/
def State.checkCut (s : State) (n : Nat) : State :=
  match (s.chan n).checkStart with
  | some t => if s.now < s.checkStop n t then s.checkAbandon n else s
  | none => s.checkAbandon n

/-- EXC_LIMIT: a voltage source has been above 12 mA for 1 ms. It turns off and latches LIMIT, SHORT is set on every
channel that selects it, and their checks end without a result (R407, R419, R425). -/
def State.excLimit (s : State) (x : Nat) : State :=
  if s.rd Rg.excMode x = 2 ∧ s.rd Rg.excLimit x = 0 ∧ s.domainUp 4 then
    let s1 := (s.wr Rg.excLimit 1 x).raise (856 + x) x 4
    s1.each (s1.selecting x) (fun st n => (st.chanFault Rg.saShort 1 n).checkCut n)
  else s

def doExcLimit (x : Fin 4) (s : State) : State := s.excLimit x.val

/-- EXC_LIMIT_CLEAR: a write of 1 to LIMIT. -/
def doExcLimitClear (m : MasterId) (x : Fin 4) (s : State) : State :=
  s.withRight m.val (0x3A0808 + 0x20 * x.val) .run (fun st => st.wr Rg.excLimit 0 x.val)

/-- BIAS_LIMIT: a bias pin has been in limit for 1 ms (R402). -/
def doBiasLimit (p : Fin 16) (s : State) : State :=
  if s.rd Rg.xpBias p.val ≠ 0 ∧ s.domainUp 4 then s.wr Rg.xpBiasLimit 1 p.val else s

/-- GUARD_LIMIT: a guard has been loaded above 1 mA for 1 ms (R408). -/
def doGuardLimit (g : Fin 4) (s : State) : State :=
  if s.on Rg.grdEn g.val && s.domainUp 4 then (s.wr Rg.grdLimit 1 g.val).raise (884 + g.val) g.val 1 else s

/-! ### The impedance check (R414 to R420, R423) -/

/-- A rotation is handing over the channel's group (R423, R486). -/
def State.handingOver (s : State) (n : Nat) : Bool :=
  (s.rd Rg.calPhase == 2 || s.rd Rg.calPhase == 4) && s.rd Rg.calGroup == n % 8

/-- Ticks from a check to the next one (R415). -/
def State.checkEvery (s : State) (n : Nat) : Nat :=
  if s.chanFaults n ≠ 0 then msTicks (max 1 (s.rd Rg.sfeRecheckMs)) else msTicks (1000 * s.rd Rg.saCheckS n)

/-- CHECK_START: a check that is due begins at the channel's next slot. -/
def State.checkBegin (s : State) (n : Nat) : State :=
  let c := s.chan n
  if s.chanRuns n && s.on Rg.sfeToneEn && s.rd Rg.saCheckS n != 0 && s.rd Rg.saChecking n == 0 && !s.handingOver n then
    let t := if c.checkDue then s.now else match c.checkStart with
      | some t0 => max s.now (t0 + s.checkEvery n) | none => s.now
    match s.nextSlot n (ceilDiv t 31250) with
    | some k => ((s.reach (31250 * k)).wr Rg.saChecking 1 n).modChan n
        (fun c => { c with checkStart := some (31250 * k), checkDue := false })
    | none => s
  else s

def doCheckStart (n : ChanId) (s : State) : State := s.checkBegin n.val

/-- CHECK_NOW: makes a check due at once; it is ignored with CHECK_S = 0 or TONE_EN = 0 (R415). -/
def State.checkNow (s : State) (n : Nat) : State :=
  if s.chanOn n && s.on Rg.sfeToneEn && s.rd Rg.saCheckS n != 0 then s.modChan n (fun c => { c with checkDue := true })
  else s

def doCheckNow (m : MasterId) (n : ChanId) (s : State) : State :=
  s.withRight m.val (sfeAddr n.val 8) .run (fun st => st.checkNow n.val)

/-- A fault bit after a check: set at once when the check fails for its reason; cleared after 2 checks in a row that do
not, once a source fault that sets it has gone (R418, R419). The answer holds the new count of passes. -/
def State.checkBit (s : State) (f : Fld) (n : Nat) (fails keeps : Bool) (passes : Nat) : State × Nat :=
  if fails then (s.chanFault f 1 n, 0)
  else if keeps then (s, 0)
  else if 2 ≤ passes + 1 then (s.chanFault f 0 n, passes + 1) else (s, passes + 1)

/-- LEAK of a source after a check of one of its channels; it shows on every channel that selects the source. -/
def State.checkLeak (s : State) (x : Nat) (fails : Bool) : State :=
  let passes := if fails then 0 else (s.exc x).passLeak + 1
  let s1 := s.modExc x (fun e => { e with passLeak := passes })
  let show_ := fun (st : State) (v : Nat) =>
    (st.wr Rg.excLeak v x).each (st.selecting x) (fun st n => st.chanFault Rg.saLeak v n)
  if fails then show_ s1 1 else if 2 ≤ passes then show_ s1 0 else s1

/-- CHECK_END: the impedance `z` in 0.1 Ω, 0xFFFF_FFFF for a tone that saturates the injector too, and the balance of the
source in nA come from outside (R416 to R418). -/
def State.checkEnd (s : State) (n z : Nat) (iDiff : Int) : State :=
  if s.rd Rg.saChecking n = 0 then s
  else
    let c := s.chan n
    let s0 := s.reach (s.checkStop n (c.checkStart.getD s.now))
    let s1 := ((s0.wr Rg.saChecking 0 n).wr Rg.saZLast z n).bump Rg.saChecks n
    let sel := s.rd Rg.saExcSel n
    let x := sel - 1
    let opn := decide (z = 0xFFFFFFFF) || decide (10 * s.rd Rg.saZOpen n < z)
    let sht := decide (z < 10 * s.rd Rg.saZShort n)
    let measured := decide (1 ≤ sel) && decide (sel ≤ 4) && s.on Rg.excChop x
    let leak := measured && s.rd Rg.excMode x != 2 && decide (s.rd Rg.excLeakNa x < iDiff.natAbs)
    let s2 := if measured then s1.wrI Rg.excIDiff iDiff x else s1
    let s3 := if opn || sht || leak then s2.bumpSat Rg.saFails n else s2
    let a := s3.checkBit Rg.saOpenF n opn (decide (1 ≤ sel ∧ sel ≤ 4) && s.on Rg.excComply x) c.passOpen
    let b := a.1.checkBit Rg.saShort n sht (decide (1 ≤ sel ∧ sel ≤ 4) && s.on Rg.excLimit x) c.passShort
    let s4 := b.1.modChan n (fun c => { c with passOpen := a.2, passShort := b.2 })
    if 1 ≤ sel ∧ sel ≤ 4 then s4.checkLeak x leak
    else
      let d := s4.checkBit Rg.saLeak n false false c.passLeak
      d.1.modChan n (fun c => { c with passLeak := d.2 })

/-- A source in compliance for 64 halves clears COMPLY; a current source that could not hold its current for a whole half
sets it, and OPEN on every channel that selects it (R406, R419). -/
def State.complyHalf (s : State) (failing : Nat) (x : Nat) : State :=
  if s.rd Rg.excMode x = 1 ∧ failing.testBit x then
    let s1 := s.modExc x (fun e => { e with good := 0 })
    if s.on Rg.excComply x then s1
    else
      let s2 := (s1.wr Rg.excComply 1 x).raise (856 + x) x 2
      s2.each (s2.selecting x) (fun st n => st.chanFault Rg.saOpenF 1 n)
  else
    let g := min 64 ((s.exc x).good + 1)
    let s1 := s.modExc x (fun e => { e with good := g })
    if 64 ≤ g then s1.wr Rg.excComply 0 x else s1

/-- The sources whose CHOP is 1 reverse at the boundary that begins half `h` (R404). -/
def State.excReverse (s : State) (h : Nat) : State :=
  s.each (upto 4) (fun st x => st.modExc x (fun e => { e with reversed := st.on Rg.excChop x && decide (h % 2 = 1) }))

/-- A pin of enabled channel n lay beyond its limits for a whole half (R421). -/
def State.overvolt (s : State) (n : Nat) : State :=
  if s.chanOn n then
    let s1 := ((s.wr Rg.saOvervolt 1 n).bumpSat Rg.saOvervoltN n).raiseLim 64 (860 + n) 0 n 8
    s1.modChan n (fun c => { c with acc := { c.acc with exceeds := true } })
  else s

end Sys2Proof.Machine
end

