-- ==== Sys2Proof/Machine/Flicker.lean ====
section
/-! DEFINITION. The flicker lock (R499 to R503, R510), with its trigonometry in fixed point. -/
namespace Sys2Proof.Machine

/-! ### Fixed-point trigonometry: one is 2^60 -/

def fxOne : Int := 2 ^ 60

/-- 2π in fixed point. -/
def fxTwoPi : Int := 7244019458077122842

def fxMul (a b : Int) : Int := a * b / fxOne

/-- Terms of the Taylor series of sine and cosine: the running term is multiplied by −z² / (k(k + 1)). -/
def fxSeries (z2 : Int) : Nat → Int → Int → Int → Int
  | 0, _, _, acc => acc
  | fuel + 1, k, term, acc =>
    let t := -(fxMul term z2) / (k * (k + 1))
    fxSeries z2 fuel (k + 2) t (acc + t)

/-- Sine and cosine of a fixed-point angle in radians from −π to π. -/
def fxSin (z : Int) : Int := fxSeries (fxMul z z) 16 2 z z
def fxCos (z : Int) : Int := fxSeries (fxMul z z) 16 1 fxOne fxOne

/-- A phase in cycles as a fixed-point angle from −π to π. -/
def fxAngle (cycles : Rat) : Int :=
  let f := ratFrac cycles
  let g : Rat := if f < 1 / 2 then f else f - 1
  fxMul (g * (fxOne : Rat)).floor fxTwoPi

/-- Halve an interval of angles, in cycles, that holds the angle of the point (x, y) in the first quadrant. -/
def fxBisect (x y : Int) : Nat → Rat → Rat → Rat
  | 0, lo, _ => lo
  | fuel + 1, lo, hi =>
    let mid := (lo + hi) / 2
    let z := fxAngle mid
    if x * fxSin z ≤ y * fxCos z then fxBisect x y fuel mid hi else fxBisect x y fuel lo mid

/-- atan2(q, i) / 2π in cycles, from −1/2 to 1/2, to 2^-40. -/
def fxAtan2 (q i : Int) : Rat :=
  let a := fxBisect (i.natAbs : Int) (q.natAbs : Int) 40 0 (1 / 4)
  let b : Rat := if 0 ≤ i then a else 1 / 2 - a
  if 0 ≤ q then b else -b

/-- Newton's steps towards the integer square root. -/
def sqrtStep (n : Nat) : Nat → Nat → Nat
  | 0, x => x
  | fuel + 1, x => let y := (x + n / max 1 x) / 2; if y < x then sqrtStep n fuel y else x

def natSqrt (n : Nat) : Nat := if n = 0 then 0 else sqrtStep n 200 (2 ^ (Nat.log2 n / 2 + 1))

/-! ### The lock -/

def State.modFlk (s : State) (f : FlickerSt → FlickerSt) : State := { s with sfe := { s.sfe with flk := f s.sfe.flk } }

/-- The nominal frequency in Hz: 100 or 120 (R500). -/
def State.flkNominal (s : State) : Rat :=
  let m := s.rd Rg.flkMains
  if m = 1 then 100 else if m = 2 then 120 else if s.sfe.flk.sixty then 120 else 100

/-- WIN in tens of ms; 0 is taken as 1. -/
def State.flkWin10 (s : State) : Nat := max 1 (s.rd Rg.flkWin)

/-- The window's length in ticks. -/
def State.flkWinTicks (s : State) : Nat := msTicks (10 * s.flkWin10)

/-- FLK_STEP of every lane with a line time, while locked; 0 otherwise (R503). -/
def State.flkSteps (s : State) : State :=
  s.each (upto 64) (fun st n =>
    let ns := st.rd Rg.lnFlkLineNs n
    let v := if ns = 0 ∨ st.rd Rg.flkLocked = 0 then 0
      else min 65535 (ratRound (1000000000 / (st.sfe.flk.freq * (ns : Rat)))).toNat
    if st.rd Rg.lnFlkStep n = v then st else st.wr Rg.lnFlkStep v n)

/-- The lock starts afresh: phase 0 at this tick, at the nominal frequency. -/
def State.flkStart (s : State) : State :=
  let s1 := s.modFlk (fun _ => { windowEnd := some (s.now + s.flkWinTicks), phaseAt := s.now })
  ((s1.modFlk (fun k => { k with freq := s1.flkNominal })).wr Rg.flkLocked 0).flkSteps

/-- Its channel runs under DASH or BRISK (R499). -/
def State.flkChanOk (s : State) : Bool := decide (s.rd Rg.saPreset (s.rd Rg.flkChan) < 2)

/-- FLK_EN takes a value. -/
def State.flkEnSet (s : State) (v : Nat) : State :=
  if v = 1 then (if s.on Rg.flkEn then s else (s.wr Rg.flkEn 1).flkStart) else ((s.wr Rg.flkEn 0).wr Rg.flkLocked 0).flkSteps

/-- The channel of the flicker lock runs under a preset that allows it (R499). -/
def State.flkMayRun (s : State) : Bool := s.flkChanOk && s.chanOn (s.rd Rg.flkChan)

/-- FLK_EN_WRITE: accepted only if FLK_CHAN runs under DASH or BRISK (R499). -/
def State.flkEnWrite (s : State) (v : Nat) : State := if v = 1 ∧ !s.flkMayRun then s else s.flkEnSet v

def doFlkEnWrite (m : MasterId) (v : Bool) (s : State) : State :=
  s.withRight m.val 0x3C2100 .set (fun st => st.flkEnWrite (b2n v))

/-- The lock judges a window by D, in units of 0.01 %, e in cycles, and whether f is at its clamp or the window is void
(R502). -/
def State.flkJudge (s : State) (depth : Rat) (e : Rat) (void clamped : Bool) : State :=
  let dmin : Rat := 10 * (s.rd Rg.flkDepthMin : Rat)
  let ok := !void && decide (dmin ≤ depth) && decide (e ≤ 1 / 64) && decide (-(1 / 64 : Rat) ≤ e)
  let poor := void || clamped || decide (depth < dmin / 2) || decide (1 / 16 < e) || decide (e < -(1 / 16 : Rat))
  if s.on Rg.flkLocked then
    let bad := if poor then s.sfe.flk.bad + 1 else 0
    let s1 := s.modFlk (fun k => { k with bad := bad })
    if 2 ≤ bad then
      ((((s1.wr Rg.flkLocked 0).bumpSat Rg.flkUnlocks).raise 923 (s.rd Rg.flkChan) 0)).modFlk
        (fun k => { k with bad := 0, good := 0, tries := 0 })
    else s1
  else
    let good := if ok then s.sfe.flk.good + 1 else 0
    let s1 := s.modFlk (fun k => { k with good := good, tries := k.tries + 1 })
    if 4 ≤ good then
      ((s1.wr Rg.flkLocked 1).raise 922 (s.rd Rg.flkChan) 0).modFlk (fun k => { k with good := 0, bad := 0, tries := 0 })
    else if 8 ≤ s1.sfe.flk.tries ∧ s.rd Rg.flkMains ≠ 1 ∧ s.rd Rg.flkMains ≠ 2 then
      let s2 := s1.modFlk (fun k => { k with sixty := !k.sixty, tries := 0, good := 0 })
      s2.modFlk (fun k => { k with freq := s2.flkNominal })
    else s1

/-- A window closes at tick tc: the model of the phase is updated and lock is judged (R501, R502). -/
def State.flkClose (s : State) (tc : Nat) : State :=
  let k := s.sfe.flk
  let n := k.samples.length
  let next := fun (st : State) => st.modFlk (fun k =>
    { k with windowEnd := some (tc + st.flkWinTicks), samples := [], voided := false })
  if k.voided ∨ n = 0 then (next (s.flkJudge 0 0 true false)).flkSteps
  else
    let sum : Int := (k.samples.map Prod.snd).foldl (· + ·) 0
    let angle := fun (t : Int) => fxAngle (k.phase + k.freq * ((t - (k.phaseAt : Int) : Int) : Rat) / 250000000)
    -- n (v_i − v̄) is whole, so the sums below are n times those of R501
    let dev := fun (v : Int) => (n : Int) * v - sum
    let i : Int := (k.samples.map (fun e => dev e.2 * fxCos (angle e.1))).foldl (· + ·) 0
    let q : Int := (k.samples.map (fun e => dev e.2 * fxSin (angle e.1))).foldl (· + ·) 0
    let e : Rat := if i = 0 ∧ q = 0 then (toSigned 16 Config.noAngle.toNat : Rat) / 65536 else fxAtan2 q i
    let root : Nat := natSqrt (i.natAbs * i.natAbs + q.natAbs * q.natAbs)
    let depth : Rat := if sum = 0 then (Config.noDepth.toNat : Rat)
      else 20000 * (root : Rat) / ((n : Rat) * (fxOne : Rat) * (sum.natAbs : Rat))
    let nom := s.flkNominal
    let w : Rat := (s.flkWin10 : Rat) / 100
    let f0 := k.freq - e / (2 * w)
    let lo := nom * 98 / 100
    let hi := nom * 102 / 100
    let f := if f0 < lo then lo else if hi < f0 then hi else f0
    let ph := ratFrac (k.phase + k.freq * (((tc : Int) - (k.phaseAt : Int) : Int) : Rat) / 250000000 - e)
    let s1 := s.modFlk (fun k => { k with freq := f, phase := ph, phaseAt := tc })
    let s2 := ((s1.wr Rg.flkDepth (min 65535 (ratRound depth).toNat)).wr Rg.flkFreq (ratRound (f * 1000)).toNat).wrI
      Rg.flkErr (ratRound (e * 65536))
    (next (s2.flkJudge depth e false (decide (f ≤ lo) || decide (hi ≤ f)))).flkSteps

/-- A sample of FLK_CHAN: stamp, value and flags. Samples marked TONE are skipped; OVERRANGE or IMPEDANCE voids the window,
and so does a gap longer than it (R501, R510). -/
def State.flkSample (s : State) (n stamp : Nat) (v : Int) (flags : Nat) : State :=
  if s.on Rg.flkEn && s.rd Rg.flkChan == n then
    let k := s.sfe.flk
    let gap := match k.lastStamp with | some t => decide (t + s.flkWinTicks < stamp) | none => false
    let s1 := s.modFlk (fun k => { k with lastStamp := some stamp, voided := k.voided || gap || flags % 4 != 0 })
    if flags.testBit 3 then s1
    else
      let s2 := s1.modFlk (fun k => { k with samples := ((stamp : Int) - (s.rd Rg.sdGdelay n : Int), v) :: k.samples })
      match k.windowEnd with
      | some e => if e ≤ stamp then s2.flkClose stamp else s2
      | none => s2
  else s

end Sys2Proof.Machine
end

