-- ==== Sys2Proof/Machine/Rotation.lean ====
section
/-! DEFINITION. The rotation of the spare modulator and the calibration of a modulator (R479 to R491, R504 to R507). -/
namespace Sys2Proof.Machine

def State.modRot (s : State) (f : RotSt → RotSt) : State := { s with sfe := { s.sfe with rot := f s.sfe.rot } }

/-- INTERVAL in ms, at least 1,000. -/
def State.rotInterval (s : State) : Nat := max 1000 (s.rd Rg.calInterval)

/-- The next group whose modulator is not in state FAULT, from `g` on. -/
def State.rotGroup (s : State) (g : Nat) : Option Nat :=
  ((upto 8).map (fun i => (g + i) % 8)).find? (fun k => s.rd Rg.modcState k != 2)

/-- A check is running on a channel of group k (R486). -/
def State.groupChecking (s : State) (k : Nat) : Bool := [k, k + 8, k + 16].any (fun c => s.on Rg.saChecking c)

/-- The enabled channels of a group. -/
def State.groupChans (s : State) (k : Nat) : List Nat := [k, k + 8, k + 16].filter s.chanOn

/-- Begin the calibration of a modulator: its steps are placed from the next Bell. -/
def State.calBegin (s : State) (phase m : Nat) : State :=
  (((s.wr Rg.calPhase phase).wr Rg.calStep 0).wr Rg.modCal 1 m).modRot (fun r => { r with cal := some { modulator := m } })

/-- The rotation is over. -/
def State.rotOver (s : State) : State :=
  (s.wr Rg.calPhase 0).modRot (fun r => { r with cal := none, toMove := [], alone := false })

/-- A handover phase begins once no check runs on the group; a phase whose channels have all moved ends (R484, R486). -/
def State.rotAdvance (s : State) : State :=
  let k := s.rd Rg.calGroup
  let r := s.sfe.rot
  let p := s.rd Rg.calPhase
  if r.cal.isSome then s
  else
    -- HANDOVER_IN begins
    let s1 := if p = 1 ∧ ¬ s.groupChecking k then
        (((s.wr Rg.calPhase 2).wr Rg.modGroup k 8).wr Rg.modGroup 15 k).modRot (fun r => { r with toMove := s.groupChans k })
      else s
    -- every channel has moved in: MOD_CAL, from the next Bell
    let s2 := if s1.rd Rg.calPhase = 2 ∧ s1.sfe.rot.toMove = [] then s1.calBegin 3 k else s1
    if s2.sfe.rot.cal.isSome then s2
    else
      -- HANDOVER_OUT begins after MOD_CAL
      let s3 := if p = 3 ∧ ¬ s2.groupChecking k then
          (s2.wr Rg.calPhase 4).modRot (fun r => { r with toMove := s2.groupChans k })
        else s2
      if s3.rd Rg.calPhase = 4 ∧ s3.sfe.rot.toMove = [] then
        (((s3.wr Rg.modGroup 15 8).wr Rg.modGroup k k).bump Rg.calRotations).rotOver
      else s3

/-- ROTATION_BEGIN: INTERVAL ms after the previous rotation began, or after CAL_NOW. A rotation that falls due while another
runs is late: it begins after that one (R483, R506). Under PARKED or with a faulty spare, only CAL_NOW starts the
calibration of that modulator alone (R491). -/
def State.rotBegin (s : State) : State :=
  let r := s.sfe.rot
  let due := match r.lastBegin with | some t => t + msTicks s.rotInterval | none => 0
  if !s.domainUp 4 then s
  else if s.rd Rg.calPhase ≠ 0 then
    if due ≤ s.now ∧ s.on Rg.calRotEn ∧ ¬ r.late then
      ((s.bumpSat Rg.calLate).raise 919 (s.rd Rg.calGroup) 0).modRot (fun r => { r with late := true })
    else s
  else
    let start := fun (st : State) => st.modRot (fun r => { r with lastBegin := some st.now, now := false, late := false })
    if s.on Rg.calParked then
      (if r.now then ((start s).modRot (fun r => { r with alone := true })).calBegin 3 (s.rd Rg.calGroup) else s)
    else if r.stopped then
      (if r.now then ((start s).modRot (fun r => { r with alone := true })).calBegin 1 8 else s)
    else if r.now ∨ s.on Rg.calRotEn then
      match s.rotGroup r.nextGroup with
      | none => s
      | some k =>
        let s1 := if r.now then s else s.reach due
        ((start s1).wr Rg.calGroup k).calBegin 1 8
    else s

def doRotationBegin (s : State) : State := s.rotBegin

/-- CAL_NOW: begins a rotation at the next Bell, provided none is running (R483, R491). -/
def doCalNow (m : MasterId) (s : State) : State :=
  s.withRight m.val 0x3C2000 .run (fun st =>
    if st.rd Rg.calPhase = 0 then st.modRot (fun r => { r with now := true }) else st)

/-! ### Steps (R480, R481) -/

def isCalJob (j : TJob) : Bool := j.ty == .sfeCal && j.prio == 0 && j.stage != .done

/-- Place the next step at a Bell, in the next row, if it has free admissible SFE capacity; while a row's admissible
capacity is below 512 cycles it is charged to several rows at their full capacity. -/
def State.calPlace (s : State) : State :=
  if s.sfe.rot.cal.isSome && !s.jobs.any isCalJob then
    let adm := s.admNow 10
    let k := s.period + 1
    let job := fun (row cost : Nat) =>
      ({ ty := .sfeCal, unit := 10, row := row, cost := cost, lo := row, hi := row, ordinal := 0, stripe := 0,
         deadline := row } : TJob)
    if adm = 0 then s
    else if 512 ≤ adm then
      (if s.rowCost 10 k + 512 ≤ adm then { s with jobs := s.jobs ++ [job k 512] } else s)
    else { s with jobs := s.jobs ++ (upto (ceilDiv 512 adm)).map (fun i => job (k + i) adm) }
  else s

/-- The sum of a list of pair values, and whether every one lies within ±256 of their mean (R490). -/
def calTight (l : List Int) : Bool :=
  let sum := l.foldl (· + ·) 0
  l.all (fun p => ((l.length : Int) * p - sum).natAbs ≤ 256 * l.length)

/-- The trims that a calibration's pairs give (OFS′, GAIN′), and whether it passes (R489, R490). -/
def calTrims (pairs : List Int) : Int × Int × Bool :=
  let l := pairs.reverse
  let zero := l.take 128
  let pos := (l.drop 128).take 128
  let neg := (l.drop 256).take 128
  let ofs := 4 * zero.foldl (· + ·) 0
  let d := pos.foldl (· + ·) 0 - neg.foldl (· + ·) 0
  -- 1.6 × 2^45 / (4 d) = 2^46 / (5 d)
  let gain := if d = 0 then 0 else (if 0 < d then roundDiv (2 ^ 46) (5 * d) else -(roundDiv (2 ^ 46) (-(5 * d))))
  let ok := decide ((gain - 0x400000).natAbs ≤ 0x20000) && decide (ofs.natAbs ≤ 65536) && d != 0
    && calTight zero && calTight pos && calTight neg
  (ofs, gain, ok)

/-- A calibration has passed: its trims are written. -/
def State.calPass (s : State) (m : Nat) (ofs gain : Int) : State :=
  ((s.wrI Rg.modtGain gain m).wrI Rg.modtOfs ofs m).wr Rg.modcState 0 m

/-- A calibration has failed: OK becomes SUSPECT, SUSPECT becomes FAULT (R490, R491). -/
def State.calFail (s : State) (m : Nat) : State :=
  if s.rd Rg.modcState m = 0 then (s.wr Rg.modcState 1 m).raise 916 m 1
  else if s.rd Rg.modcState m = 1 then (s.wr Rg.modcState 2 m).raise (if m = 8 then 918 else 917) m 2
  else s

/-- The calibration of a modulator ends (R484, R489 to R491). -/
def State.calEnd (s : State) (c : ModCal) : State :=
  let r := calTrims c.pairs
  let m := c.modulator
  let s1 := (s.wr Rg.modCal 0 m).modRot (fun r => { r with cal := none })
  let s2 := if r.2.2 then s1.calPass m r.1 r.2.1 else s1.calFail m
  if m = 8 then
    if r.2.2 then
      (if s2.sfe.rot.alone then (s2.modRot (fun r => { r with stopped := false })).rotOver else s2.rotAdvance)
    else (s2.modRot (fun r => { r with stopped := s2.rd Rg.modcState 8 == 2 })).rotOver
  else
    let s3 := s2.modRot (fun r => { r with nextGroup := (m + 1) % 8 })
    if r.2.2 then ((s3.wr Rg.calParked 0)).rotAdvance
    else if s3.rd Rg.modcState m = 2 then (s3.wr Rg.calParked 1).rotOver
    else s3.rotAdvance

/-- CAL_STEP: a placed step ends with the pair values of its two pairs (R480, R488). -/
def State.calStepDone (s : State) (p q : Int) : State :=
  match s.sfe.rot.cal with
  | none => s
  | some c =>
    let js := s.jobs.filter isCalJob
    if js.isEmpty || js.any (fun j => decide (s.period < j.row)) then s
    else
      let s1 := { s with jobs := s.jobs.filter (fun j => !isCalJob j) }
      let c1 := { c with pairs := q :: p :: c.pairs }
      if 384 ≤ c1.pairs.length then s1.calEnd c1
      else (s1.wr Rg.calStep (c1.pairs.length / 2)).modRot (fun r => { r with cal := some c1 })

def doCalStep (p q : BitVec 18) (s : State) : State := s.calStepDone (toSigned 18 p.toNat) (toSigned 18 q.toNat)

/-- CHECK_END: the impedance in 0.1 Ω and the balance in nA. -/
def doCheckEnd (n : ChanId) (z : Word) (iDiff : Word) (s : State) : State :=
  (s.checkEnd n.val z.toNat (toSigned 32 iDiff.toNat)).rotAdvance

/-- SFE_CHANNEL_ENABLE and SFE_CHANNEL_DISABLE: a write of EN. -/
def doSfeChannelEnable (m : MasterId) (n : ChanId) (s : State) : State :=
  s.withRight m.val (sfeAddr n.val 0) .set (fun st => st.chanEnable n.val)

def doSfeChannelDisable (m : MasterId) (n : ChanId) (s : State) : State :=
  s.withRight m.val (sfeAddr n.val 0) .set (fun st => (st.chanDisable n.val).rotAdvance)

/-- A channel reaches a sample boundary in a handover phase: it moves (R484, R485). -/
def State.handover (s : State) (n : Nat) : State :=
  let p := s.rd Rg.calPhase
  if s.sfe.rot.toMove.contains n ∧ (p = 2 ∨ p = 4) then
    let s1 := s.wr Rg.saMod (if p = 2 then 8 else n % 8) n
    let s2 := s1.modChan n (fun c => { c with swap := true })
    (s2.modRot (fun r => { r with toMove := r.toMove.erase n })).rotAdvance
  else s

/-- The domain drops: the rotation is abandoned, and the groups go back to their modulators but a parked one, and the
next rotation takes the same group (R505). -/
def State.rotAbandon (s : State) : State :=
  let s1 := { s with jobs := s.jobs.filter (fun j => !isCalJob j) }
  let parked := s.on Rg.calParked
  let k := s.rd Rg.calGroup
  let s2 := s1.each (upto 9) (fun st m => st.wr Rg.modCal 0 m)
  let s3 := if parked then s2
    else s2.each (upto 9) (fun st m => st.wr Rg.modGroup (if m = 8 then 15 else m) m)
  let s4 := s3.each (upto 24) (fun st n => if st.chanOn n then st.wr Rg.saMod (if parked && n % 8 == k then 8 else n % 8) n else st)
  let s5 := if parked || s.rd Rg.calPhase == 0 then s4 else s4.modRot (fun r => { r with nextGroup := k })
  s5.rotOver

end Sys2Proof.Machine
end

