-- ==== Sys2Proof/Machine/Binary32.lean ====
section
/-! DEFINITION. IEEE 754 binary32 arithmetic with round-to-nearest-even, on bit patterns (R457): conversion of integers and
of integers times a power of two, addition, multiplication, and rounding to an integer. -/
namespace Sys2Proof.Machine

/-- What a bit pattern stands for: (−1)^neg × mant × 2^exp, an infinity, or no number. -/
inductive F32 where
  | nan
  | inf (neg : Bool)
  | fin (neg : Bool) (mant : Nat) (exp : Int)
  deriving DecidableEq, Repr

/-- Read a bit pattern. -/
def f32Of (w : Nat) : F32 :=
  let neg := w.testBit 31
  let e := bits w 23 8
  let m := bits w 0 23
  if e = 255 then (if m = 0 then .inf neg else .nan)
  else if e = 0 then .fin neg m (-149)
  else .fin neg (m + 2 ^ 23) ((e : Int) - 150)

/-- Quotient by 2^k, rounded to the nearest, ties to even. -/
def shiftEven (a k : Nat) : Nat :=
  let q := a >>> k
  let r := 2 * (a % 2 ^ k)
  if r < 2 ^ k then q else if 2 ^ k < r then q + 1 else q + q % 2

/-- Round mant × 2^exp to binary32 and write it as a bit pattern. -/
def f32Pack (neg : Bool) (mant : Nat) (exp : Int) : Nat :=
  let sign := b2n neg * 2 ^ 31
  if mant = 0 then sign
  else
    let q := max ((Nat.log2 mant : Int) + exp - 23) (-149)
    let m := if q ≤ exp then mant * 2 ^ (exp - q).toNat else shiftEven mant (q - exp).toNat
    sign + min ((q + 149).toNat * 2 ^ 23 + m) 0x7F800000

/-- The pattern used for "not a number". -/
def f32Nan : Nat := 0x7FC00000

/-- An integer times 2^e, rounded once. -/
def f32OfInt (x : Int) (e : Int) : Nat := f32Pack (decide (x < 0)) x.natAbs e

/-- Product. -/
def f32Mul (a b : Nat) : Nat :=
  match f32Of a, f32Of b with
  | .nan, _ => f32Nan
  | _, .nan => f32Nan
  | .inf s, .inf t => b2n (s != t) * 2 ^ 31 + 0x7F800000
  | .inf s, .fin t m _ => if m = 0 then f32Nan else b2n (s != t) * 2 ^ 31 + 0x7F800000
  | .fin s m _, .inf t => if m = 0 then f32Nan else b2n (s != t) * 2 ^ 31 + 0x7F800000
  | .fin s m e, .fin t n f => f32Pack (s != t) (m * n) (e + f)

/-- Sum. -/
def f32Add (a b : Nat) : Nat :=
  match f32Of a, f32Of b with
  | .nan, _ => f32Nan
  | _, .nan => f32Nan
  | .inf s, .inf t => if s = t then b2n s * 2 ^ 31 + 0x7F800000 else f32Nan
  | .inf s, .fin _ _ _ => b2n s * 2 ^ 31 + 0x7F800000
  | .fin _ _ _, .inf t => b2n t * 2 ^ 31 + 0x7F800000
  | .fin s m e, .fin t n f =>
    let g := min e f
    let x : Int := (m : Int) * 2 ^ (e - g).toNat
    let y : Int := (n : Int) * 2 ^ (f - g).toNat
    let z := (if s then -x else x) + (if t then -y else y)
    if z = 0 then b2n (s && t) * 2 ^ 31 else f32Pack (decide (z < 0)) z.natAbs g

/-- Whether a pattern is a finite number. -/
def f32Finite (w : Nat) : Bool := bits w 23 8 != 255

/-- Round to the nearest integer, ties to even, saturated to signed 32 bits: the value, whether it saturated, and whether
the pattern is no number, which gives 0. -/
def f32ToInt (w : Nat) : Int × Bool × Bool :=
  match f32Of w with
  | .nan => (0, false, true)
  | .inf neg => (if neg then -2 ^ 31 else 2 ^ 31 - 1, true, false)
  | .fin neg m e =>
    let a : Int := if 0 ≤ e then (m : Int) * 2 ^ e.toNat else (shiftEven m (-e).toNat : Int)
    let x := if neg then -a else a
    if x < -2 ^ 31 then (-2 ^ 31, true, false) else if 2 ^ 31 - 1 < x then (2 ^ 31 - 1, true, false) else (x, false, false)

end Sys2Proof.Machine
end

