-- ==== Sys2Proof/Machine/SfeBanks.lean ====
section
/-! DEFINITION. FIR and linearisation memory: words, validity, use, commits and swaps (R448, R449, R456 to R460, R475,
R477), and the linearisation of a value (R455 to R458). -/
namespace Sys2Proof.Machine

/-! ### FIR banks -/

/-- Key of tap k of bank b of channel n. -/
def tapKey (n b k : Nat) : Nat := (2 * n + b) * 128 + k

/-- A tap, signed Q1.22; unity at tap 0 and 0 elsewhere after reset (Table SFE-D.6). -/
def State.tap (s : State) (n b k : Nat) : Int := kvGet (if k = 0 then 0x400000 else 0) s.sfe.taps (tapKey n b k)

def State.setTap (s : State) (n b k : Nat) (v : Int) : State :=
  { s with sfe := { s.sfe with taps := kvSet (if k = 0 then 0x400000 else 0) s.sfe.taps (tapKey n b k) v } }

def State.firValid (s : State) (n b : Nat) : Bool := !s.sfe.badFir.contains (2 * n + b)

def State.firLen (s : State) (n b : Nat) : Nat := s.rd (if b = 0 then Rg.sdFirLen0 else Rg.sdFirLen1) n

/-- An FIR bank is in use: an enabled channel's response reads it, or has a swap to it pending (R448, R460). -/
def State.firInUse (s : State) (n b : Nat) : Bool :=
  let a := s.rd Rg.sdFirActive n
  let pend := (s.chan n).firSwapAt.isSome
  s.chanOn n && ((s.chanIn n Rg.sdFirSrc == 1 && a == b) || (pend && 1 - a == b)
    || (!pend && s.rd Rg.sdFirSrc n == 1 && a == b))

/-- A write or commit that finds its bank in use is dropped, sets BUSY and raises E0912 (R460). -/
def State.bankBusy (s : State) : State := (s.wr Rg.bankBusy 1).raise 912 0 0

/-- Write a tap: its bank is no longer valid. -/
def State.firWrite (s : State) (n b k : Nat) (v : Int) : State :=
  if s.firInUse n b then s.bankBusy
  else
    let s1 := s.setTap n b k v
    { s1 with sfe := { s1.sfe with badFir := (2 * n + b) :: s1.sfe.badFir.erase (2 * n + b) } }

/-- Commit an FIR bank with a length from 1 to 128. -/
def State.firCommit (s : State) (n b len : Nat) : State :=
  if 24 ≤ n ∨ s.firInUse n b then s.bankBusy
  else if 1 ≤ len ∧ len ≤ 128 then
    let s1 := (s.wr (if b = 0 then Rg.sdFirLen0 else Rg.sdFirLen1) len n).wr Rg.bankError 0
    { s1 with sfe := { s1.sfe with badFir := s1.sfe.badFir.erase (2 * n + b) } }
  else s.wr Rg.bankError 1

/-- An access to FIR_DATA by a master; FIR_ADDR advances by one. Channels beyond S23 have no bank. -/
def State.firDataWrite (s : State) (m v : Nat) : State :=
  let n := s.rd Rg.firSelChan m
  let s1 := if n < 24 then s.firWrite n (s.rd Rg.firSelBank m) (s.rd Rg.firAddr m) (toSigned 24 v) else s
  s1.bump Rg.firAddr m

def State.firDataRead (s : State) (m : Nat) : State × Nat :=
  let n := s.rd Rg.firSelChan m
  if n < 24 then (s.bump Rg.firAddr m, ofSigned 24 (s.tap n (s.rd Rg.firSelBank m) (s.rd Rg.firAddr m)))
  else let r := s.free 24; (r.1.bump Rg.firAddr m, r.2)

/-- FIR_DATA needs its right on SFE digital and on the channel selected (R653). -/
def State.firRight (s : State) (m : Nat) (r : Right) : Bool :=
  let n := s.rd Rg.firSelChan m
  match s.asTested.tenantOf m with
  | some t => s.asTested.holds t 0x3C none r && (if n < 24 then s.asTested.holds t 0x3C (some n) r else true)
  | none => false

/-- FIR_DATA_ACCESS: a read without a value, a write with one. -/
def doFirDataAccess (m : MasterId) (v : Option (BitVec 24)) (s : State) : State :=
  match v with
  | some w => s.guardWrite m.val 0x3C1008 (s.firRight m.val .set) (fun st => st.firDataWrite m.val w.toNat)
  | none => s.guardRead m.val 0x3C1008 (s.firRight m.val .look) (fun st => st.firDataRead m.val)

/-- FIR_COMMIT: a write of FIR_CMD with COMMIT = 1. -/
def doFirCommit (m : MasterId) (len : BitVec 8) (s : State) : State :=
  s.guardWrite m.val 0x3C100C (s.rightAt m.val 0x3C100C .run && s.rightAt m.val 0x3C100C .set) (fun st => st.firCommit (st.rd Rg.firSelChan m.val) (st.rd Rg.firSelBank m.val) len.toNat)

/-- Note the write of a setting that waits for the next sample boundary (R449, R474). -/
def State.chanNote (s : State) (n : Nat) (f : Fld) : State :=
  s.modChan n (fun c => { c with written := kvPut c.written (f.key 0 0) s.now })

/-- A request to swap the FIR: FIR_SWAP, FIR_SRC or MINPH. A request for a RAM bank that is not valid is ignored
(R449). A channel that is disabled takes it at once. -/
def State.firRequest (s : State) (n which v : Nat) : State :=
  let a := s.rd Rg.sdFirActive n
  let target := if (s.chan n).firSwapAt.isSome then 1 - a else a
  if which = 0 then
    if s.firValid n (1 - a) then
      (if s.chanOn n then s.modChan n (fun c => { c with firSwapAt := c.firSwapAt.orElse (fun _ => some s.now) }) else s.wr Rg.sdFirActive (1 - a) n)
    else s
  else if which = 1 then
    if v = 1 && !s.firValid n target then s else (s.wr Rg.sdFirSrc v n).chanNote n Rg.sdFirSrc
  else (s.wr Rg.sdMinph v n).chanNote n Rg.sdMinph

def sfeDigAddr (n off : Nat) : Nat := 0x3C0000 + 0x40 * n + off

/-- FIR_SWAP: 0 for a write of FIR_SWAP, 1 for FIR_SRC, 2 for MINPH. -/
def doFirSwap (m : MasterId) (n : ChanId) (which : Fin 3) (v : Bool) (s : State) : State :=
  s.withRight m.val (sfeDigAddr n.val 0x14) (if which.val = 0 then .run else .set)
    (fun st => st.firRequest n.val which.val (b2n v))

/-! ### Linearisation memory -/

/-- Key of word i of a table (kind 0) or set (kind 1) of a bank. -/
def linKey (bank kind table i : Nat) : Nat := ((2 * bank + kind) * 16 + table) * 128 + i

/-- The word a table or set holds after a cold reset (R460): two points of y = x; a_10 = 2^30. -/
def linReset (kind i : Nat) : Nat :=
  if kind = 0 then (if i < 2 then 0x80000000 else if i < 4 then 0x7FFFFFFF else 0) else if i = 1 then 0x4E800000 else 0

def State.linWord (s : State) (bank kind table i : Nat) : Nat :=
  kvGet (linReset kind i) s.sfe.lin (linKey bank kind table i)

/-- Point count of a table. -/
def State.linPoints (s : State) (bank table : Nat) : Nat := kvGet 2 s.sfe.linNp (16 * bank + table)

def State.linValid (s : State) (bank : Nat) : Bool := !s.sfe.badLin.contains bank

/-- A LIN_MODE that reads a table or a set; 3 is taken as 0 (Table SFE-D.5). -/
def linReads (mode : Nat) : Bool := mode == 1 || mode == 2

/-- A linearisation bank is in use: an enabled channel with LIN_MODE ≠ 0 reads it or has a swap to it pending (R460). -/
def State.linInUse (s : State) (bank : Nat) : Bool :=
  (upto 24).any (fun n => s.chanOn n && (linReads (s.rd Rg.sdLinMode n) || linReads (s.chanIn n Rg.sdLinMode)) &&
    (s.rd Rg.sdLinBank n == bank || ((s.chan n).linSwapAt.isSome && 1 - s.rd Rg.sdLinBank n == bank)))

/-- Words of a table (128) or of a set (12). -/
def linWords (kind : Nat) : Nat := if kind = 0 then 128 else 12

/-- Write a word: the bank is no longer valid. A word beyond a set is not there. -/
def State.linWrite (s : State) (bank kind table i v : Nat) : State :=
  if s.linInUse bank then s.bankBusy
  else if i < linWords kind then
    let lin := kvSet (linReset kind i) s.sfe.lin (linKey bank kind table i) (v % 2 ^ 32)
    { s with sfe := { s.sfe with lin := lin, badLin := bank :: s.sfe.badLin.erase bank } }
  else s

def State.linRead (s : State) (bank kind table i : Nat) : State × Nat :=
  if i < linWords kind then (s, s.linWord bank kind table i) else s.free 32

/-- The points of a table as (x, y). -/
def State.linTable (s : State) (bank table : Nat) : List (Int × Int) :=
  (upto (s.linPoints bank table)).map (fun i =>
    (toSigned 32 (s.linWord bank 0 table (2 * i)), toSigned 32 (s.linWord bank 0 table (2 * i + 1))))

/-- The x of a table ascend strictly. -/
def pointsRise : List (Int × Int) → Bool
  | [] => true
  | [_] => true
  | a :: b :: l => decide (a.1 < b.1) && pointsRise (b :: l)

/-- A bank passes: every table holds 2 to 64 points in ascending order and every coefficient is finite (R459). -/
def State.linPasses (s : State) (bank : Nat) : Bool :=
  (upto 16).all (fun t =>
    let np := s.linPoints bank t
    decide (2 ≤ np) && decide (np ≤ 64) && pointsRise (s.linTable bank t) &&
    (upto 12).all (fun i => f32Finite (s.linWord bank 1 t i)))

/-- Set the point count of a table. -/
def State.linSetPoints (s : State) (bank table np : Nat) : State :=
  { s with sfe := { s.sfe with linNp := kvSet 2 s.sfe.linNp (16 * bank + table) np } }

/-- Commit a bank. -/
def State.linCommit (s : State) (bank : Nat) : State :=
  if s.linInUse bank then s.bankBusy
  else if s.linPasses bank then
    let s1 := s.wr Rg.bankError 0
    { s1 with sfe := { s1.sfe with badLin := s1.sfe.badLin.erase bank } }
  else s.wr Rg.bankError 1

def State.linDataWrite (s : State) (m v : Nat) : State :=
  (s.linWrite (s.rd Rg.linSelBank m) (s.rd Rg.linSelKind m) (s.rd Rg.linSelTable m % 16) (s.rd Rg.linAddr m) v).bump
    Rg.linAddr m

def State.linDataRead (s : State) (m : Nat) : State × Nat :=
  let r := s.linRead (s.rd Rg.linSelBank m) (s.rd Rg.linSelKind m) (s.rd Rg.linSelTable m % 16) (s.rd Rg.linAddr m)
  (r.1.bump Rg.linAddr m, r.2)

/-- LIN_DATA_ACCESS: a read without a value, a write with one. -/
def doLinDataAccess (m : MasterId) (v : Option Word) (s : State) : State :=
  match v with
  | some w => s.withRight m.val 0x3C1018 .set (fun st => st.linDataWrite m.val w.toNat)
  | none => s.guardRead m.val 0x3C1018 (s.rightAt m.val 0x3C1018 .look) (fun st => st.linDataRead m.val)

/-- A write of LIN_CMD with COMMIT = 1: NP sets the point count of the table selected, and the bank is committed. -/
def State.linCmd (s : State) (m np : Nat) : State :=
  let bank := s.rd Rg.linSelBank m
  if s.linInUse bank then s.bankBusy
  else
    let s1 := if s.rd Rg.linSelKind m = 0 then s.linSetPoints bank (s.rd Rg.linSelTable m % 16) np else s
    s1.linCommit bank

/-- LIN_COMMIT. -/
def doLinCommit (m : MasterId) (np : BitVec 7) (s : State) : State :=
  s.guardWrite m.val 0x3C101C (s.rightAt m.val 0x3C101C .run && s.rightAt m.val 0x3C101C .set) (fun st => st.linCmd m.val np.toNat)

/-- LIN_SWAP: exchange the channel's bank at its next sample boundary; a swap to a bank that is not valid is ignored
(R459). A channel that is disabled takes it at once. -/
def State.linSwap (s : State) (n : Nat) : State :=
  let b := s.rd Rg.sdLinBank n
  if s.linValid (1 - b) then
    (if s.chanOn n then s.modChan n (fun c => { c with linSwapAt := c.linSwapAt.orElse (fun _ => some s.now) }) else s.wr Rg.sdLinBank (1 - b) n)
  else s

def doLinSwap (m : MasterId) (n : ChanId) (s : State) : State :=
  s.withRight m.val (sfeDigAddr n.val 0x1C) .run (fun st => st.linSwap n.val)

/-! ### Linearisation of a value (R455 to R458) -/

/-- Piecewise-linear interpolation, with whether the value lay outside the table (R456). -/
def pwl (u : Int) : List (Int × Int) → Int × Bool
  | [] => (u, false)
  | [p] => (p.2, true)
  | p :: q :: l =>
    if u < p.1 then (p.2, true)
    else if u < q.1 then
      let d := q.1 - p.1
      (p.2 + (2 * (q.2 - p.2) * (u - p.1) + d) / (2 * d), false)
    else pwl u (q :: l)

/-- The polynomial of R457 on binary32 words a_ij = word i + 4j. -/
def poly (a : Nat → Nat) (u t : Int) : Nat :=
  let v := f32OfInt u (-30)
  let tt := f32OfInt t 0
  let p := fun j => f32Add (a (4 * j)) (f32Mul v (f32Add (a (4 * j + 1))
    (f32Mul v (f32Add (a (4 * j + 2)) (f32Mul v (a (4 * j + 3)))))))
  f32Add (p 0) (f32Mul tt (f32Add (p 1) (f32Mul tt (p 2))))

/-- What linearisation makes of a value: the result, and the flags SAT, LIN_CLIP and LIN_FAULT by their bits. -/
structure LinOut where
  y : Int
  flags : Nat := 0
  deriving DecidableEq, Repr

/-- The temperature input, and whether it gives LIN_FAULT (R458). -/
def State.tempInput (s : State) (t : Nat) : Int × Bool :=
  if t = 24 then (s.rdI Rg.th2DieTemp, false)
  else if t < 24 ∧ (s.chan t).posted then (s.rdI Rg.sdValue t, (s.rd Rg.sdFlags t) % 4 != 0)
  else (0, true)

/-- The filtered value u of channel n under its settings in force. -/
def State.linearise (s : State) (n : Nat) (u : Int) : LinOut :=
  let mode := s.chanIn n Rg.sdLinMode
  let bank := s.rd Rg.sdLinBank n
  let tab := s.chanIn n Rg.sdLinTable
  if mode = 1 then
    let r := pwl u (s.linTable bank tab)
    { y := r.1, flags := b2n r.2 * 128 }
  else if mode = 2 then
    let t := s.tempInput (s.chanIn n Rg.sdTchan)
    let r := f32ToInt (poly (s.linWord bank 1 tab) u t.1)
    { y := r.1, flags := b2n r.2.1 * 64 + b2n (r.2.2 || t.2) * 256 }
  else { y := u }

end Sys2Proof.Machine
end

