-- ==== Sys2Proof/Machine/SfeChain.lean ====
section
/-! DEFINITION. The digital chain of a channel: halves, pairs, filters, samples and result words (R434 to R474), automatic
ranging (R412), the trim measurement (R497) and the reads of result words (R465). -/
namespace Sys2Proof.Machine

/-! ### The comb-integrator stage (R435 to R438) -/

/-- Wrap to a signed number of w bits. -/
def wrapI (w : Nat) (x : Int) : Int := toSigned w (ofSigned w x)

/-- One clock of the three integrators. -/
def integStep (x : Int) : List Int → List Int
  | [a, b, c] => let a' := wrapI 14 (a + x); let b' := wrapI 14 (b + a'); [a', b', wrapI 14 (c + b')]
  | l => l

/-- One clock of the three combs: the output, and the delays after it. -/
def combStep (v : Int) : List Int → Int × List Int
  | [a, b, c] =>
    let d1 := wrapI 14 (v - a)
    let d2 := wrapI 14 (d1 - b)
    (wrapI 14 (d2 - c), [v, d1, d2])
  | l => (v, l)

/-- Clock the stage with the inputs of a half, numbered from k; the outputs come in order. -/
def cicRun : List Bool → Nat → List Int → List Int → List Int × List Int × List Int
  | [], _, ig, cb => ([], ig, cb)
  | x :: xs, k, ig, cb =>
    let ig' := integStep (if x then 1 else -1) ig
    if k % 16 = 15 then
      let r := combStep (ig'.getD 2 0) cb
      let t := cicRun xs (k + 1) ig' r.2
      (r.1 :: t.1, t.2)
    else cicRun xs (k + 1) ig' cb

/-- NORM by BLANK in clocks (R440). -/
def chainNorm (blank : Nat) : Int := if blank = 16 then 512 else if blank = 32 then 640 else 1280

/-- The pair code of a pair value under the trims of a modulator (R440). -/
def State.trimCode (s : State) (m : Nat) (scaled : Int) : Int :=
  clampI (-2 ^ 24) (2 ^ 24 - 1) (((scaled - s.rdI Rg.modtOfs m) * (s.rd Rg.modtGain m : Int) + 2 ^ 21) / 2 ^ 22)

/-- The input-referred value of a code at a range tag (R441). -/
def inputReferred (c : Int) (tag : Nat) : Int := c * 2 ^ (7 - tag)

/-! ### The filter input and the spike filter (R444, R445, R450) -/

/-- Insert into a sorted list. -/
def insertI (x : Int) : List Int → List Int
  | [] => [x]
  | y :: ys => if x ≤ y then x :: y :: ys else y :: insertI x ys

/-- The median of an odd number of values. -/
def medianI (l : List Int) : Int := (l.foldr insertI []).getD (l.length / 2) 0

/-- Window of the spike filter: 1, 3 or 5 (Table SFE-D.5). -/
def spikeWindow (code : Nat) : Nat := if code = 1 then 3 else if code = 2 then 5 else 1

/-- What leaves the spike filter for the histories `raw`, latest first. -/
def spikeOut (code thr : Nat) (raw : List (Int × Bool)) : FirIn :=
  let w := spikeWindow code
  let win := raw.take w
  let centre := (win.getD (w / 2) (0, false)).1
  let med := medianI (win.map Prod.fst)
  let rep := decide (1 < w) && decide (thr < (centre - med).natAbs)
  { v := if rep then med else centre, replaced := rep, copy := win.any Prod.snd }

/-- A value of q enters the chain; before the first one, the histories are filled with copies of it. -/
def State.chainQ (s : State) (n : Nat) (q : Int) : State :=
  let c := s.chan n
  let raw0 := if c.raw = [] then List.replicate 5 (q, true) else c.raw
  let fir0 := if c.fir = [] then List.replicate 128 ({ v := q, replaced := false, copy := true } : FirIn) else c.fir
  let raw := ((q, false) :: raw0).take 5
  let x := spikeOut (s.chanIn n Rg.sdSpike) (s.chanIn n Rg.sdSpikeThr) raw
  let s1 := s.modChan n (fun c => { c with raw := raw, fir := (x :: fir0).take 128 })
  if x.replaced then s1.bumpSat Rg.sdSpikes n else s1

/-- A pair's u enters the frame in progress; a complete frame gives one q (R444). -/
def State.chainU (s : State) (n : Nat) (u : Int) : State :=
  let p := s.rd Rg.saPreset n
  if p = 0 then s.chainQ n u
  else if p = 3 then s
  else
    let k := presetPositions p
    let l := u :: (s.chan n).framePairs
    if k ≤ l.length then
      let sum := l.foldl (· + ·) 0
      (s.modChan n (fun c => { c with framePairs := [] })).chainQ n ((sum + (k / 2 : Nat)) / (k : Int))
    else s.modChan n (fun c => { c with framePairs := l })

/-! ### FIR (R446 to R448) -/

/-- Taps and divisor of the ROM response of a preset (Table SFE-D.2). -/
def romTaps (preset minph : Nat) : List Int × Int :=
  if preset = 0 then (if minph = 0 then ([1, 4, 6, 4, 1], 16) else ([8, 4, 2, 1, 1], 16))
  else if preset = 1 then (if minph = 0 then ([1, 2, 1], 4) else ([3, 1], 4))
  else ((List.range 69).map (fun k => ((min (min (k + 1) 20) (69 - k) : Nat) : Int)), 1000)

/-- The taps in force, and the divisor of a ROM response. -/
def State.chainTaps (s : State) (n : Nat) : List Int × Option Int :=
  if s.chanIn n Rg.sdFirSrc = 1 then
    let b := s.rd Rg.sdFirActive n
    ((upto (s.firLen n b)).map (s.tap n b), none)
  else
    let r := romTaps (s.rd Rg.saPreset n) (s.chanIn n Rg.sdMinph)
    (r.1, some r.2)

/-- What a filter makes of a sample: the value, and the flags SETTLING, SPIKE and SAT by their bits. -/
def State.chainFir (s : State) (n : Nat) : Int × Nat :=
  let t := s.chainTaps n
  let win := (s.chan n).fir.take t.1.length
  let sum := (List.zipWith (fun (h : Int) (x : FirIn) => h * x.v) t.1 win).foldl (· + ·) 0
  let flags := 16 * b2n (win.any FirIn.copy) + 32 * b2n (win.any FirIn.replaced)
  match t.2 with
  | some d => ((sum + d / 2) / d, flags)
  | none =>
    let out := (sum + 2 ^ 21) / 2 ^ 22
    let sat := clampI (-2 ^ 31) (2 ^ 31 - 1) out
    (sat, flags + 64 * b2n (sat != out))

/-! ### The group delay (R451) -/

/-- The group delay at DC of the channel's positions and response, in ticks. -/
def State.chainDelay (s : State) (n : Nat) : Nat :=
  let preset := s.rd Rg.saPreset n
  let blank := blankClocks (s.rd Rg.saBlank n)
  let clocks : Rat := if blank = 16 then 239 / 2 else if blank = 32 then 223 / 2 else 191 / 2
  let pair : Rat := clocks * 31250 / 256
  let ps := (upto 8).filter (fun i => (s.rd Rg.saSlots n).testBit i)
  let top := ps.foldl max 0
  let cnt : Rat := ((max 1 ps.length : Nat) : Rat)
  let within : Rat := if preset = 0 then 0 else (((ps.map (fun i => top - i)).sum : Nat) : Rat) * 31250 / cnt
  let qt : Rat := if preset = 0 then 31250 else 250000
  let filter : Rat :=
    if preset = 3 then 99 * 125000
    else
      let t := (s.chainTaps n).1
      let sum : Int := t.foldl (· + ·) 0
      let mom : Int := (List.zipWith (fun (h : Int) (k : Nat) => h * (k : Int)) t (upto t.length)).foldl (· + ·) 0
      let spike : Nat := (spikeWindow (s.chanIn n Rg.sdSpike)) / 2
      (if sum = 0 then ((Config.noGainDelay n).toNat : Rat) else (mom : Rat) / (sum : Rat) * qt) + (spike : Rat) * qt
  (ratRound (pair + within + filter)).toNat

/-- GDELAY follows the response in force. -/
def State.delaySync (s : State) (n : Nat) : State := s.wr Rg.sdGdelay (s.chainDelay n) n

/-! ### Ranging (R412, R428, R454) -/

/-- The magnitude of a sample: |mean pair code|, of 2^23. -/
def meanCode (codes : List Int) : Nat :=
  let n := codes.length
  ((codes.foldl (· + ·) 0 + (n / 2 : Nat)) / ((max 1 n : Nat) : Int)).natAbs

/-- The tag for the next sample, after one of magnitude `a` (R412); a write of GAIN or RANGE_MODE prevails (R428). -/
def State.rangeDecide (s : State) (n a : Nat) (exceeds : Bool) : State :=
  let t := s.rd Rg.saRange n
  let c := s.chan n
  let low := fun (st : State) (k : Nat) => st.modChan n (fun c => { c with low := k, rangeWritten := false })
  if c.rangeWritten || s.rangeFixed n then
    low (s.wr Rg.saRange (if s.rangeFixed n then s.rd Rg.saGain n else t) n) 0
  else if exceeds then low ((s.wr Rg.saRange (s.gainMin n) n).bumpSat Rg.saRangeUp n) 0
  else if 9 * 2 ^ 23 ≤ 10 * a ∧ s.gainMin n < t then low ((s.wr Rg.saRange (t - 1) n).bumpSat Rg.saRangeUp n) 0
  else if 5 * a < 2 ^ 23 ∧ t < s.gainMax n then
    (if 4 ≤ c.low + 1 then low ((s.wr Rg.saRange (t + 1) n).bumpSat Rg.saRangeDown n) 0 else low s (c.low + 1))
  else low s 0

/-! ### Settings at a sample boundary (R449, R459, R469, R474) -/

/-- At the boundary with tick `t`, every change requested before it comes into force; the next sample carries SWAP when the
response, the linearisation bank or the modulator changed. -/
def State.boundary (s : State) (n t : Nat) : State :=
  let c := s.chan n
  let due := chanForceFields.filter (fun f => decide (kvGet t c.written (f.key 0 0) < t))
  let force := due.foldl (fun m f => kvSet (f.reset 0 0) m (f.key 0 0) (s.rd f n)) c.force
  let firNow := match c.firSwapAt with | some a => decide (a < t) | none => false
  let linNow := match c.linSwapAt with | some a => decide (a < t) | none => false
  let old := fun (f : Fld) => kvGet (f.reset 0 0) c.force (f.key 0 0)
  let rom := due.any (fun f => (f == Rg.sdFirSrc || f == Rg.sdMinph) && old f != s.rd f n)
  let s1 := s.modChan n (fun c =>
    { c with force := force, written := c.written.filter (fun e => decide (t ≤ e.2))
             firSwapAt := if firNow then none else c.firSwapAt
             linSwapAt := if linNow then none else c.linSwapAt
             swap := firNow || linNow || rom })
  let s2 := if firNow then s1.wr Rg.sdFirActive (1 - s1.rd Rg.sdFirActive n) n else s1
  let s3 := if linNow then s2.wr Rg.sdLinBank (1 - s2.rd Rg.sdLinBank n) n else s2
  let s4 := s3.handover n
  (if s4.rd Rg.saMod n = s3.rd Rg.saMod n then s4 else s4.latGap n).delaySync n

/-! ### Trim measurements (R497, R498) -/

/-- A finished sample holds the pair of a flash: its measurement is taken or discarded. -/
def State.trimTake (s : State) (n : Nat) (pairs : List PairVal) (before : Option PairVal) : State :=
  s.each (upto 8) (fun st l =>
    match (st.led l).measure with
    | none => st
    | some f =>
      if st.rd Rg.ledTrimChan l ≠ n then st
      else
        let older := pairs.filter (fun p => decide (p.slot < f.slot))
        match pairs.find? (fun p => p.slot == f.slot), (older ++ before.toList).head? with
        | some p, some q =>
          let st1 := st.modLed l (fun x => { x with measure := none })
          if 31250 * (p.slot - q.slot) > 250000 ∨ q.lit ∨ p.bad ∨ q.bad ∨ p.modulator ≠ q.modulator
              ∨ st.rd Rg.saPreset n = 3 ∨ 2 ≤ st.rd Rg.saBlank n then st1.trimBad l
          else st1.trimMeasure l (p.u - q.u)
        | some _, none => (st.modLed l (fun x => { x with measure := none })).trimBad l
        | none, _ => st)

/-! ### Posting a sample (R461 to R463) -/

/-- The window value of STILL: the code, and whether the range monitor saw a departure (R452, R453). -/
def State.stillCode (s : State) (n : Nat) (a : SampleAcc) : Int × Bool :=
  if a.longLeft ≠ 0 then (if 0 < a.longLeft then 2 ^ 24 - 1 else -2 ^ 24, true)
  else
    let norm := chainNorm (s.chan n).blank
    (s.trimCode (s.rd Rg.saMod n) ((a.longReg * norm + 50) / 100), false)

/-- RESULT_1 to RESULT_3 of a channel's latest sample, without STALE. -/
def State.resultWord (s : State) (n w : Nat) : Nat :=
  if w = 1 then s.rd Rg.sdTag n * 2 ^ 28 + s.rd Rg.sdFlags n * 2 ^ 16 + s.rd Rg.sdSeq n
  else if w = 2 then s.rd Rg.sdStamp n % 2 ^ 32
  else s.rd Rg.sdStamp n / 2 ^ 32

/-- The result words of a channel as they stand now. -/
def State.wordsNow (s : State) (n : Nat) : WordsBefore :=
  { postedAt := s.now, word0 := s.rd Rg.sdValue n, word1 := s.resultWord n 1, word2 := s.resultWord n 2,
    word3 := s.resultWord n 3 }

/-- The result words that a read of RESULT_0 on this tick finds: a sample posted on the tick is not seen by it (R467). -/
def State.wordsSeen (s : State) (n : Nat) : WordsBefore :=
  match (s.chan n).before with
  | some w => if w.postedAt = s.now then w else s.wordsNow n
  | none => s.wordsNow n

/-- The result words of a sample: VALUE, TAG, FLAGS, SEQ one on, STAMP; SAMPLES counts (R461, R462). -/
def State.postResult (s0 : State) (n : Nat) (y : Int) (tag flags stamp : Nat) : State :=
  let s := s0.modChan n (fun c => { c with before := some (s0.wordsSeen n) })
  (((((s.wrI Rg.sdValue y n).wr Rg.sdTag tag n).wr Rg.sdFlags flags n).bump Rg.sdSeq n).wr Rg.sdStamp
    (stamp % 2 ^ 63) n).bump Rg.sdSamples n

/-- A sample of channel n is posted: it replaces the result words, goes to the latency units, Quench and the flicker lock,
decides the next range tag, and lets waiting changes in. -/
def State.postSample (s : State) (n : Nat) (d : SampleDue) : State :=
  let c := s.chan n
  let preset := s.rd Rg.saPreset n
  let tag := s.rd Rg.saRange n
  let still := s.stillCode n d.acc
  let codes := if preset = 3 then [still.1] else d.acc.pairs.map PairVal.c
  let filt : Int × Nat := if preset = 3 then (inputReferred still.1 tag, 0) else s.chainFir n
  let lin := s.linearise n filt.1
  let monitor := preset == 3 && still.2
  let exceeds := d.acc.exceeds || monitor
  let imp := s.on Rg.saOpenF n || s.on Rg.saShort n
  let tone := d.acc.tone && preset == 0
  let flags := (b2n exceeds + 2 * b2n imp + 4 * s.rd Rg.saLeak n + 8 * b2n tone + 512 * b2n c.swap) ||| filt.2 ||| lin.flags
  let s2 := ((if c.posted then s else s.delaySync n).postResult n lin.y tag flags d.stamp).modChan n (fun c => { c with posted := true, swap := false })
  let s3 := if exceeds then s2.bumpSat Rg.saOverrange n else s2
  let s4 := if monitor then (s3.bumpSat Rg.sdMonitor n).raiseLim 64 (888 + n) 0 n 1 else s3
  let s5 := if flags.testBit 6 then (s4.bumpSat Rg.sdSatCount n).raiseLim 64 914 0 n flags else s4
  let s6 := if flags.testBit 8 then s5.raiseLim 64 913 0 n flags else s5
  let bad := exceeds || imp
  let pairs := d.acc.pairs.map (fun p => { p with bad := bad || tone })
  let s7 := (s6.trimTake n pairs c.last).modChan n (fun c => { c with last := pairs.head?.orElse (fun _ => c.last) })
  let s8 := ((s7.latFeed n d.stamp lin.y tone).quenchSample n lin.y bad tone).flkSample n d.stamp lin.y flags
  (s8.rangeDecide n (meanCode codes) exceeds).boundary n d.stamp

/-- SFE_SAMPLE: the finished sample of a channel is posted at its instant (R461). -/
def State.samplePost (s : State) (n : Nat) : State :=
  match (s.chan n).due with
  | none => s
  | some d => ((s.reach d.stamp).modChan n (fun c => { c with due := none })).postSample n d

def doSfeSample (n : ChanId) (s : State) : State := s.samplePost n.val

/-! ### Halves (R393, R438 to R443) -/

/-- A channel's first sample may begin at this slot (R396). -/
def State.sampleMayStart (s : State) (n slot : Nat) : Bool :=
  let c := s.chan n
  let p := s.rd Rg.saPreset n
  if p = 0 then decide (c.enabledAt ≤ 31250 * slot)
  else
    let f := slot / 8
    let first := ((upto 8).find? (fun i => (s.rd Rg.saSlots n).testBit i)).getD 0
    decide (c.enabledAt ≤ 250000 * f) && f % presetFrames p == 0 && slot % 8 == first

/-- The additions of the STILL register: the register, the monitor's count, and the sign at its first departure. -/
def longAdd (a : SampleAcc) (x : Int) : SampleAcc :=
  let t := a.longReg + x
  let cnt := if 2 ^ 21 - 1 < t then a.longCnt + 1 else if t < -2 ^ 21 then a.longCnt - 1 else a.longCnt
  { a with longReg := wrapI 22 t, longCnt := cnt, longLeft := if a.longLeft = 0 then cnt else a.longLeft }

/-- A slot overlaps a lit interval. -/
def State.slotLit (s : State) (slot : Nat) : Bool :=
  s.blw.lit.any (fun (e : Nat × Nat) => decide (e.1 < 31250 * (slot + 1)) && decide (31250 * slot < e.2))

/-- The second half of a slot gives a pair; the last slot of a sample makes it due. -/
def State.pairDone (s : State) (n slot : Nat) (sum1 : Int) : State :=
  let c := s.chan n
  let p := s.rd Rg.saPreset n
  let m := s.rd Rg.saMod n
  let code := s.trimCode m ((c.s0 - sum1) * chainNorm c.blank)
  let u := inputReferred code (s.rd Rg.saRange n)
  let pv : PairVal := { slot := slot, c := code, u := u, modulator := m, lit := s.slotLit slot }
  let tone := s.on Rg.saChecking n && (match c.checkStart with | some t => decide (t ≤ 31250 * slot) | none => false)
  let acc := { c.acc with pairs := pv :: c.acc.pairs, tone := c.acc.tone || tone, slots := c.acc.slots + 1 }
  let s1 := (s.modChan n (fun c => { c with acc := acc })).chainU n u
  if presetSlots p ≤ acc.slots then
    s1.modChan n (fun c => { c with acc := {}, due := some { stamp := 31250 * (slot + 1), acc := acc } })
  else s1

/-- One channel's half `h` (R436 to R443, R452). The start of its first sample is a sample start at which it moves in a handover
phase (R484). -/
def State.halfOf (s : State) (h : Nat) (x : HalfIn) : State :=
  let n := x.chan.val
  let slot := h / 2
  let first := h % 2 == 0
  if !(s.chanRuns n && s.slotHeld n slot) then s
  else if !((s.chan n).started || (first && s.sampleMayStart n slot)) then s
  else if !first && !s.sfe.half0.contains n then s
  else
    let sb := if first && !(s.chan n).started then s.handover n else s
    let s0 := if first then sb.modChan n (fun c => { c with started := true, blank := blankClocks (s.rd Rg.saBlank n) }) else sb
    let c := s0.chan n
    let ins := ((List.range 128).map (fun i => x.stream.getLsbD i)).drop c.blank
    let r := cicRun ins 0 c.integ c.comb
    let kept := r.1.drop 2
    let sign : Int := if first then 1 else -1
    let sum := kept.foldl (· + ·) 0
    let exceeds := x.exceeds || kept.any (fun y => decide (1721 ≤ y.natAbs))
    let coarse := clampI (-2048) 2047 ((5 * sign * kept.headD 0 + 2) / 4)
    let s1 := ((s0.wrI Rg.sdCoarse coarse n).wr Rg.sdCoarseTag (s0.rd Rg.saRange n) n).modChan n (fun c =>
      { c with integ := r.2.1, comb := r.2.2, s0 := if first then sum else c.s0
               acc := (if s.rd Rg.saPreset n = 3 then kept.foldl (fun a y => longAdd a (sign * y)) else id)
                 { c.acc with exceeds := c.acc.exceeds || exceeds } })
    if first then { s1 with sfe := { s1.sfe with half0 := n :: s1.sfe.half0 } }
    else s1.pairDone n slot sum

/-- The index of the half that ends next: the one after the last, or, after a gap, the first half of the next slot. -/
def State.nextHalf (s : State) : Nat :=
  let here := s.now / 15625
  let fresh := 2 * ceilDiv s.now 31250
  match s.sfe.lastHalf with
  | some h => if here ≤ h + 1 then h + 1 else fresh
  | none => fresh

/-- SFE_SLOT_HALF: a half of the slot grid ends. From outside come the modulator streams of the channels that convert,
the channels with a pin beyond its limits for the whole half (R421), and the current sources that could not hold their
current for the whole half (R406). -/
def State.slotHalf (s : State) (xs : List HalfIn) (beyond failing : Nat) : State :=
  if !s.domainUp 4 then s
  else
    let h := s.nextHalf
    let s0 := s.each (upto 24) State.samplePost
    let s1 := s0.reach (15625 * (h + 1))
    let s2 := if h % 2 = 0 then { s1 with sfe := { s1.sfe with half0 := [] } } else s1
    let s3 := s2.each ((upto 24).filter beyond.testBit) State.overvolt
    let s4 := s3.each xs (fun st x => st.halfOf h x)
    let s5 := (s4.each (upto 4) (fun st x => st.complyHalf failing x)).excReverse (h + 1)
    { s5 with sfe := { s5.sfe with lastHalf := some h } }

def doSfeSlotHalf (xs : List HalfIn) (beyond : BitVec 24) (failing : BitVec 4) (s : State) : State :=
  s.slotHalf xs beyond.toNat failing.toNat

/-! ### Result words (R464, R465) -/

/-- Change a master's SFE holding register. -/
def State.modHold (s : State) (m : Nat) (f : SfeHolding → SfeHolding) : State :=
  { s with acc := { s.acc with sfeHolding := kvMod {} s.acc.sfeHolding m f } }

/-- A read of RESULT_0: the value, and the other words into the master's SFE holding register. -/
def State.result0 (s : State) (m n : Nat) : State × Nat :=
  let x := s.wordsSeen n
  (s.modHold m (fun _ => { held := some (n, x.word1, x.word2, x.word3) }), x.word0)

def doResult0Read (m : MasterId) (n : ChanId) (s : State) : State :=
  s.guardRead m.val (sfeDigAddr n.val 0) (s.rightAt m.val (sfeDigAddr n.val 0) .look) (fun st => st.result0 m.val n.val)

/-- A read of RESULT_1 to RESULT_3 by a master. -/
def State.resultRead (s : State) (m n w : Nat) : State × Nat :=
  let h := kvGet {} s.acc.sfeHolding m
  let mine := match h.held with
    | some (c, w1, w2, w3) => if c = n then some (if w = 1 then w1 else if w = 2 then w2 else w3) else none
    | none => none
  let stale := h.stale || mine.isNone || h.seen.contains w
  let word := mine.getD (s.resultWord n w)
  (s.modHold m (fun h => { h with stale := stale, seen := w :: h.seen.erase w }),
   if w = 2 then word else word % 2 ^ 31 + 2 ^ 31 * b2n stale)

def doResultWordRead (m : MasterId) (n : ChanId) (w : Fin 3) (s : State) : State :=
  let a := sfeDigAddr n.val (4 * (w.val + 1))
  s.guardRead m.val a (s.rightAt m.val a .look) (fun st => st.resultRead m.val n.val (w.val + 1))

/-! ### The drop and rise of the domain (R425, R429, R472, R505) -/

/-- SFE begins to drop: the sample in progress of each channel is discarded (Table Power.4). -/
def State.sfeDropping (s : State) : State :=
  s.each (upto 24) (fun st n => if st.chanOn n then st.modChan n (fun c => { c with acc := {}, due := none }) else st)

/-- SFE goes down: checks end without a result, the rotation is abandoned, and chain state is lost. -/
def State.sfeDown (s : State) : State :=
  let s1 := s.each (upto 24) (fun st n => (st.checkAbandon n).latGap n)
  let s2 := s1.rotAbandon
  { s2 with sfe := { s2.sfe with excs := [], lastHalf := none, half0 := [] } }

/-- SFE is UP again, or its pads are released: every enabled channel starts again, with its first check; flicker lock
starts again (R396, R429, R472). -/
def State.sfeStart (s : State) : State :=
  let s1 := s.each (upto 24) (fun st n => if st.chanOn n then (st.chanStart n).delaySync n else st)
  if s1.on Rg.flkEn then s1.flkStart else s1

end Sys2Proof.Machine
end

