-- ==== Sys2Proof/Machine/Bell.lean ====
section
/-! DEFINITION. The Bell: its sources, holdover and catch-up, a change of source or of Period, and everything that happens
at it (R15 to R26, R29, R34, R52 to R62). -/
namespace Sys2Proof.Machine

/-- Change the Bell's own state. -/
def State.modBell (s : State) (f : BellSt → BellSt) : State := { s with bell := f s.bell }

/-- Tick of the last Bell. -/
def State.lastBell (s : State) : Nat := s.rd Rg.bellStamp

/-! ### The Bell itself -/

/-- BELL_OUT gives one pulse; a WIDTH below 16 is taken as 16; ADVANCE applies where the instant is known ahead (R24). -/
def State.bellOut (s : State) (t : Nat) (adv : Bool) : State :=
  if s.on Rg.bellOutEn then
    s.modBell (fun b => { b with outPulse := some (t - (if adv then s.rd Rg.bellOutAdvance else 0),
                                                    max 16 (s.rd Rg.bellOutWidth)) })
  else s

/-- A new nominal Period takes effect at the first Bell at which no Billet is open (R26, R38, R384). -/
def State.periodBell (s : State) : State :=
  let s0 := s.modBell (fun b => { b with resumeNext := false })
  match s0.bell.periodPend with
  | some p =>
    if s0.billets.isEmpty then
      let s1 := ((s0.wr Rg.bellPeriodAct p).wr Rg.bellPendPeriod 0).modBell (fun b => { b with periodPend := none })
      ((s1.raise 67 0 p).strobeRetest).each (List.range 64) State.bindSync
    else s0
  | none => s0

/-- What the Registrar settles at a Bell: deadlines, late captures, released reservations, rationing and fitness. -/
def State.registrarBell (s : State) (ended level : Nat) : State :=
  let s1 := (s.deadlines ended).lateCaptures ended
  let s2 := if s1.fw.running then s1 else s1.releaseDone
  ((s2.rationBell level).fitness).strandedEnd

/-- Admission resumes at the first Bell after READY (R772) and after an update (R738). -/
def State.admissionBell (s : State) : State :=
  let s1 := if s.on Rg.bootReady then { s with boot := { s.boot with awaitBell := false } } else s
  if s1.fw.resumeNext then
    let s2 := ({ s1 with fw := { s1.fw with resumeNext := false, pause := false } }).wr Rg.fwState 0
    s2.raise 37 24 0
  else s1

/-- A Bell sounds at tick `t` and opens the next Period (R15, R34, Table Bell.5). -/
def State.soundBell (s : State) (t : Nat) (adv : Bool) : State :=
  let ended := s.period
  let level := s.rd Rg.pwActive
  let s1 := (((s.reach t).bump Rg.bellCount).wr Rg.bellStamp t).modBell (fun b => { b with afterLock := false })
  let s2 := (((s1.bellOut t adv).periodBell).rowOverrun ended).carryOver level
  let s3 := (s2.modBell (fun b => { b with reserveAct := s2.rd Rg.bellReserve, rowLevel := level })).temperBell
  let s4 := (s3.registrarBell ended (min level (s3.rd Rg.pwActive))).admissionBell
  let due := s4.ckptHeld && s4.jnl.bellsSince + 1 == s4.ckptPeriods
  let s5 := { s4 with jnl := { s4.jnl with bellsSince := s4.jnl.bellsSince + 1, ckptDue := s4.jnl.ckptDue || due } }
  let s6 := (s5.bellowsBell).cciBell
  let s7 := if s6.fw.running then s6 else s6.calPlace
  s7.reference 1 0 t

/-! ### Instants -/

/-- The first tick at or after a number of sixteenths of the Period from `x`. -/
def State.sixteenths (s : State) (x n : Nat) : Nat := x + ceilDiv (n * s.periodTicks) 16

/-- An IEEE 1588 port has lock. -/
def State.ptpLocked (s : State) (p : Nat) : Bool := s.on Rg.ethPtpLock p

/-- The instant from which a port's Bells count: no earlier than its lock (R23, R25). -/
def State.sinceLock (s : State) (p lo : Nat) : Nat := max lo (kvGet 0 s.bell.lockAt p)

/-- The first tick from `lo` on at which the port's time satisfies the phase (R23). -/
def State.ptpNext (s : State) (p lo : Nat) : Nat :=
  let per : Int := 4 * (s.periodTicks : Int)
  let r := ((4 * (lo : Int) + (kvGet {} s.eths p).base - s.rd Rg.bellPtpPhase) % per).toNat
  if r < 4 then lo else lo + ceilDiv (per.toNat - r) 4

/-- The tick of the next Bell that no BELL_IN edge to come makes, and whether ADVANCE applies to it. -/
def State.nextBell (s : State) : Option (Nat × Bool) :=
  let p := s.periodTicks
  let b := s.lastBell
  match s.bell.srcPend with
  | some (src, at_) =>
    if src = 0 then some (at_ + p, true)
    else if 2 ≤ src ∧ s.ptpLocked (src - 2) then
      (let t := s.ptpNext (src - 2) (s.sinceLock (src - 2) (at_ + p))
       if t ≤ at_ + 2 * p then some (t, true) else none)
    else none
  | none =>
    if s.on Rg.bellHoldover then (match s.bell.holdFirst with
        | some t => some (t, false)
        | none => some (b + p, true))
    else
      let act := s.rd Rg.bellSrcAct
      if act = 0 then some (b + p, true)
      else if act = 1 then
        match s.bell.held with
        | [] => none
        | (t, first) :: _ => some (max t (if first then b + p else s.sixteenths b 15), false)
      else if s.ptpLocked (act - 2) then
        some (s.ptpNext (act - 2) (if s.bell.afterLock then s.sinceLock (act - 2) (b + p) else b + ceilDiv p 2), true)
      else none

/-- Holdover ends: E0065 (R22, R23, R25). -/
def State.holdoverEnd (s : State) : State :=
  ((s.wr Rg.bellHoldover 0).modBell (fun b => { b with inRow := 0, holdFirst := none })).raise 65 0 s.period

/-- A pending change of source takes effect with its first Bell; a change to the internal source ends holdover. -/
def State.srcTaken (s : State) : State :=
  match s.bell.srcPend with
  | none => s
  | some (src, _) =>
    let s1 := (s.wr Rg.bellSrcAct src).modBell (fun b => { b with srcPend := none })
    if s1.on Rg.bellHoldover then s1.holdoverEnd else s1

/-- BELL: the Bell sounds from the internal divider, an IEEE 1588 clock, holdover, or a held edge. -/
def State.bellNow (s : State) : State :=
  match s.nextBell with
  | none => s
  | some (t, adv) =>
    let s1 := s.srcTaken
    let s2 := s1.modBell (fun b => { b with held := b.held.drop 1, holdFirst := none })
    s2.soundBell t adv

def doBell (s : State) : State := s.bellNow

/-! ### Holdover (R21, R25) -/

/-- The tick at which the engine enters holdover if nothing comes before it. -/
def State.holdoverDue (s : State) : Option Nat :=
  if s.on Rg.bellHoldover then none
  else
    match s.bell.srcPend with
    | some (src, at_) => if src = 0 ∨ s.nextBell.isSome then none else some (at_ + 2 * s.periodTicks)
    | none =>
      let act := s.rd Rg.bellSrcAct
      let plain := s.sixteenths s.lastBell 17
      if act = 1 then
        (if !s.bell.catchUp then some plain
         else if s.bell.held.isEmpty then some (s.sixteenths (s.bell.lastValid.getD s.lastBell) 17)
         else none)
      else none

/-- HOLDOVER_ENTRY: holdover begins with E0064, and its first Bell sounds at that instant; in catch-up no earlier than 15/16
of the Period after the last Bell. -/
def State.holdoverEnter (s : State) : State :=
  match s.holdoverDue with
  | none => s
  | some t =>
    let src := match s.bell.srcPend with
      | some (v, _) => v
      | none => s.rd Rg.bellSrcAct
    let s1 := ((s.wr Rg.bellHoldover 1).wr Rg.bellSrcAct src).modBell (fun b =>
      { b with lastEdge := none, inRow := 0, held := [], catchUp := false, srcPend := none, holdFirst := none })
    let s2 := (s1.reach t).raise 64 0 s.period
    let first := if s.bell.catchUp then max t (s.sixteenths s.lastBell 15) else t
    if first = t then s2.soundBell t false else s2.modBell (fun b => { b with holdFirst := some first })

def doHoldoverEntry (s : State) : State := s.holdoverEnter

/-- Lock is lost on a port: if it feeds the Bell, holdover starts; its first Bell sounds at 17/16 of the Period after the
last Bell (R21, R23). Under a pending change of source the old source makes no Bell, and its loss means nothing (R25). -/
def State.ptpLost (s : State) (p : Nat) : State :=
  if s.rd Rg.bellSrcAct = p + 2 ∧ !s.on Rg.bellHoldover ∧ s.bell.srcPend = none then
    let s1 := (s.wr Rg.bellHoldover 1).modBell (fun b =>
      { b with lastEdge := none, inRow := 0, held := [], catchUp := false,
               holdFirst := some (max s.now (s.sixteenths s.lastBell 17)) })
    s1.raise 64 0 s.period
  else s

/-- Lock returns on the port that feeds the Bell: holdover ends (R23). The next Bell lies at least the nominal Period after
the last. -/
def State.ptpBack (s : State) (p : Nat) : State :=
  let s0 := s.modBell (fun b => { b with lockAt := kvPut b.lockAt p s.now })
  if s.rd Rg.bellSrcAct = p + 2 ∧ s.on Rg.bellHoldover then
    s0.holdoverEnd.modBell (fun b => { b with afterLock := true })
  else s0

/-! ### BELL_IN edges (R19 to R22, R25) -/

/-- An ignored edge: EARLY and E0066. -/
def State.edgeIgnored (s : State) : State := (s.bumpSat Rg.bellEarly).raise 66 0 (s.rd Rg.bellEarly + 1)

/-- Record the tick of an edge, and of a valid one. -/
def State.edgeSeen (s : State) (t : Nat) (valid : Bool) : State :=
  s.modBell (fun b => { b with lastEdge := some t, lastValid := if valid then some t else b.lastValid })

/-- An edge comes earlier than 15/16 of the Period after `x`. -/
def State.isEarly (s : State) (t x : Nat) : Bool := decide (16 * (t - x) < 15 * s.periodTicks)

/-- An edge in holdover: the eighth valid edge in a row ends it, and makes the next Bell or is held (R22). -/
def State.edgeHoldover (s : State) (t : Nat) : State :=
  let early := match s.bell.lastEdge with
    | some x => s.isEarly t x
    | none => false
  if early then (s.edgeIgnored.edgeSeen t false).modBell (fun b => { b with inRow := 0 })
  else
    let late := match s.bell.lastEdge with
      | some x => decide (17 * s.periodTicks < 16 * (t - x))
      | none => false
    let k := if late then 1 else s.bell.inRow + 1
    let s1 := (s.edgeSeen t true).modBell (fun b => { b with inRow := k })
    if k < 8 then s1
    else
      let s2 := s1.holdoverEnd
      if t < s2.lastBell + s2.periodTicks then s2.modBell (fun b => { b with held := [(t, true)], catchUp := true })
      else s2.soundBell t false

/-- An edge in catch-up: its Bell sounds no earlier than 15/16 of the Period after the last; catch-up ends at the first
edge whose Bell is not held (R22). -/
def State.edgeCatchUp (s : State) (t : Nat) : State :=
  let early := match s.bell.lastEdge with
    | some x => s.isEarly t x
    | none => false
  if early then s.edgeIgnored.edgeSeen t false
  else
    let s1 := s.edgeSeen t true
    if !s1.bell.held.isEmpty || s1.isEarly t s1.lastBell then
      s1.modBell (fun b => { b with held := b.held ++ [(t, false)] })
    else (s1.modBell (fun b => { b with catchUp := false })).soundBell t false

/-- An edge outside holdover and catch-up (R20). -/
def State.edgePlain (s : State) (t : Nat) : State :=
  if s.isEarly t s.lastBell then s.edgeIgnored.edgeSeen t false else (s.edgeSeen t true).soundBell t false

/-- BELL_IN_EDGE: the selected edge comes now. -/
def State.edge (s : State) : State :=
  let t := s.now
  match s.bell.srcPend with
  | some (src, at_) =>
    if src = 1 ∧ at_ + s.periodTicks ≤ t ∧ !s.on Rg.bellHoldover then (s.srcTaken.edgeSeen t true).soundBell t false
    else s.edgeSeen t false
  | none =>
    if s.rd Rg.bellSrcAct = 1 then
      (if s.on Rg.bellHoldover then s.edgeHoldover t
       else if s.bell.catchUp then s.edgeCatchUp t
       else s.edgePlain t)
    else s.edgeSeen t false

def doBellInEdge (s : State) : State := s.edge

/-! ### A change of source and of Period (R25, R26) -/

/-- A write of SRC: in holdover a change to BELL_IN or IEEE 1588 takes effect at once; any other waits for the first event
of the new source at least one Period after B (R25). DESIGN CHOICE (log 15): a 1588 port that already has lock counts as
one whose lock returns with the write, so holdover ends at once (R23). -/
def State.srcWrite (s : State) (v : Nat) : State :=
  if v = s.rd Rg.bellSrc then s
  else
    let s1 := (s.wr Rg.bellSrc v).modBell (fun b => { b with held := [], catchUp := false })
    if s1.on Rg.bellHoldover ∧ v ≠ 0 then
      let s2 := (s1.wr Rg.bellSrcAct v).modBell (fun b => { b with srcPend := none, lastEdge := none, inRow := 0 })
      if 2 ≤ v ∧ s2.ptpLocked (v - 2) then s2.ptpBack (v - 2) else s2
    else s1.modBell (fun b => { b with srcPend := some (v, s.lastBell) })

def doBellSourceChange (m : MasterId) (v : Fin 4) (s : State) : State :=
  s.withRight m.val 0x10000 .set (fun st => st.srcWrite v.val)

/-- A write of BELL_PERIOD: out of range it is ignored; a new value pauses admission; the value in force withdraws a
pending change (R26, Table Bell.7). -/
def State.periodWrite (s : State) (v : Nat) : State :=
  if v < 12500 ∨ 5000000 < v then s
  else
    let s1 := s.wr Rg.bellPeriod v
    if v = s.periodTicks then
      (if s.bell.periodPend.isSome then
         (s1.wr Rg.bellPendPeriod 0).modBell (fun b => { b with periodPend := none, resumeNext := true })
       else s1)
    else (s1.wr Rg.bellPendPeriod 1).modBell (fun b => { b with periodPend := some v, resumeNext := false })

def doPeriodWrite (m : MasterId) (v : BitVec 23) (s : State) : State :=
  s.withRight m.val 0x10004 .set (fun st => st.periodWrite v.toNat)

/-! ### A job past its cost (R51) -/

/-- Code of a job type (Table Bell.2). -/
def JobType.code : JobType → Nat
  | .pipe => 0 | .finder => 1 | .decode => 2 | .delivery => 3 | .sfeCal => 4 | .strobe => 5 | .trim => 6 | .gap => 7

/-- COST_OVERRUN: a running job runs past its cost by a number of cycles; argument 1 holds its type and its unit. -/
def doCostOverrun (ty : JobType) (unit : Fin 20) (past : Overrun) (s : State) : State :=
  (s.chargeExcess ty unit.val past.cycles.toNat).raise 73 (match past.lane with
    | some n => n.val
    | none => 0xFF) (256 * ty.code + unit.val)

end Sys2Proof.Machine
end

