-- ==== Sys2Proof/Machine/Ring.lean ====
section
/-! DEFINITION. PCI Express rings: batches, arms and rebuilds, consumption, coalesced messages, and the link (R101 to R106,
R527 to R535, R550 to R552, R717). -/
namespace Sys2Proof.Machine

/-- One ring's internal state. -/
def State.ring (s : State) (r : Nat) : RingSt := kvGet {} s.rings r

/-- Change one ring's internal state. -/
def State.modRing (s : State) (r : Nat) (f : RingSt → RingSt) : State := { s with rings := kvMod {} s.rings r f }

/-- The batch of a ring. -/
def State.batch? (s : State) (r : Nat) : Option Batch := (s.batches.find? (fun e => e.1 == r)).map Prod.snd

/-- Change the batch of a ring. -/
def State.modBatch (s : State) (r : Nat) (f : Batch → Batch) : State :=
  { s with batches := s.batches.map (fun e => if e.1 == r then (e.1, f e.2) else e) }

/-- Master of PCI Express function f (Table Delivery.1). -/
def fnMaster (f : Nat) : Nat := 2 + f

/-- Number of slots of a ring (R527). -/
def State.slotsOf (s : State) (r : Nat) : Nat := 2 ^ s.rd Rg.ringSlotsLog2 r

/-- Difference in 32-bit arithmetic (R528). -/
def sub32 (a b : Nat) : Nat := (a + 2 ^ 32 - b % 2 ^ 32) % 2 ^ 32

/-- Free slots of a ring (R529). -/
def State.ringFree (s : State) (r : Nat) : Nat := s.slotsOf r - sub32 (s.rd Rg.ringProd r) (s.rd Rg.ringCons r)

/-- The slots that a batch which starts now finds free: a CONS write of the same tick does not count for it (R552). -/
def State.batchFree (s : State) (r : Nat) : Nat :=
  match (s.ring r).consBefore with
  | some (t, v) => if t = s.now then s.slotsOf r - sub32 (s.rd Rg.ringProd r) v else s.ringFree r
  | none => s.ringFree r

/-- The engine works: it is neither replaying nor in the sequence of PWR_FAIL. -/
def State.engineWorks (s : State) : Bool := s.on Rg.bootReady && !s.on Rg.jnlReplay && s.powerFail == .off

/-- Right to take a correspondent's records: Run on it (R650). -/
def State.mayTake (s : State) (m c : Nat) : Bool :=
  match s.tenantOf m with
  | some t => s.holds t 0x30 (some c) .run
  | none => false

/-! ### Disarm -/

/-- A ring is disarmed; a batch in flight stays open (R550). -/
def State.ringDrop (s : State) (r : Nat) : State :=
  ((s.wr Rg.ringArm 0 r).wr Rg.ringArmed 0 r).modRing r (fun x => { x with arming := none, armLogged := false, disarmWanted := false })

/-- An error disarms the ring with E0645 (R531). -/
def State.ringError (s : State) (r : Nat) : State := (s.ringDrop r).raise 645 r 0

/-- A ring that is armed or being armed. -/
def State.ringLive (s : State) (r : Nat) : Bool := s.on Rg.ringArmed r || (s.ring r).arming.isSome

/-- A reset or a link-down disarms a ring, and its batch in flight stays open (R550). -/
def State.ringCut (s : State) (r : Nat) : State :=
  let s1 := s.modBatch r (fun b => { b with open_ := true })
  if s.ringLive r then s1.ringDrop r else s1

/-- RING_DISARM: a write of ARM = 0 clears ARMED once the batch in flight has completed (R530). -/
def State.ringDisarm (s : State) (r : Nat) : State :=
  let s1 := (s.wr Rg.ringArm 0 r).modRing r (fun x => { x with arming := none, armLogged := false })
  if !s.on Rg.ringArmed r then s1
  else if (s.batch? r).isNone then s1.wr Rg.ringArmed 0 r
  else s1.modRing r (fun x => { x with disarmWanted := true })

def doRingDisarm (m : MasterId) (r : RingId) (s : State) : State :=
  s.withRight m.val (0x340000 + 0x40 * r.val) .set (fun st => st.ringDisarm r.val)

/-! ### Arm and rebuild (R530) -/

/-- The conditions of R530 on the settings. -/
def State.armOk (s : State) (r : Nat) : Bool :=
  let pl := s.rd Rg.ringPageList r
  let pa := s.rd Rg.ringProdAddr r
  let lg := s.rd Rg.ringSlotsLog2 r
  pl % 4096 == 0 && pa % 8 == 0 && pl != 0 && pa != 0 && decide (4 ≤ lg) && decide (lg ≤ 16) &&
  decide (sub32 (s.rd Rg.ringProd r) (s.rd Rg.ringCons r) ≤ s.slotsOf r)

/-- The rebuild begins: the epoch increments, and its ARM entry is requested (R103). -/
def State.ringRebuild (s : State) (r : Nat) (pages : List Nat) : State :=
  let e := (s.rd Rg.ringEpoch r + 1) % 256
  let s1 := ((s.wr Rg.ringArm 1 r).wr Rg.ringArmed 0 r).wr Rg.ringEpoch e r
  (s1.modRing r (fun x => { x with arming := some pages, armLogged := false, disarmWanted := false, wasArmed := false })).jreq
    (.arm r e (s.rd Rg.ringFn r))

/-- RING_ARM: a write of ARM = 1; `pages` are the page-list entries of the 64 slots from PROD onward as the fetch returns
them. A ring that is armed or being armed stays as it is. -/
def State.ringArm (s : State) (r : Nat) (pages : List Nat) : State :=
  if s.on Rg.ringArm r || !s.armOk r then s else s.ringRebuild r pages

def doRingArm (m : MasterId) (r : RingId) (pages : List Nat) (s : State) : State :=
  s.withRight m.val (0x340000 + 0x40 * r.val) .set (fun st => st.ringArm r.val pages)

/-- A page-list entry that R531 allows. -/
def pageOk (e : Nat) : Bool := e != 0 && e % 4096 == 0

/-- The entries of `n` slots: the first `n` of a list, and 0 for a missing one. -/
def pagesOf (n : Nat) (l : List Nat) : List Nat := l.take n ++ List.replicate (n - l.length) 0

/-- The producer word: the index, the epoch and zeros (R528). -/
def prodWord (idx epoch : Nat) : List Byte := leBytes 4 idx ++ leBytes 1 epoch ++ zeros 3

/-- Write the producer word of a ring. -/
def State.writeProd (s : State) (r idx : Nat) : State :=
  s.hostWrite (s.rd Rg.ringFn r) (s.rd Rg.ringProdAddr r) (prodWord idx (s.rd Rg.ringEpoch r))

/-- The last steps of a rebuild: the producer word is written and ARMED is set. -/
def State.armFinish (s : State) (r : Nat) : State :=
  match (s.ring r).arming with
  | none => s
  | some pages =>
    let s1 := s.writeProd r (s.rd Rg.ringProd r)
    (s1.modRing r (fun x => { x with arming := none, armLogged := false, pages := pagesOf 64 pages })).wr Rg.ringArmed 1 r

/-- Write the records of a batch into their slots, and then the producer index (R101, R102, R527). -/
def State.writeBatch (s : State) (r : Nat) (b : Batch) (pages : List Nat) : State :=
  let ps := pagesOf 64 pages
  let s1 := s.each (b.recs.zip ps) (fun st e => st.hostWrite (s.rd Rg.ringFn r) e.2 (e.1.bytes b.corr))
  s1.writeProd r b.n1

/-- The record makes its decision fully visible. -/
def Rec.closes (r : Rec) : Bool := r.terminal || r.kind == .gap || r.kind == .evicted

/-- Door ordinal of the last decision of a list of records that is fully visible with them, or the one before (R92). -/
def lastVisibleOf (prev : Nat) (l : List Rec) : Nat :=
  l.foldl (fun a r => if r.closes then r.ordinal else a) prev

/-- Whether the decision of the last record of a list is fully visible with it, and its Door ordinal (R92). -/
def lastOf (l : List Rec) : Bool × Nat :=
  match l.getLast? with
  | some r => (r.closes, r.ordinal)
  | none => (false, 0)

/-- The COMPLETE entry of a batch. -/
def State.completeBody (s : State) (r : Nat) (b : Batch) : JBody :=
  let v := lastOf b.recs
  .complete v.1 r (s.rd Rg.ringEpoch r) b.corr (seqAfter (b.recs.length - 1) b.s0) b.n1 v.2

/-- The ARM entry is durable: the entries are checked, an open batch is written again into the new pages, and else the
rebuild ends (R103, R106, R530, R550). -/
def State.armDurable (s : State) (r e : Nat) : State :=
  match (s.ring r).arming with
  | none => s
  | some pages =>
    if s.rd Rg.ringEpoch r != e then s
    else if !s.fnAccepts (s.rd Rg.ringFn r) then s.ringDrop r
    else if !(pagesOf 64 pages).all pageOk then s.ringError r
    else match s.batch? r with
      | none => s.armFinish r
      | some b =>
        if b.flushed then s.modRing r (fun x => { x with armLogged := true })
        else
          let s1 := (s.writeBatch r b pages).raise 133 r b.recs.length
          ((s1.modBatch r (fun x => { x with open_ := false, written := true, flushed := true, epoch := e })).modRing r
            (fun x => { x with armLogged := true })).jreq (s1.completeBody r b)

/-- Every ring that was armed when HOST dropped is rebuilt, once HOST is UP and its link is up, with its saved settings and
the page-list entries it held (R551). E0644 is raised at most once per Period. -/
def State.ringsReturn (s : State) : State :=
  if s.on Rg.pcieLink && s.domainUp 3 then
    s.each ((s.rings.filter (fun e => e.2.wasArmed)).map Prod.fst) (fun st r =>
      if st.armOk r then (st.ringRebuild r (st.ring r).pages).raiseLim 1 644 0 r 0
      else st.modRing r (fun x => { x with wasArmed := false }))
  else s

/-- The HOST domain begins to drop: each ring is disarmed once its batch in flight has completed, and is remembered
(R551). A batch on a failed link stays open. -/
def State.ringsDropping (s : State) : State :=
  s.each ((List.range 256).filter s.ringLive) (fun st r =>
    (st.ringDisarm r).modRing r (fun x => { x with wasArmed := true }))

/-! ### Batches (R101, R532, R533) -/

/-- The correspondents that ring r may serve now: routed to it, with released records, and open to its function's master
(R515, R532, R662). -/
def State.ringCands (s : State) (r : Nat) : List Nat :=
  (s.corrs.filter (fun e => e.2.kind == 1 && e.2.route == r && !e.2.evicting && !(s.releasable e.2.owed).isEmpty &&
    s.mayTake (fnMaster (s.rd Rg.ringFn r)) e.1)).map Prod.fst

/-- Round robin in ascending number, starting after the last one (R532). -/
def roundRobin (last : Option Nat) (l : List Nat) : Option Nat :=
  match last with
  | none => l.head?
  | some x => (l.find? (fun c => decide (x < c))).orElse (fun _ => l.head?)

/-- A ring may start a batch. -/
def State.ringReady (s : State) (r : Nat) : Bool :=
  s.engineWorks && s.domainUp 3 && s.on Rg.pcieLink && s.on Rg.ringArmed r && !(s.ring r).disarmWanted &&
  (s.ring r).arming.isNone && (s.batch? r).isNone && decide (0 < s.batchFree r)

/-- DELIVER_BATCH: the ring chooses a correspondent and appends INTENT (R101). -/
def State.deliverBatch (s : State) (r : Nat) : State :=
  if !s.ringReady r then s
  else match roundRobin (s.ring r).lastCorr (s.ringCands r) with
    | none => s
    | some c =>
      let s0 := max 1 (s.rd Rg.gbNextSeq c)
      let t := s.takeRecs c (min 64 (s.batchFree r))
      let n0 := s.rd Rg.ringProd r
      let n1 := (n0 + t.2.length) % 2 ^ 32
      let e := s.rd Rg.ringEpoch r
      let b : Batch := { ring := r, epoch := e, corr := c, s0 := s0, n0 := n0, n1 := n1, recs := t.2 }
      let s1 := { t.1 with batches := kvPut t.1.batches r b }
      let s2 := (s1.modRing r (fun x => { x with lastCorr := some c })).wr Rg.ringBatchOpen 1 r
      (s2.jreq (.intent r e c s0 t.2.length n0 n1)).gbSync c

def doDeliverBatch (r : RingId) (s : State) : State := s.deliverBatch r.val

/-- The INTENT entry is durable: the slots and then the producer index are written, and the flush read is issued (R102).
Writes of an old epoch are dropped (R103). -/
def State.intentDurable (s : State) (r e : Nat) : State :=
  match s.batch? r with
  | none => s
  | some b =>
    if b.open_ || b.written || b.epoch != e || s.rd Rg.ringEpoch r != e || !s.on Rg.ringArmed r ||
        !s.on Rg.pcieLink then s
    else (s.writeBatch r b (s.ring r).pages).modBatch r (fun x => { x with written := true })

/-- FLUSH_READ_COMPLETE: the flush read returns, and COMPLETE is appended; `pages` are the page-list entries that the ring
reads after it, one for each slot of the batch (R101, R531). -/
def State.flushRead (s : State) (r : Nat) (pages : List Nat) : State :=
  match s.batch? r with
  | none => s
  | some b =>
    if !b.written || b.flushed || b.open_ || b.epoch != s.rd Rg.ringEpoch r || !s.on Rg.ringArmed r ||
        !s.on Rg.pcieLink then s
    else
      let s1 := (s.modBatch r (fun x => { x with flushed := true })).modRing r (fun x =>
        { x with fetched := pagesOf b.recs.length pages })
      s1.jreq (s.completeBody r b)

def doFlushReadComplete (r : RingId) (pages : List Nat) (s : State) : State := s.flushRead r.val pages

/-! ### Coalesced messages (R534, R535) -/

/-- The ring's message: its vector must be assigned to its function. -/
def State.ringMessage (s : State) (r : Nat) : State :=
  let s1 := s.modRing r (fun x => { x with unsignalled := 0, coalFrom := none })
  let v := s.rd Rg.ringVector r
  if s.rd Rg.pcieVecFn v = s.rd Rg.ringFn r then s1.sendVector v else s1.bumpSat Rg.ringVecMiss r

/-- Records have become visible: count them, and send at once or start the timer. -/
def State.ringSignal (s : State) (r n : Nat) : State :=
  let cc := s.rd Rg.ringCoalCount r
  if cc = 0 then s
  else
    let s1 := s.modRing r (fun x => { x with unsignalled := x.unsignalled + n,
                                             coalFrom := some (x.coalFrom.getD s.now) })
    if cc ≤ (s1.ring r).unsignalled then s1.ringMessage r else s1

/-- COALESCE_TIMEOUT: COAL_US after the first unsignalled COMPLETE. With COAL_COUNT = 0 the ring sends no message (R534). -/
def State.coalesce (s : State) (r : Nat) : State :=
  match (s.ring r).coalFrom with
  | none => s
  | some t =>
    if s.rd Rg.ringCoalCount r = 0 then s.modRing r (fun x => { x with unsignalled := 0, coalFrom := none })
    else (s.reach (t + usTicks (s.rd Rg.ringCoalUs r))).ringMessage r

def doCoalesceTimeout (r : RingId) (s : State) : State := s.coalesce r.val

/-! ### COMPLETE and consumption -/

/-- A correspondent in state 3 is free once its EVICTED record is freed (R526). -/
def State.evictedFreed (s : State) (c : Nat) (l : List Rec) : State :=
  if l.any (fun r => r.kind == .evicted) && s.rd Rg.gbState c == 3 then s.wr Rg.gbState 0 c else s

/-- Records of a correspondent have been freed: the registers follow, and a stall may end (R522, R523). -/
def State.freed (s : State) (c : Nat) (l : List Rec) : State := ((s.evictedFreed c l).gbSync c).stallRelease c

/-- The new entries that a ring holds after a COMPLETE; a bad one disarms it (R531). -/
def State.ringRefill (s : State) (r n : Nat) : State :=
  let x := s.ring r
  let s1 := s.modRing r (fun y => { y with pages := pagesOf 64 (y.pages.drop n ++ y.fetched), fetched := [] })
  if s.on Rg.ringArmed r && !x.fetched.all pageOk then s1.ringError r else s1

/-- The COMPLETE entry is durable: the indices and sequence numbers advance, the records are freed, and the message is
counted (R101, R522, R534). -/
def State.completeDurable (s : State) (r : Nat) : State :=
  match s.batch? r with
  | none => s
  | some b =>
    let n := b.recs.length
    let s1 := { s with batches := kvDel s.batches r }
    let s2 := ((s1.wr Rg.ringProd b.n1 r).wr Rg.ringBatchOpen 0 r).bump Rg.ringBatches r
    let s3 := (s2.wr Rg.gbNextSeq (seqAfter n b.s0) b.corr).wr Rg.gbVisibleSeq (seqAfter (n - 1) b.s0) b.corr
    let s4 := s3.modCorr b.corr (fun x => { x with lastVisible := lastVisibleOf x.lastVisible b.recs })
    let s5 := ((s4.freed b.corr b.recs).ringSignal r n).ringRefill r n
    let s6 := if (s.ring r).arming.isSome && (s.ring r).armLogged then s5.armFinish r else s5
    if (s.ring r).disarmWanted then
      (s6.wr Rg.ringArmed 0 r).modRing r (fun x => { x with disarmWanted := false })
    else s6

/-- Note CONS as it stands before a write; the first write of a tick tells (R552). -/
def State.consNote (s : State) (r : Nat) : State :=
  s.modRing r (fun x => { x with consBefore := match x.consBefore with
    | some (t, v) => if t = s.now then some (t, v) else some (s.now, s.rd Rg.ringCons r)
    | none => some (s.now, s.rd Rg.ringCons r) })

/-- RING_CONS_WRITE: a write of CONS is accepted within range, or counts as bad with E0645 (R529). -/
def State.consWrite (s : State) (r v : Nat) : State :=
  let cons := s.rd Rg.ringCons r
  if sub32 v cons ≤ sub32 (s.rd Rg.ringProd r) cons then (s.consNote r).wr Rg.ringCons v r
  else (s.bumpSat Rg.ringConsBad r).raise 645 r 0

def doRingConsWrite (m : MasterId) (r : RingId) (v : Word) (s : State) : State :=
  s.withRight m.val (0x340018 + 0x40 * r.val) .set (fun st => st.consWrite r.val v.toNat)

/-! ### Messages, link and function resets (R550, R659, R717, R782) -/

/-- MSIX_PENDING_SEND: the host enables or disables a vector's function and masks or unmasks the vector; a pending message
goes once everything allows (R717). -/
def State.msixSet (s : State) (v : Nat) (enabled unmasked : Bool) : State :=
  let fn := s.rd Rg.pcieVecFn v
  let p := s.pcie
  let en := if enabled then fn :: p.msixEnabled.erase fn else p.msixEnabled.erase fn
  let mk := if unmasked then p.masked.erase v else v :: p.masked.erase v
  let s1 := { s with pcie := { p with msixEnabled := en, masked := mk } }
  s1.each ((List.range 64).filter s1.evt.msixPending.contains) (fun st w =>
    if st.msixCanGo w then st.sendVector w else st)

def doMsixPendingSend (v : Fin 64) (enabled unmasked : Bool) (s : State) : State :=
  if s.on Rg.pcieLink && s.domainUp 3 then s.msixSet v.val enabled unmasked else s

/-- A reset or link-down of functions clears their pending messages at the instant it happens, and MSI-X is disabled until
the host enables it again (R717). -/
def State.msixClear (s : State) (fns : List Nat) : State :=
  { s with pcie := { s.pcie with msixEnabled := s.pcie.msixEnabled.filter (fun f => !fns.contains f),
                                 masked := s.pcie.masked.filter (fun v => !fns.contains (s.rd Rg.pcieVecFn v)) },
           evt := { s.evt with msixPending := s.evt.msixPending.filter (fun v =>
                                 !fns.contains (s.rd Rg.pcieVecFn v)) } }

/-- The rings of some functions, in ascending order. -/
def State.ringsOf (s : State) (fns : List Nat) : List Nat :=
  (List.range 256).filter (fun r => fns.contains (s.rd Rg.ringFn r) && (s.ringLive r || (s.batch? r).isSome))

/-- PCIE_LINK_DOWN: every ring is disarmed, batches stay open, and E0646 is raised (R550). -/
def State.linkDown (s : State) : State :=
  if !s.on Rg.pcieLink then s
  else
    let s1 := ((s.wr Rg.pcieLink 0).wr Rg.pcieWidth 0).wr Rg.pcieSpeed 0
    ((s1.each (s1.ringsOf (List.range 16)) State.ringCut).msixClear (List.range 16)).raise 646 0 0

def doPcieLinkDown (s : State) : State := s.linkDown

/-- The lane counts and speeds of Table Delivery.1. -/
def linkShapeOk (width speed : Nat) : Bool := [1, 2, 4].contains width && decide (1 ≤ speed) && decide (speed ≤ 3)

/-- PCIE_LINK_UP: the link comes up with a width and a speed, HOST being UP with its pads released (R550, Table Power.5).
The rings that were armed when HOST dropped are rebuilt, and pending messages may go. WAKE# is released (R690). -/
def State.linkUp (s : State) (width speed : Nat) : State :=
  if s.on Rg.pcieLink || !s.domainUp 3 || s.padHeld 1 || !linkShapeOk width speed then s
  else
    let s1 := (((s.wr Rg.pcieLink 1).wr Rg.pcieWidth width).wr Rg.pcieSpeed speed).raise 647 0 0
    ({ s1 with power := { s1.power with wakePin := false } }).ringsReturn

def doPcieLinkUp (width speed : Nat) (s : State) : State := s.linkUp width speed

/-- Both holding registers of a master are emptied (R659). -/
def State.emptyHolding (s : State) (m : Nat) : State :=
  { s with acc := { s.acc with holding := kvDel s.acc.holding m, sfeHolding := kvDel s.acc.sfeHolding m } }

/-- FUNCTION_LEVEL_RESET of one function, or a hot reset of all: rings are disarmed, holding registers emptied, and
pending messages cleared (R550, R659, R717). -/
def State.functionReset (s : State) (fns : List Nat) : State :=
  let s1 := s.each (s.ringsOf fns) State.ringCut
  (s1.each fns (fun st f => st.emptyHolding (fnMaster f))).msixClear fns

def doFunctionLevelReset (fn : Option (Fin 16)) (s : State) : State :=
  if s.on Rg.pcieLink && s.domainUp 3 then
    s.functionReset (match fn with | some f => [f.val] | none => List.range 16)
  else s

end Sys2Proof.Machine
end

