-- ==== Sys2Proof/Machine/Ether.lean ====
section
/-! DEFINITION. The Ethernet ports: links, the IEEE 1588 clock, ARP, ICMP echo and PAUSE (R538, R539, R555). -/
namespace Sys2Proof.Machine

/-- One port's internal state. -/
def State.eth (s : State) (p : Nat) : EthSt := kvGet {} s.eths p

/-- Change one port's internal state. -/
def State.modEth (s : State) (p : Nat) (f : EthSt → EthSt) : State := { s with eths := kvMod {} s.eths p f }

/-- The port sends and receives: enabled, its link up, HOST serving, and the engine working. -/
def State.ethLive (s : State) (p : Nat) : Bool :=
  s.on Rg.ethEn p && s.on Rg.ethLink p && s.domainServes 3 && s.engineWorks

/-- The tick at which the port may transmit next (R538: PAUSE). -/
def State.ethFree (s : State) (p : Nat) : Nat := max s.now (s.eth p).pausedUntil

/-- Big-endian bytes of a natural. -/
def beBytes (n x : Nat) : List Byte := (leBytes n x).reverse

/-- The natural that `n` big-endian bytes from offset `o` spell. -/
def beAt (bs : List Byte) (o n : Nat) : Nat := ofLeBytes ((bs.drop o).take n).reverse

/-- Transmit on a port; without a link the datagram is lost (R555). -/
def State.netSend (s : State) (p ip udp : Nat) (bs : List Byte) : State :=
  if s.ethLive p then
    { s with netOut := { at_ := s.ethFree p, port := p, ip := ip, udp := udp, bytes := bs } :: s.netOut }
  else s

/-! ### Links (R555) -/

/-- ETH_LINK_DOWN. Sessions stay open. -/
def doEthLinkDown (p : Fin 2) (s : State) : State :=
  if s.on Rg.ethLink p then (s.wr Rg.ethLink 0 p).raise (649 + p.val) p 0 else s

/-- ETH_LINK_UP, the port being enabled and HOST up with its pads released. -/
def doEthLinkUp (p : Fin 2) (s : State) : State :=
  if s.on Rg.ethLink p || !s.on Rg.ethEn p || !s.domainUp 3 || s.padHeld 1 then s
  else (s.wr Rg.ethLink 1 p).raise (651 + p.val) p 0

/-! ### The IEEE 1588 clock (R539) -/

/-- The offset register holds 32 bits. -/
def clampOffset (x : Int) : Int := clampI (-(2 ^ 31 : Nat)) ((2 ^ 31 - 1 : Nat)) x

/-- Lock is lost: E0658, and holdover if the port feeds the Bell. -/
def State.ptpUnlock (s : State) (p : Nat) : State :=
  (((s.wr Rg.ethPtpLock 0 p).modEth p (fun e => { e with good := 0 })).raise 658 p 0).ptpLost p

/-- PTP_SYNC: a Sync message with the master's time in ns as of its arrival. -/
def State.ptpSync (s : State) (p : Nat) (master : Int) : State :=
  if !s.ethLive p || !s.on Rg.ethPtpEn p then s
  else
    let e := s.eth p
    let off := 4 * (s.now : Int) + e.base - master
    let s1 := (s.modEth p (fun x => { x with base := x.base - off, lastSync := some s.now })).wrI Rg.ethPtpOffset
      (clampOffset off) p
    if s.on Rg.ethPtpLock p then (if 10000 < off.natAbs then s1.ptpUnlock p else s1)
    else if off.natAbs < 1000 then
      (if 16 ≤ e.good + 1 then
        (((s1.wr Rg.ethPtpLock 1 p).modEth p (fun x => { x with good := 16 })).raise 657 p 0).ptpBack p
       else s1.modEth p (fun x => { x with good := e.good + 1 }))
    else s1.modEth p (fun x => { x with good := 0 })

def doPtpSync (p : Fin 2) (master : Int) (s : State) : State := s.ptpSync p.val master

/-- PTP_SYNC_TIMEOUT: no Sync message for 4 s. -/
def doPtpSyncTimeout (p : Fin 2) (s : State) : State :=
  match (s.eth p.val).lastSync with
  | none => s
  | some t =>
    let s1 := (s.reach (t + msTicks 4000)).modEth p.val (fun x => { x with lastSync := none, good := 0 })
    if s.on Rg.ethPtpLock p then s1.ptpUnlock p.val else s1

/-! ### ARP, ICMP and PAUSE (R538) -/

/-- An Ethernet address as ARP carries it: register MAC holds its first byte lowest. -/
def macBytes (m : Nat) : List Byte := leBytes 6 m

/-- The 28 bytes of an ARP reply. PRESUMED: the form of RFC 826, which the spec names as ARP only (log entry 42). -/
def arpReply (mac ip peerMac peerIp : Nat) : List Byte :=
  beBytes 2 1 ++ beBytes 2 0x800 ++ [6, 4] ++ beBytes 2 2 ++ macBytes mac ++ beBytes 4 ip ++ macBytes peerMac ++
  beBytes 4 peerIp

/-- ARP_REQUEST: a request for the port's address is answered; a reply to it, or such a request, resolves the sender. -/
def doArpRequest (p : Fin 2) (reply : Bool) (peerIp : Word) (peerMac : BitVec 48) (target : Word) (s : State) : State :=
  if s.ethLive p.val && s.rd Rg.ethIp p == target.toNat then
    let s1 := s.modEth p.val (fun e => { e with arp := kvPut e.arp peerIp.toNat peerMac.toNat })
    if reply then s1
    else s1.netSend p.val peerIp.toNat 0 (arpReply (s.rd Rg.ethMac p) (s.rd Rg.ethIp p) peerMac.toNat peerIp.toNat)
  else s

/-- A step of the internet checksum: the ones' complement of the ones' complement sum of 16-bit words. -/
def onesAdd (a b : Nat) : Nat := if 65535 < a + b then a + b - 65535 else a + b

def onesSum : List Byte → Nat → Nat
  | [], a => a
  | [x], a => onesAdd a (x.toNat * 256)
  | x :: y :: l, a => onesSum l (onesAdd a (x.toNat * 256 + y.toNat))

/-- An ICMP echo reply to a request. PRESUMED: the form of RFC 792, which the spec names as ICMP only (log entry 42). -/
def echoReply (req : List Byte) : List Byte :=
  let rest := req.drop 4
  beBytes 2 0 ++ beBytes 2 (65535 - onesSum rest 0) ++ rest

/-- ICMP_ECHO_REQUEST: an echo request to the port's address is answered; a fragmented datagram is discarded. -/
def doIcmpEchoRequest (p : Fin 2) (src dst : Word) (fragmented : Bool) (req : List Byte) (s : State) : State :=
  if s.ethLive p.val && s.rd Rg.ethIp p == dst.toNat && !fragmented then s.netSend p.val src.toNat 0 (echoReply req) else s

/-- PAUSE_FRAME: the port's transmission stops for the requested time, in units of 512 bit times: 128 ticks at 1 Gbit/s, and
51.2 ticks at 2.5 Gbit/s. PRESUMED: the unit of IEEE 802.3 (log entry 42). -/
def doPauseFrame (p : Fin 2) (quanta : BitVec 16) (s : State) : State :=
  if s.ethLive p.val then
    let t := if s.on Rg.ethMode p then ceilDiv (quanta.toNat * 256) 5 else quanta.toNat * 128
    s.modEth p.val (fun e => { e with pausedUntil := s.now + t })
  else s

end Sys2Proof.Machine
end

