-- ==== Sys2Proof/Machine/Jexnus.lean ====
section
/-! DEFINITION. The Jexnus result datagram protocol: datagrams, sessions, acknowledgement, retransmission and closing (R540
to R548, R553, R650). -/
namespace Sys2Proof.Machine

/-! ### Sequence numbers -/

/-- How far a sequence number lies after another: they run from 1 to 2^48 − 1 and begin at 1 again (R99); 0 stands before
the first. -/
def seqDist (a b : Nat) : Nat := (b + (2 ^ 48 - 1) - a) % (2 ^ 48 - 1)

/-- It lies after `a`, by less than half the range. -/
def seqAhead (a b : Nat) : Bool := 0 < seqDist a b && seqDist a b < 2 ^ 47

/-- It does not lie before `a`. -/
def seqNotBehind (a b : Nat) : Bool := seqDist a b < 2 ^ 47

/-! ### Sending and acknowledgement (R104, R522, R545) -/

/-- The highest sequence number sent to a correspondent. -/
def State.hiSent (s : State) (c : Nat) : Nat :=
  match (s.corr c).sent.getLast? with
  | some r => r.seq
  | none => (s.corr c).acked

/-- A SENT entry is durable: the sequence numbers advance, and its records may be sent (R104). -/
def State.sentDurable (s : State) (c : Nat) : State :=
  let l := (s.corr c).sending
  match l.getLast? with
  | none => s
  | some r =>
    let s1 := (s.wr Rg.gbNextSeq (seqNext r.seq) c).wr Rg.gbVisibleSeq r.seq c
    (s1.modCorr c (fun z => { z with sending := [], sent := z.sent ++ l,
                                     lastVisible := lastVisibleOf z.lastVisible l })).gbSync c

/-- The entry that acknowledges for correspondent c. -/
def isAckedOf (c : Nat) : JBody → Bool
  | .acked c' _ => c' == c
  | _ => false

/-- The highest acknowledgement of a correspondent: one that waits, one on its way, or the journaled one. -/
def State.ackNow (s : State) (c : Nat) : Nat :=
  match (s.corr c).ackWant with
  | some q => q
  | none => match s.jnl.requests.find? (isAckedOf c) with
    | some (.acked _ q) => q
    | _ => (s.corr c).acked

/-- An ACKED entry follows an advance, at most once per 100 µs, and names the highest acknowledgement (R545). -/
def State.ackAdvance (s : State) (c q : Nat) : State :=
  if s.jnl.requests.any (isAckedOf c) then
    { s with jnl := { s.jnl with requests := s.jnl.requests.map (fun b => if isAckedOf c b then .acked c q else b) } }
  else match (s.corr c).ackAt with
    | some t => if s.now < t + usTicks 100 then s.modCorr c (fun z => { z with ackWant := some q })
                else s.jreq (.acked c q)
    | none => s.jreq (.acked c q)

/-- The ACKED entry is durable: the records it covers are freed (R522). -/
def State.ackedDurable (s : State) (c q : Nat) : State :=
  let gone := (s.corr c).sent.filter (fun r => !seqAhead q r.seq)
  (s.modCorr c (fun z => { z with acked := q, sent := z.sent.filter (fun r => seqAhead q r.seq), ackAt := some s.now })).freed
    c gone

/-- The acknowledgements that wait and whose 100 µs are over get their entry. -/
def State.ackFlush (s : State) : State :=
  s.each s.corrs (fun st e =>
    match e.2.ackWant, e.2.ackAt with
    | some q, some t => if t + usTicks 100 ≤ st.now then
        (st.modCorr e.1 (fun z => { z with ackWant := none })).jreq (.acked e.1 q)
      else st
    | some q, none => (st.modCorr e.1 (fun z => { z with ackWant := none })).jreq (.acked e.1 q)
    | none, _ => st)

/-- The instant at which the first acknowledgement that waits may have its entry. -/
def State.ackInstant (s : State) : Option Nat :=
  s.corrs.foldl (fun m e => match e.2.ackWant with
    | none => m
    | some _ =>
      let t := (e.2.ackAt.getD 0) + usTicks 100
      match m with
      | none => some t
      | some u => some (min t u)) none

/-! ### Sessions -/

/-- One context's internal state. -/
def State.jx (s : State) (x : Nat) : JxSt := kvGet {} s.jxs x

/-- Change one context's internal state. -/
def State.modJx (s : State) (x : Nat) (f : JxSt → JxSt) : State := { s with jxs := kvMod {} s.jxs x f }

/-- Master of Jexnus context x (R542). -/
def jxMaster (x : Nat) : Nat := 34 + x

/-- A session is open on the context. -/
def State.jxOpen (s : State) (x : Nat) : Bool := s.rd Rg.jxsState x == 1

/-- The context that holds a correspondent's session. -/
def State.sessionOf (s : State) (c : Nat) : Option Nat :=
  (List.range 62).find? (fun x => s.jxOpen x && s.rd Rg.jxsCorr x == c)

/-- A context sends records: open, HOST up, and its port live. -/
def State.jxLive (s : State) (x : Nat) : Bool := s.jxOpen x && s.domainUp 3 && s.ethLive (s.rd Rg.jxsPort x)

/-- The next sequence number that the Gradebook will assign: after the records whose SENT entry is on its way. -/
def State.nextSeq (s : State) (c : Nat) : Nat := seqAfter (s.corr c).sending.length (max 1 (s.rd Rg.gbNextSeq c))

/-- Records sent in a session and not acknowledged by its ACKED. -/
def State.outstanding (s : State) (x : Nat) : List Rec :=
  (s.corr (s.rd Rg.jxsCorr x)).sent.filter (fun r => seqAhead (s.rd Rg.jxsAcked x) r.seq)

/-- OUTSTANDING counts those that this session has transmitted (Table Delivery.7). -/
def State.jxSync (s : State) (x : Nat) : State :=
  let sentNow := (s.jx x).sent
  s.wr Rg.jxsOutstanding ((s.outstanding x).filter (fun r => sentNow.any (fun e => e.seq == r.seq && e.dgram != 0))).length x

/-! ### Datagrams (R540) -/

/-- A datagram with its header; CHECK covers it with its own bytes at 0. -/
def jxDgram (ty token corr : Nat) (body : List Byte) : List Byte :=
  let h := beBytes 2 0x4A58 ++ [1] ++ beBytes 1 ty ++ beBytes 4 token ++ beBytes 2 (16 + body.length) ++ beBytes 2 corr
  h ++ beBytes 4 (crc32 (h ++ zeros 4 ++ body)) ++ body

/-- Send a datagram of a session to its peer. -/
def State.jxSend (s : State) (x ty : Nat) (body : List Byte) : State :=
  s.netSend (s.rd Rg.jxsPort x) (s.rd Rg.jxsPeerIp x) (s.rd Rg.jxsPeerUdp x)
    (jxDgram ty (s.rd Rg.jxsToken x) (s.rd Rg.jxsCorr x) body)

/-- What a received datagram is (R541). -/
inductive JxKind where
  | bad
  | otherVersion
  | hello | ack | bye
  deriving DecidableEq, Repr

/-- The gaps of an ACK: first and last missing sequence number. -/
def jxGaps (bs : List Byte) : List (Nat × Nat) :=
  (List.range (beAt bs 30 1)).map (fun i => (beAt bs (36 + 12 * i) 6, beAt bs (42 + 12 * i) 6))

/-- Gaps ascend and are disjoint within (CUM, HIGH]. -/
def gapsOk (cum high : Nat) : Nat → List (Nat × Nat) → Bool
  | _, [] => true
  | last, (a, b) :: l =>
    decide (last < seqDist cum a) && decide (seqDist cum a ≤ seqDist cum b) && decide (seqDist cum b ≤ seqDist cum high) &&
    gapsOk cum high (seqDist cum b) l

/-- Classify the bytes of a received datagram: MAGIC, LENGTH and CHECK, then the VERSION, the TYPE and the body. -/
def jxClassify (bs : List Byte) : JxKind :=
  if bs.length < 16 || beAt bs 0 2 != 0x4A58 || beAt bs 8 2 != bs.length ||
      beAt bs 12 4 != crc32 (bs.take 12 ++ zeros 4 ++ bs.drop 16) then .bad
  else if beAt bs 2 1 != 1 then .otherVersion
  else if beAt bs 3 1 = 1 then (if bs.length = 30 then .hello else .bad)
  else if beAt bs 3 1 = 4 then
    (if 36 ≤ bs.length ∧ beAt bs 30 1 ≤ 16 ∧ bs.length = 36 + 12 * beAt bs 30 1 ∧
        gapsOk (beAt bs 16 6) (beAt bs 22 6) 0 (jxGaps bs) then .ack else .bad)
  else if beAt bs 3 1 = 5 then (if bs.length = 17 then .bye else .bad)
  else .bad

/-- A REJECT datagram with E0655. The TOKEN that it carries is not stated: a free value. -/
def State.jxReject (s : State) (p ip udp corr reason : Nat) : State :=
  let t := s.free 32
  (t.1.netSend p ip udp (jxDgram 7 t.2 corr (beBytes 1 reason))).raiseLim 64 655 0 p reason

/-- REJECT reason 4, at most once per 10 ms per peer (R548). -/
def State.jxStale (s : State) (p ip udp corr : Nat) : State :=
  let l := (s.eth p).stale
  if l.any (fun e => e.1 == ip && e.2.1 == udp && decide (s.now < e.2.2 + msTicks 10)) then s
  else
    let l1 := (ip, udp, s.now) :: l.filter (fun e => decide (s.now < e.2.2 + msTicks 10))
    (s.modEth p (fun e => { e with stale := l1 })).jxReject p ip udp corr 4

/-- A datagram that is discarded counts, and one of another version is answered with REJECT (R541). -/
def State.jxUnfit (s : State) (p ip udp : Nat) (bs : List Byte) : State :=
  match jxClassify bs with
  | .bad => s.bumpSat Rg.ethBadDgram p
  | .otherVersion => s.jxReject p ip udp (beAt bs 10 2) 5
  | _ => s

/-- BAD_DGRAM. -/
def doBadDgram (p : Fin 2) (ip udp : Nat) (bs : List Byte) (s : State) : State :=
  if !s.ethLive p.val then s else s.jxUnfit p.val ip udp bs

/-! ### Transmission (R543) -/

/-- The size of a fragment: the largest multiple of 64 bytes that fits. -/
def fragSize (maxDgram : Nat) : Nat := max 64 ((maxDgram - 32) / 64 * 64)

/-- The body of a DATA datagram. -/
def dataBody (first count frag off stamp : Nat) (bs : List Byte) : List Byte :=
  beBytes 6 first ++ beBytes 2 count ++ beBytes 1 frag ++ zeros 1 ++ beBytes 2 off ++ beBytes 4 (stamp % 2 ^ 32) ++ bs

/-- As many consecutive records as fit in `room` bytes, and the others. -/
def takeFit : Nat → Nat → List Rec → List Rec × List Rec
  | _, _, [] => ([], [])
  | room, prev, r :: l =>
    if r.size ≤ room ∧ r.seq = seqNext prev then
      let t := takeFit (room - r.size) r.seq l
      (r :: t.1, t.2)
    else ([], r :: l)

/-- Note a DATA datagram, and the records it carried. -/
def State.jxNote (s : State) (x : Nat) (l : List Rec) (retx : Bool) : State :=
  s.modJx x (fun y =>
    let n := y.dgrams.length + 1
    { y with dgrams := (s.ethFree (s.rd Rg.jxsPort x), retx) :: y.dgrams,
             sent := (y.sent.filter (fun e => !l.any (fun r => r.seq == e.seq))) ++
                     l.map (fun r => { seq := r.seq, dgram := n }),
             timerFrom := some (y.timerFrom.getD s.now) })

/-- One fragment of a record. -/
def State.jxFragment (s : State) (x : Nat) (r : Rec) (retx : Bool) (bytes : List Byte) (size n i : Nat) : State :=
  (s.jxSend x 3 (dataBody r.seq 1 (16 * i + (n - 1)) (i * size / 64) (s.ethFree (s.rd Rg.jxsPort x))
    ((bytes.drop (i * size)).take size))).jxNote x [r] retx

/-- Send records in ascending order in DATA datagrams: whole ones together, a large one in fragments. -/
def State.jxDataGo (s : State) (x : Nat) (retx : Bool) : Nat → List Rec → State
  | 0, _ => s
  | _, [] => s
  | n + 1, r :: l =>
    let c := s.rd Rg.jxsCorr x
    let room := (s.jx x).maxDgram - 32
    if r.size ≤ room then
      let t := takeFit (room - r.size) r.seq l
      let group := r :: t.1
      let s1 := s.jxSend x 3 (dataBody r.seq group.length 0 0 (s.ethFree (s.rd Rg.jxsPort x))
        (group.map (fun y => y.bytes c)).flatten)
      (s1.jxNote x group retx).jxDataGo x retx n t.2
    else
      let size := fragSize (s.jx x).maxDgram
      let k := ceilDiv r.size size
      let s1 := s.each (List.range k) (fun st i => st.jxFragment x r retx (r.bytes c) size k i)
      s1.jxDataGo x retx n l

/-- Transmit records of a session; a repeated transmission counts in RETRANS with E0656 (R546). -/
def State.jxTransmit (s : State) (x : Nat) (l : List Rec) (retx : Bool) : State :=
  let s1 := (s.jxDataGo x retx l.length l).jxSync x
  if retx && !l.isEmpty then
    let s2 := s1.addSat Rg.jxsRetrans l.length x
    s2.raiseCnt 64 656 x x
  else s1

/-- A record has been transmitted in this session. -/
def JxSt.has (y : JxSt) (q : Nat) : Bool := y.sent.any (fun e => e.seq == q && e.dgram != 0)

/-- The receiver has told that it keeps a record. -/
def JxSt.keeps (y : JxSt) (q : Nat) : Bool := y.sent.any (fun e => e.seq == q && e.kept)

/-- The records within the window: from ACKED + 1 to ACKED + WINDOW. -/
def State.jxWindowed (s : State) (x : Nat) (l : List Rec) : List Rec :=
  l.filter (fun r => decide (seqDist (s.rd Rg.jxsAcked x) r.seq ≤ (s.jx x).window))

/-- JX_DATA: records whose SENT entry is durable and that this session has not sent are sent; then released records within
the window are taken under a SENT entry of at most 64 (R543, R104). -/
def State.jxData (s : State) (x : Nat) : State :=
  if !s.jxLive x then s
  else
    let c := s.rd Rg.jxsCorr x
    let y := s.jx x
    let s1 := s.jxTransmit x ((s.jxWindowed x (s.outstanding x)).filter (fun r => !y.has r.seq && !y.keeps r.seq)) false
    if !(s.corr c).sending.isEmpty || (s.corr c).evicting || !s.mayTake (jxMaster x) c then s1
    else
      let room := y.window - seqDist (s.rd Rg.jxsAcked x) (s.hiSent c)
      let t := s1.takeRecs c (min 64 room)
      match t.2 with
      | [] => s1
      | r :: _ =>
        let v := lastOf t.2
        ((t.1.modCorr c (fun z => { z with sending := t.2 })).jreq
          (.sent v.1 (s.rd Rg.jxsPort x) x c r.seq t.2.length v.2)).gbSync c

def doJxData (x : CtxId) (s : State) : State := s.jxData x.val

/-- The records of a durable SENT entry go out on the correspondent's session. -/
def State.sentGo (s : State) (c : Nat) : State :=
  match s.sessionOf c with
  | some x => if s.jxLive x then
      s.jxTransmit x ((s.jxWindowed x (s.outstanding x)).filter (fun r => !(s.jx x).has r.seq && !(s.jx x).keeps r.seq)) false
    else s
  | none => s

/-! ### Round trip and timer (R546) -/

/-- RTO in its bounds, in ticks. -/
def State.rtoClamp (s : State) (t : Rat) : Rat :=
  let lo := ((msTicks (s.rd Rg.jxRtoMin) : Nat) : Rat)
  let hi := ((msTicks (s.rd Rg.jxRtoMax) : Nat) : Rat)
  if t < lo then lo else if hi < t then hi else t

/-- Show SRTT and RTO in µs. -/
def State.jxShowRtt (s : State) (x : Nat) : State :=
  let y := s.jx x
  let s1 := s.wr Rg.jxsRto (y.rto / 250).floor.toNat x
  match y.rtt with
  | some (a, _) => s1.wr Rg.jxsSrtt (a / 250).floor.toNat x
  | none => s1.wr Rg.jxsSrtt 0 x

/-- A round-trip sample of R ticks. -/
def State.jxSample (s : State) (x r : Nat) : State :=
  let q : Rat := (r : Nat)
  let n := match (s.jx x).rtt with
    | none => (q, q / 2)
    | some (a, v) => (7 / 8 * a + q / 8, 3 / 4 * v + (if a < q then q - a else a - q) / 4)
  (s.modJx x (fun y => { y with rtt := some n, rto := s.rtoClamp (n.1 + 4 * n.2) })).jxShowRtt x

/-- Records sent in this session that are neither acknowledged nor kept. -/
def State.unanswered (s : State) (x : Nat) : List Rec :=
  (s.outstanding x).filter (fun r => (s.jx x).has r.seq && !(s.jx x).keeps r.seq)

/-- The timer runs while a record that has been sent is neither acknowledged nor kept. -/
def State.jxTimer (s : State) (x : Nat) (restart : Bool) : State :=
  if (s.unanswered x).isEmpty then s.modJx x (fun y => { y with timerFrom := none })
  else s.modJx x (fun y => { y with timerFrom := if restart then some s.now else some (y.timerFrom.getD s.now) })

/-- JX_RETRANSMIT_TIMEOUT: every such record within the window is sent again, and RTO doubles. -/
def State.jxExpire (s : State) (x : Nat) : State :=
  match (s.jx x).timerFrom with
  | none => s
  | some t =>
    if !s.jxOpen x then s
    else
      let s0 := s.reach (t + (s.jx x).rto.ceil.toNat)
      let s1 := s0.jxTransmit x (s0.jxWindowed x (s0.unanswered x)) true
      let s2 := s1.modJx x (fun y => { y with rto := s1.rtoClamp (2 * y.rto), timerFrom := some s0.now })
      s2.jxShowRtt x

def doJxRetransmitTimeout (x : CtxId) (s : State) : State := s.jxExpire x.val

/-! ### Closing (R547) -/

/-- A master's binding changes: BOUND, TENANT and SOURCE follow, its holding registers are emptied (R659), and E0785 says
both bindings (R827). A binding that stays the same changes nothing (R669). -/
def State.rebind (s : State) (m : Nat) (new : Option (Nat × Nat)) : State :=
  let old := s.tenantOf m
  if old == new.map Prod.fst then s
  else
    let t := (new.map Prod.fst).getD 0
    let src := (new.map Prod.snd).getD 0
    let s0 := s.keepFields [(Rg.mbindBound, m, 0), (Rg.mbindTenant, m, 0)]
    let s1 := ((s0.wr Rg.mbindBound (b2n new.isSome) m).wr Rg.mbindTenant t m).wr Rg.mbindSource src m
    (s1.emptyHolding m).raise 785 (m + 256 * src)
      (b2n old.isSome * 2 ^ 31 + b2n new.isSome * 2 ^ 30 + old.getD 0 * 2 ^ 16 + t)

/-- Unbind a master. -/
def State.unbind (s : State) (m : Nat) : State := s.rebind m none

/-- Bind a master to a tenant from a source of Table Access.6. -/
def State.bindTo (s : State) (m t src : Nat) : State := s.rebind m (some (t, src))

/-- A session closes: the context is free, every record is kept, and E0654 is raised with the reason. -/
def State.jxFree (s : State) (x reason : Nat) : State :=
  let c := s.rd Rg.jxsCorr x
  let s1 := (((s.wr Rg.jxsState 0 x).wr Rg.jxsToken 0 x).wr Rg.jxsOutstanding 0 x).modJx x (fun y =>
    { gen := y.gen })
  let s2 := ((s1.wr Rg.corrSessionValid 0 c).wr Rg.corrSession 0 c).unbind (jxMaster x)
  s2.raise 654 x reason

/-- The engine closes a session with a BYE. -/
def State.jxBye (s : State) (x reason : Nat) : State :=
  if s.jxOpen x then (s.jxSend x 5 (beBytes 1 reason)).jxFree x reason else s

/-- JX_CLOSE: a write of CLOSE (R559). -/
def doJxClose (m : MasterId) (x : CtxId) (s : State) : State :=
  s.withRight m.val (0x369000 + 0x40 * x.val) .run (fun st => st.jxBye x.val 2)

/-- JX_KEEPALIVE: KEEPALIVE ms without a valid datagram, or since the last PROBE: a PROBE is sent. -/
def doJxKeepalive (x : CtxId) (s : State) : State :=
  if !s.jxOpen x.val then s
  else
    let y := s.jx x.val
    let s0 := s.reach (max y.lastRx y.lastProbe + msTicks (s.rd Rg.jxKeepalive))
    (s0.jxSend x.val 6 []).modJx x.val (fun z => { z with lastProbe := s0.now })

/-- JX_SESSION_TIMEOUT: no valid datagram for SESS_TIMEOUT s. -/
def doJxSessionTimeout (x : CtxId) (s : State) : State :=
  if !s.jxOpen x.val then s
  else (s.reach ((s.jx x.val).lastRx + msTicks (1000 * s.rd Rg.jxSessTimeout))).jxBye x.val 4

/-- The context that a token names, if it names a live session. -/
def State.tokenCtx (s : State) (token : Nat) : Option Nat :=
  let x := token / 256 % 256
  if x < 62 && s.jxOpen x && s.rd Rg.jxsToken x == token then some x else none

/-- JX_BYE: the peer closes its session. -/
def doJxBye (p : Fin 2) (ip udp : Nat) (bs : List Byte) (s : State) : State :=
  if !s.ethLive p.val then s
  else if jxClassify bs != .bye then s.jxUnfit p.val ip udp bs
  else match s.tokenCtx (beAt bs 4 4) with
    | none => s.jxStale p.val ip udp (beAt bs 10 2)
    | some x => s.jxFree x (beAt bs 16 1)

/-! ### Acknowledgement (R545) -/

/-- An advance of a session's acknowledgement: ACKED is set, and its entry is requested. -/
def State.jxAdvance (s : State) (x cum : Nat) : State :=
  let s1 := (s.wr Rg.jxsAcked cum x).modJx x (fun y => { y with sent := y.sent.filter (fun e => seqAhead cum e.seq) })
  s1.ackAdvance (s.rd Rg.jxsCorr x) cum

/-- Records that the receiver keeps beyond CUM: in (CUM, HIGH] and outside every gap. -/
def State.jxKeep (s : State) (x cum high : Nat) (gaps : List (Nat × Nat)) : State :=
  let c := s.rd Rg.jxsCorr x
  let kept : Nat → Bool := fun q => seqAhead cum q && decide (seqDist cum q ≤ seqDist cum high) &&
    !gaps.any (fun g => decide (seqDist cum g.1 ≤ seqDist cum q) && decide (seqDist cum q ≤ seqDist cum g.2))
  s.each ((s.corr c).sent.filter (fun r => kept r.seq)) (fun st r =>
    st.modJx x (fun y =>
      { y with sent := if y.sent.any (fun e => e.seq == r.seq)
                       then y.sent.map (fun e => if e.seq == r.seq then { e with kept := true } else e)
                       else y.sent ++ [{ seq := r.seq, dgram := 0, kept := true }] }))

/-- The latest DATA datagram that ECHO names: its number, its tick, and whether it carried a retransmitted record. -/
def echoOf (echo : Nat) : List (Nat × Bool) → Option (Nat × Nat × Bool)
  | [] => none
  | (t, r) :: l => if t % 2 ^ 32 = echo then some (l.length + 1, t, r) else echoOf echo l

/-- JX_ACK: an ACK of a live session. -/
def State.jxAck (s : State) (x : Nat) (bs : List Byte) : State :=
  let c := s.rd Rg.jxsCorr x
  let cum := beAt bs 16 6
  let high := beAt bs 22 6
  let gaps := jxGaps bs
  if seqAhead (s.hiSent c) high || !seqNotBehind cum high then s.bumpSat Rg.jxsBadAck x
  else
    let s1 := s.modJx x (fun y => { y with lastRx := s.now, window := beAt bs 28 2 })
    let adv := seqAhead (s.rd Rg.jxsAcked x) cum
    let s2 := if adv then s1.jxAdvance x cum else s1
    let s3 := s2.jxKeep x cum high gaps
    let e := echoOf (beAt bs 32 4) (s.jx x).dgrams
    let s4 := match e with
      | some (_, t, false) => s3.jxSample x (s.now - t)
      | _ => s3
    let s5 := s4.jxTimer x adv
    match e with
    | none => s5.jxSync x
    | some (n, _, _) =>
      let y := s5.jx x
      let lost := (s5.jxWindowed x (s5.unanswered x)).filter (fun r =>
        gaps.any (fun g => decide (seqDist cum g.1 ≤ seqDist cum r.seq) && decide (seqDist cum r.seq ≤ seqDist cum g.2)) &&
        y.sent.any (fun z => z.seq == r.seq && decide (z.dgram < n)))
      (s5.jxTransmit x lost true).jxSync x

def doJxAck (p : Fin 2) (ip udp : Nat) (bs : List Byte) (s : State) : State :=
  if !s.ethLive p.val then s
  else if jxClassify bs != .ack then s.jxUnfit p.val ip udp bs
  else match s.tokenCtx (beAt bs 4 4) with
    | none => s.jxStale p.val ip udp (beAt bs 10 2)
    | some x => s.jxAck x bs

/-! ### HELLO (R542, R553, R650) -/

/-- WELCOME of an open session. -/
def State.jxWelcome (s : State) (x : Nat) : State :=
  let y := s.jx x
  s.jxSend x 2 (beBytes 2 y.window ++ beBytes 2 y.maxDgram ++ beBytes 6 (s.rd Rg.jxsAcked x) ++
    beBytes 6 (s.nextSeq (s.rd Rg.jxsCorr x)))

/-- A HELLO whose CUM lies above ACKED and no higher than the highest sequence number sent counts as an ACK with it (R542). -/
def State.jxHelloAck (s : State) (x cum : Nat) : State :=
  if seqAhead (s.rd Rg.jxsAcked x) cum && !seqAhead (s.hiSent (s.rd Rg.jxsCorr x)) cum then
    ((s.jxAdvance x cum).jxTimer x true).jxSync x
  else s

/-- Open a session on context x, which is bound to the correspondent's tenant. -/
def State.jxStart (s : State) (x p ip udp c window maxDgram cum : Nat) : State :=
  let gen := ((s.jx x).gen + 1) % 256
  let token := s.rd Rg.jxBoot % 65536 * 65536 + x * 256 + gen
  let s1 := ((((s.wr Rg.jxsState 1 x).wr Rg.jxsPort p x).wr Rg.jxsCorr c x).wr Rg.jxsToken token x).wr Rg.jxsPeerIp ip x
  let s2 := ((s1.wr Rg.jxsPeerUdp udp x).wr Rg.jxsAcked (s.corr c).acked x).wr Rg.jxsOutstanding 0 x
  let s3 := s2.modJx x (fun _ =>
    { gen := gen, window := min window (clamp 1 1024 (s.rd Rg.jxWindow)),
      maxDgram := min maxDgram (s.rd Rg.ethMtu p - 28), rto := ((msTicks (s.rd Rg.jxRtoInit) : Nat) : Rat),
      lastRx := s.now, lastProbe := s.now })
  let s4 := ((s3.wr Rg.corrSessionValid 1 c).wr Rg.corrSession x c).jxShowRtt x
  let s5 := s4.raise 653 x 0
  (s5.jxHelloAck x cum).jxWelcome x

/-- The lowest free context. -/
def State.freeCtx (s : State) : Option Nat := (List.range 62).find? (fun x => !s.jxOpen x)

/-- JX_HELLO: a HELLO opens, repeats or replaces a session, or is answered with the first REJECT reason that applies. -/
def State.jxHello (s : State) (p ip udp : Nat) (bs : List Byte) : State :=
  let c := beAt bs 10 2
  let window := clamp 1 1024 (beAt bs 20 2)
  let maxDgram := clamp 576 8972 (beAt bs 22 2)
  let cum := beAt bs 24 6
  let z := s.corr c
  let old := s.sessionOf c
  if 4096 ≤ c || s.rd Rg.corrJxCode c != beAt bs 16 4 then s.jxReject p ip udp c 1
  else if z.kind != 2 || !(z.route == p || z.route == 2) then s.jxReject p ip udp c 2
  else match old.orElse (fun _ => s.freeCtx) with
    | none => s.jxReject p ip udp c 3
    | some x =>
      if !s.holds z.tenant 0x30 (some c) .run then
        ((if old.isSome then s else (s.bindTo (jxMaster x) z.tenant 3).unbind (jxMaster x))).jxReject p ip udp c 6
      else if old.isSome && s.rd Rg.jxsPeerIp x == ip && s.rd Rg.jxsPeerUdp x == udp && s.rd Rg.jxsPort x == p then
        ((s.modJx x (fun y => { y with lastRx := s.now })).jxHelloAck x cum).jxWelcome x
      else
        let s1 := if old.isSome then s.jxBye x 3 else s
        (s1.bindTo (jxMaster x) z.tenant 3).jxStart x p ip udp c window maxDgram cum

def doJxHello (p : Fin 2) (ip udp : Nat) (bs : List Byte) (s : State) : State :=
  if !s.ethLive p.val then s
  else if jxClassify bs != .hello then s.jxUnfit p.val ip udp bs
  else if !s.domainUp 3 then s else s.jxHello p.val ip udp bs

/-- HOST drops: every session closes with BYE reason 5 (R551). -/
def State.jxHostDown (s : State) : State := s.each (List.range 62) (fun st x => st.jxBye x 5)

/-- Rights have changed: a session whose master no longer holds Run on its correspondent closes with BYE reason 2, and so
does one whose correspondent has another owner (R662). -/
def State.jxRights (s : State) : State :=
  s.each ((List.range 62).filter s.jxOpen) (fun st x =>
    let c := st.rd Rg.jxsCorr x
    if st.mayTake (jxMaster x) c && st.tenantOf (jxMaster x) == some (st.corr c).tenant then st else st.jxBye x 2)

end Sys2Proof.Machine
end

