-- ==== Sys2Proof/Machine/Text.lean ====
section
/-! DEFINITION. Texts: how the engine writes and reads numbers and words (R573, R578 to R580). -/
namespace Sys2Proof.Machine

/-- A text from a literal. -/
def tx (t : String) : Text := t.toList

/-- The digit of a value below 16, in upper case. -/
def digitChar (d : Nat) : Char :=
  if d < 10 then Char.ofNat (48 + d) else Char.ofNat (55 + d)

/-- Digits of a natural in a base, with fuel, most significant first. -/
def digitsGo (base : Nat) : Nat → Nat → Text → Text
  | 0, _, acc => acc
  | n + 1, x, acc =>
    let acc' := digitChar (x % base) :: acc
    if x / base = 0 then acc' else digitsGo base n (x / base) acc'

/-- Decimal, with no separators. -/
def dec (x : Nat) : Text := digitsGo 10 25 x []

/-- Decimal of an integer, with a leading minus. -/
def decI (x : Int) : Text := if x < 0 then '-' :: dec x.natAbs else dec x.toNat

/-- `n` hexadecimal digits, in upper case. -/
def hexN : Nat → Nat → Text
  | 0, _ => []
  | n + 1, x => hexN n (x / 16) ++ [digitChar (x % 16)]

/-- Put "_" every four digits from the right: `k` digits are left. -/
def under : Text → Text
  | [] => []
  | c :: cs => if cs.length % 4 = 0 ∧ cs.length ≠ 0 then c :: '_' :: under cs else c :: under cs

/-- A hexadecimal value of a field of `w` bits (R580). -/
def hexW (w x : Nat) : Text := tx "0x" ++ under (hexN (ceilDiv w 4) x)

/-- Two digits. -/
def dec2 (x : Nat) : Text := [digitChar (x / 10 % 10), digitChar (x % 10)]

/-- A number of at least `n` decimal digits. -/
def decN (n x : Nat) : Text := List.replicate (n - (dec x).length) '0' ++ dec x

/-- The bytes of a text, and the text of bytes. -/
def textBytes (t : Text) : List Nat := t.map Char.toNat

/-- Lower case of an ASCII letter. -/
def lowerC (c : Char) : Char := if 'A' ≤ c ∧ c ≤ 'Z' then Char.ofNat (c.toNat + 32) else c

/-- Upper case of an ASCII letter. -/
def upperC (c : Char) : Char := if 'a' ≤ c ∧ c ≤ 'z' then Char.ofNat (c.toNat - 32) else c

/-- Lower case of a text. -/
def lower (t : Text) : Text := t.map lowerC

/-- Upper case of a text. -/
def upper (t : Text) : Text := t.map upperC

/-- Words are read without regard to case (R578). -/
def sameWord (a b : Text) : Bool := lower a == lower b

/-- Value of a digit in a base up to 16. -/
def digitVal (base : Nat) (c : Char) : Option Nat :=
  let d := if '0' ≤ c ∧ c ≤ '9' then some (c.toNat - 48)
    else if 'a' ≤ lowerC c ∧ lowerC c ≤ 'f' then some ((lowerC c).toNat - 87) else none
  match d with
  | some v => if v < base then some v else none
  | none => none

/-- Read digits of a base; `sep` allows "_" between any two digits, `prev` tells that a digit stands before. -/
def readDigits (base : Nat) (sep : Bool) : Bool → Nat → Text → Option Nat
  | prev, acc, [] => if prev then some acc else none
  | prev, acc, c :: cs =>
    if sep ∧ c = '_' then (if prev then readDigits base sep false acc cs else none)
    else match digitVal base c with
      | some v => readDigits base sep true (acc * base + v) cs
      | none => none

/-- Read a natural in the forms of Table Thotor.2. -/
def readNat : Text → Option Nat
  | '0' :: x :: cs =>
    if x = 'x' ∨ x = 'X' then readDigits 16 true false 0 cs
    else if x = 'b' ∨ x = 'B' then readDigits 2 true false 0 cs
    else readDigits 10 false false 0 ('0' :: x :: cs)
  | t => readDigits 10 false false 0 t

/-- Read an integer: a natural, or a decimal with a leading minus. -/
def readInt : Text → Option Int
  | '-' :: cs => (readDigits 10 false false 0 cs).map (fun n => -(n : Int))
  | t => (readNat t).map (fun n => (n : Int))

/-- Split a text at a character. -/
def splitAt' (p : Char) : Text → List Text
  | [] => [[]]
  | c :: cs =>
    if c = p then [] :: splitAt' p cs
    else match splitAt' p cs with
      | [] => [[c]]
      | w :: ws => (c :: w) :: ws

/-- Words separated by one or more spaces; spaces inside double quotes belong to their word. -/
def wordsGo : Bool → Text → Text → List Text
  | _, cur, [] => if cur.isEmpty then [] else [cur.reverse]
  | q, cur, c :: cs =>
    if c = '"' ∧ !(cur.head? == some '\\') then wordsGo (!q) (c :: cur) cs
    else if c = ' ' ∧ !q then (if cur.isEmpty then wordsGo q [] cs else cur.reverse :: wordsGo q [] cs)
    else wordsGo q (c :: cur) cs

/-- The words of a line (R568). -/
def wordsOf (t : Text) : List Text := wordsGo false [] t

/-- Join texts with a separator. -/
def joinWith (sep : Text) : List Text → Text
  | [] => []
  | [t] => t
  | t :: ts => t ++ sep ++ joinWith sep ts

/-- Split at the first "=". -/
def splitEq (t : Text) : Option (Text × Text) :=
  match t.span (fun c => c != '=') with
  | (_, []) => none
  | (a, _ :: b) => some (a, b)

/-- The number of an object name: a letter and digits, such as L05 or C0003. -/
def readObj (letter : Char) (digits dim : Nat) (t : Text) : Option Nat :=
  match t with
  | [] => none
  | c :: cs =>
    if upperC c = letter ∧ cs.length = digits then
      match readDigits 10 false false 0 cs with
      | some v => if v < dim then some v else none
      | none => none
    else none

end Sys2Proof.Machine
end

