-- ==== Sys2Proof/Machine/Lines.lean ====
section
/-! DEFINITION. What a Thotor session sends: lines in typed and machine form, event lines, and record lines (R571, R576, R591
to R595, R549). -/
namespace Sys2Proof.Machine

/-- One session's internal state. -/
def State.ses (s : State) (n : Nat) : SesSt := kvGet {} s.thotor.sessions n

/-- Change one session's internal state. -/
def State.modSes (s : State) (n : Nat) (f : SesSt → SesSt) : State :=
  { s with thotor := { s.thotor with sessions := kvMod {} s.thotor.sessions n f } }

/-- Master of session n (R562). -/
def sesMaster (n : Nat) : Nat := 18 + n

/-- A session that is open. -/
def State.sesOpen (s : State) (n : Nat) : Bool := s.rd Rg.sesState n == 1

/-- The session is in machine mode. -/
def State.sesMachine (s : State) (n : Nat) : Bool := s.on Rg.sesMode n

def crlf : Text := [Char.ofNat 13, Char.ofNat 10]

def promptText : Text := ['>', ' ']

/-- Put a text into the output buffer of an open session. -/
def State.emit (s : State) (n : Nat) (t : Text) : State :=
  if s.sesOpen n then s.modSes n (fun y => { y with out := y.out ++ t }) else s

/-- A text with its check: CRC-16/CCITT-FALSE over its bytes, in upper-case hexadecimal (R573, R576). -/
def checked (t : Text) : Text := t ++ '*' :: hexN 4 (crc16 (textBytes t))

/-- A line in answer to a machine line (R576). -/
def machineLine (tag t : Text) : Text := checked ('#' :: tag ++ ' ' :: t) ++ crlf

/-- Unsolicited lines that nothing separates (R592, R593). -/
def State.unsolicitedAll (s : State) (n : Nat) (l : List Text) : State :=
  if s.sesMachine n then s.emit n (l.flatMap (fun t => checked t ++ crlf))
  else
    let part := (s.ses n).line.text
    let ts := l.flatMap (fun t => t ++ crlf)
    if part.isEmpty then s.emit n ts else s.emit n (crlf ++ ts ++ promptText ++ part)

/-- An unsolicited line. -/
def State.unsolicited (s : State) (n : Nat) (t : Text) : State := s.unsolicitedAll n [t]

/-! ### Event lines (R591, R595) -/

/-- An event as a line, without the leading "!" (R591, R628). -/
def eventText (x : EvEntry) : Text :=
  'E' :: decN 4 x.src ++ ' ' :: eventName x.src ++ ' ' :: dec x.stamp ++ ' ' :: hexW 32 x.a0 ++ ' ' :: hexW 32 x.a1

/-- One event line to a session; above 6 KiB it is dropped and counted, with E0774 for the first (R595). -/
def State.eventLine (s : State) (n : Nat) (x : EvEntry) : State :=
  if 6144 < (s.ses n).out.length then
    let s1 := (s.bumpSat Rg.sesEvtLost n).modSes n (fun y => { y with lost := y.lost + 1 })
    if (s.ses n).lost = 0 then s1.raiseLim 64 774 n n ((s.tenantOf (sesMaster n)).getD 0) else s1
  else s.unsolicited n ('!' :: eventText x)

/-- The sessions that receive the events of a tenant. -/
def State.eventSessions (s : State) (t : Nat) : List Nat :=
  (List.range 16).filter (fun n => s.sesOpen n && s.on Rg.sesEvents n && s.tenantOf (sesMaster n) == some t)

/-- Send the event lines of the entries that have entered the queues. -/
def State.eventPump (s : State) : State :=
  let l := s.evt.fresh
  if l.isEmpty then s
  else
    let s0 := { s with evt := { s.evt with fresh := [] } }
    s0.each l (fun st e => st.each (st.eventSessions e.1) (fun st' n => st'.eventLine n e.2))

/-! ### Record lines (R549, R592) -/

/-- Cut bytes into pieces of 64. -/
def pieces : Nat → List Byte → List (List Byte)
  | 0, _ => []
  | n + 1, bs => bs.take 64 :: pieces n (bs.drop 64)

/-- The lines of a record for a correspondent. -/
def recordLines (c : Nat) (r : Rec) : List Text :=
  let n := r.size / 64
  (List.range n).zip (pieces n (r.bytes c)) |>.map (fun e =>
    '@' :: 'C' :: decN 4 c ++ ' ' :: dec r.seq ++ ' ' :: dec (e.1 + 1) ++ '/' :: dec n ++ ' ' ::
      (e.2.map (fun b => hexN 2 b.toNat)).flatten)

/-- Send one record as lines, which no other line separates. -/
def State.sendRecord (s : State) (n c : Nat) (r : Rec) : State := s.unsolicitedAll n (recordLines c r)

/-- The route of a correspondent can send: a session that is open and logged in with the right (R549, R662). -/
def State.thotorLive (s : State) (n c : Nat) : Bool :=
  s.sesOpen n && s.mayTake (sesMaster n) c && s.engineWorks

/-- Send what a correspondent's session has not been told; then take new records, at most 16 being unacknowledged. -/
def State.thotorSend (s : State) (n c : Nat) : State :=
  let x := s.corr c
  let told := kvGet 0 (s.ses n).told c
  let from_ := if told = 0 then x.acked else told
  let l := x.sent.filter (fun r => seqAhead from_ r.seq)
  let s1 := s.each l (fun st r => st.sendRecord n c r)
  let s2 := match l.getLast? with
    | some r => s1.modSes n (fun y => { y with told := kvPut y.told c r.seq })
    | none => s1
  if !x.sending.isEmpty || x.evicting || 16 ≤ x.sent.length then s2
  else
    let t := s2.takeRecs c (16 - x.sent.length)
    match t.2 with
    | [] => s2
    | r :: _ =>
      let v := lastOf t.2
      ((t.1.modCorr c (fun z => { z with sending := t.2 })).jreq (.sent v.1 2 n c r.seq t.2.length v.2)).gbSync c

/-- Every Thotor route sends as soon as it can. -/
def State.thotorPump (s : State) : State :=
  s.each ((s.corrs.filter (fun e => e.2.kind == 3)).map (fun e => (e.1, e.2.route))) (fun st (e : Nat × Nat) =>
    if st.thotorLive e.2 e.1 then st.thotorSend e.2 e.1 else st)

end Sys2Proof.Machine
end

