-- ==== Sys2Proof/Machine/Append.lean ====
section
/-! DEFINITION. A journal entry becomes durable, and the work that waits for it proceeds; subscriptions, settings and
evictions (R86, R88, R89, R110, R120, R121, R514 to R517, R523, R524). -/
namespace Sys2Proof.Machine

/-! ### Subscriptions and settings -/

/-- A correspondent holds a record, a gap notice or an open entitlement (R514, R515). -/
def State.holdsAny (s : State) (c : Nat) : Bool :=
  !(s.heldRecs c).isEmpty || !(s.corr c).owed.isEmpty || s.billets.any (fun b => b.corrs.contains c)

/-- A free correspondent: its lane mask is 0 and it holds nothing (R514). -/
def State.corrFree (s : State) (c : Nat) : Bool := (s.corr c).lanes == 0 && !s.holdsAny c

/-- The staged fields differ from the applied ones: PENDING (Table Delivery.5). -/
def State.stagedDiffer (s : State) (c : Nat) : Bool :=
  let x := s.corr c
  s.rd Rg.corrKind c != x.kind || s.rd Rg.corrRoute c != x.route || s.rd Rg.corrTenant c != x.tenant ||
  s.rd Rg.corrLanes c != x.lanes || s.rd Rg.corrSymMask c != x.symMask || s.rd Rg.corrQuota c != x.quota ||
  s.rd Rg.corrNoticeCap c != x.noticeCap

/-- PENDING follows the staged fields. -/
def State.pendingSync (s : State) (c : Nat) : State := s.wr Rg.corrPending (b2n (s.stagedDiffer c)) c

/-- What a correspondent takes of the reservoir, in bytes (R517, R520). -/
def regionBytes (quota noticeCap : Nat) : Nat := quota * 65536 + noticeCap * 4096

/-- The regions of all correspondents that are not free, c taking its staged fields (R517). -/
def State.regionsWith (s : State) (c : Nat) : Nat :=
  let others := ((s.corrs.filter (fun e => e.1 != c && !s.corrFree e.1)).map (fun e =>
    regionBytes e.2.quota e.2.noticeCap)).sum
  if s.rd Rg.corrLanes c = 0 && !s.holdsAny c then others
  else others + regionBytes (s.rd Rg.corrQuota c) (s.rd Rg.corrNoticeCap c)

/-- The KIND and ROUTE of R515 name a route. -/
def routeOk (kind route : Nat) : Bool :=
  kind == 0 || kind == 1 || (kind == 2 && decide (route ≤ 2)) || (kind == 3 && decide (route < 16))

/-- The staged fields may be committed (R515, R517). -/
def State.applyOk (s : State) (c : Nat) : Bool :=
  let x := s.corr c
  let k := s.rd Rg.corrKind c
  let rt := s.rd Rg.corrRoute c
  let q := s.rd Rg.corrQuota c
  let own := s.modCorr c (fun y => { y with tenant := s.rd Rg.corrTenant c })
  ((k == x.kind && rt == x.route) || !s.holdsAny c) && routeOk k rt &&
  decide (1 ≤ q) && decide (q ≤ 3840) && decide (1 ≤ s.rd Rg.corrNoticeCap c) &&
  decide (s.regionsWith c ≤ 255 * 2 ^ 20) &&
  (k != 1 || own.mayTake (fnMaster (s.rd Rg.ringFn rt)) c)

/-- The settings that a SETTINGS entry of correspondent c carries. -/
def settingsOf (c : Nat) : JBody → Option Settings
  | .settings c' k rt q cap rs st jc => if c' = c then some ⟨k, rt, q, cap, rs, st, jc⟩ else none
  | _ => none

/-- The settings of a correspondent as they will stand once the entries on their way are durable (R110). -/
def State.settingsNow (s : State) (c : Nat) : Settings :=
  let x := s.corr c
  (s.jnl.requests.filterMap (settingsOf c)).getLast?.getD
    ⟨x.kind, x.route, x.quota, x.noticeCap, s.rd Rg.corrResume c, s.rd Rg.corrStallTimeout c, s.rd Rg.corrJxCode c⟩

/-- The SETTINGS entry of a correspondent. -/
def State.settingsEntry (s : State) (c : Nat) (x : Settings) : State :=
  s.jreq (.settings c x.kind x.route x.quota x.noticeCap x.resume x.stallTimeout x.jxCode)

/-- APPLY: the staged fields are committed as one SUBSCRIBE entry, with a SETTINGS entry beside it (R110, R516). The decision
from which the former acts is known at its append: it is requested with 0 (R121). -/
def State.applyStaged (s : State) (c : Nat) : State :=
  if !s.applyOk c then s
  else
    let lanes := s.rd Rg.corrLanes c
    let action := if lanes = 0 then 3 else if s.corrFree c then 1 else 2
    let s1 := s.settingsEntry c { s.settingsNow c with kind := s.rd Rg.corrKind c, route := s.rd Rg.corrRoute c,
                                                       quota := s.rd Rg.corrQuota c, noticeCap := s.rd Rg.corrNoticeCap c }
    s1.jreq (.subscribe 0 c (s.rd Rg.corrTenant c) action lanes (s.rd Rg.corrSymMask c))

/-- BAR0 address of a field of the correspondent window. -/
def corrAddr (off : Nat) : Nat := 0x300040 + off

/-- The right of a master on a correspondent. -/
def State.corrRight (s : State) (m c : Nat) (r : Right) : Bool :=
  match s.asTested.tenantOf m with
  | some t => s.asTested.holds t 0x30 (some c) r
  | none => false

def doApply (m : MasterId) (c : CorrId) (s : State) : State :=
  s.guardWrite m.val (corrAddr 0) (s.corrRight m.val c.val .run) (fun st => st.applyStaged c.val)

/-- A write of RESUME, STALL_TIMEOUT or JX_CODE (R110). -/
def State.corrSetting (s : State) (c : Nat) (f : CorrSetting) (v : Nat) : State :=
  let x := s.settingsNow c
  s.settingsEntry c (match f with
    | .resume => { x with resume := v % 16 }
    | .stallTimeout => { x with stallTimeout := v % 65536 }
    | .jxCode => { x with jxCode := v % 2 ^ 32 })

def doCorrSettingsWrite (m : MasterId) (c : CorrId) (f : CorrSetting) (v : Word) (s : State) : State :=
  s.guardWrite m.val (corrAddr (if f = .jxCode then 0x18 else 0x14)) (s.corrRight m.val c.val .set)
    (fun st => st.corrSetting c.val f v.toNat)

/-- The SETTINGS entry is durable: its fields take effect. -/
def State.settingsDurable (s : State) (c k rt q cap rs st jc : Nat) : State :=
  let s1 := s.modCorr c (fun x => { x with kind := k, route := rt, quota := q, noticeCap := cap, jxCode := jc })
  let s2 := ((s1.wr Rg.corrResume rs c).wr Rg.corrStallTimeout st c).wr Rg.corrJxCode jc c
  (s2.pendingSync c).gbSync c

/-- The SUBSCRIBE entry is durable: tenant, lanes and symbology mask take effect (R516, R525, R662). -/
def State.subscribeDurable (s : State) (c t lanes sym : Nat) : State :=
  let s1 := (s.keepOwner c).modCorr c (fun x => { x with tenant := t, lanes := lanes, symMask := sym })
  let s2 := if lanes = 0 then s1.wr Rg.gbState (if s.rd Rg.gbState c = 3 then 3 else 0) c
    else (s1.wr Rg.gbState (if s.on Rg.corrStalled c then 2 else 1) c).wr Rg.corrSuspended 0 c
  (s2.pendingSync c).jxRights

/-- STALL_TIMEOUT: a stall has lasted STALL_TIMEOUT ms (R524). -/
def State.stallTimeout (s : State) (c : Nat) : State :=
  match (s.corr c).stallSince with
  | none => s
  | some t =>
    let ms := s.rd Rg.corrStallTimeout c
    if (s.corr c).stallTold || ms = 0 || !s.on Rg.corrStalled c then s
    else
      let s1 := s.reach (t + msTicks ms)
      (s1.modCorr c (fun x => { x with stallTold := true })).raise 642 c ms

def doStallTimeout (c : CorrId) (s : State) : State := s.stallTimeout c.val

/-! ### Eviction (R86, R120) -/

/-- What an eviction keeps of the decisions owed: the released records, in order; and the number of records given up. -/
def State.evictSplit (s : State) : List Owed → List Owed × Nat
  | [] => ([], 0)
  | o :: os =>
    let r := s.releasableOf o
    if r.2 then
      let t := s.evictSplit os
      (o :: t.1, t.2)
    else
      let rest := (os.map (fun p => if p.reason = 0 then p.recs.length else 1)).sum
      let gone := o.recs.length - r.1.length + rest
      if r.1.isEmpty then ([], gone) else ([{ o with recs := r.1, cut := true }], gone)

/-- An eviction may be journaled: no batch and no send of the correspondent is in flight. -/
def State.evictReady (s : State) (c : Nat) : Bool :=
  !(s.batches.any (fun e => e.2.corr == c)) && (s.corr c).sending.isEmpty

/-- The EVICT entry of a correspondent is on its way. -/
def isEvictOf (c : Nat) : JBody → Bool
  | .evict _ c' _ _ _ => c' == c
  | _ => false

/-- Request the EVICT entry of an eviction that waits, once it may be. -/
def State.evictGo (s : State) (c : Nat) : State :=
  if (s.corr c).evicting && s.evictReady c && !s.jnl.requests.any (isEvictOf c) then
    s.jreq (.evict 0 c (s.corr c).tenant 0 0)
  else s

/-- EVICT: the Proctor evicts a correspondent that is not free. -/
def State.evict (s : State) (c : Nat) : State :=
  if s.corrFree c || (s.corr c).evicting || s.rd Rg.gbState c == 3 then s
  else (s.modCorr c (fun x => { x with evicting := true })).evictGo c

def doEvict (m : MasterId) (c : CorrId) (s : State) : State :=
  if s.isProctor m.val && s.on Rg.bootReady then s.evict c.val else s

/-- The EVICT entry is durable: what is not released is given up, the subscription ends, and the EVICTED record follows. -/
def State.evictDurable (s : State) (c : Nat) : State :=
  let t := s.evictSplit (s.corr c).owed
  let last := s.rd Rg.jnlDoorOrdinal
  let ev : Owed := { ordinal := last, lane := 0xFF, frame := 0, reason := 9, count := t.2, period := s.period, stamp := s.now }
  let s1 := { s with billets := s.billets.map (fun (b : Billet) => { b with corrs := b.corrs.filter (fun x => x != c) }) }
  let s2 := s1.modCorr c (fun x =>
    { x with owed := t.1 ++ [ev], lanes := 0, evicting := false, stallSince := none, stallTold := false })
  let s3 := (((s2.wr Rg.gbState 3 c).wr Rg.corrStalled 0 c).wr Rg.corrSuspended 0 c).gbSync c
  let s4 := (s3.pendingSync c).raise 135 c t.2
  { s4 with thotor := { s4.thotor with evictTold := (c, s.rd Rg.jnlSerial, last, t.2) :: s4.thotor.evictTold } }

/-! ### Appending (R88, R89) -/

/-- The fields of an entry that stand only when it is appended: the decision from which the SUBSCRIBE of an APPLY acts (R121),
what an EVICT gives up (R92), and the route, which does not move while the correspondent holds anything (R515). -/
def State.lateBody (s : State) : JBody → JBody
  | .subscribe o c t a l m => .subscribe (if o = 0 then mask48 (s.rd Rg.jnlDoorOrdinal + 1) else o) c t a l m
  | .settings c k rt q cap rs st jc =>
    let x := s.corr c
    if s.holdsAny c then .settings c x.kind x.route q cap rs st jc else .settings c k rt q cap rs st jc
  | .evict _ c t _ _ =>
    let e := s.evictSplit (s.corr c).owed
    let n := ((e.1.map (fun o => (s.releasableOf o).1.length)).sum)
    .evict (s.rd Rg.jnlDoorOrdinal) c t (seqAfter n (s.nextSeq c)) e.2
  | b => b

/-- What a durable entry lets proceed. -/
def State.durable (s : State) : JBody → State
  | .accept _ o _ _ _ _ _ => s.modBillet o (fun b => { b with durable := true })
  | .job _ o _ _ _ _ _ _ => s.modBillet o (fun b => { b with durable := true })
  | .returned o _ _ _ => s.modBillet o (fun b => { b with waitReturn := false })
  | .intent r e _ _ _ _ _ => s.intentDurable r e
  | .complete _ r _ c _ _ _ => (s.completeDurable r).evictGo c
  | .sent _ _ _ c _ _ _ => ((s.sentDurable c).sentGo c).evictGo c
  | .acked c q => s.ackedDurable c q
  | .arm r e _ => s.armDurable r e
  | .settings c k rt q cap rs st jc => s.settingsDurable c k rt q cap rs st jc
  | .subscribe _ c t _ lanes sym => s.subscribeDurable c t lanes sym
  | .evict _ c _ _ _ => s.evictDurable c
  | _ => s

/-- JOURNAL_APPEND: the oldest request is appended to the staging buffer, at most one entry per 64 ticks, and the work that
waits for it proceeds. -/
def State.append (s : State) : State :=
  let s0 := s.ackFlush
  let s1 := match s0.jnl.requests, s0.ackInstant with
    | [], some t => (s0.reach t).ackFlush
    | _, _ => s0
  match s1.jnl.requests with
  | [] => s1
  | b :: rest =>
    if stagingSize ≤ s1.jnl.staging.length then s1
    else
      let s2 := s1.reach (s1.jnl.lastAppend + 64)
      let b' := s2.lateBody b
      let s3 := { s2 with jnl := { s2.jnl with requests := rest } }
      (s3.stage b').durable b'

def doJournalAppend (s : State) : State := s.append

/-- Append every request that stands now, in order. -/
def State.appendAll (s : State) : Nat → State
  | 0 => s
  | n + 1 => if s.jnl.requests.isEmpty then s else (s.append).appendAll n

end Sys2Proof.Machine
end

