-- ==== Sys2Proof/Machine/Fence.lean ====
section
/-! DEFINITION. Units, their epochs, and the recovery of accepted work: a fenced Anvil and the return of its Billets (R65,
R118, R306, R726 to R729, R735, R736). -/
namespace Sys2Proof.Machine

/-! ### Units and epochs -/

/-- The units of a domain (Table Events.3). -/
def unitsOf (d : Nat) : List Nat :=
  if d = 0 then [8, 9, 10, 11, 12, 13, 14, 15, 16, 17, 18]
  else if d = 1 then [0, 1, 2, 3] else if d = 2 then [4, 5, 6, 7] else if d = 3 then [19, 20, 21]
  else if d = 4 then [22] else if d = 5 then [23] else []

/-- The domain of a unit; none for the Registrar. -/
def domainOfUnit (u : Nat) : Option Nat := (List.range 6).find? (fun d => (unitsOf d).contains u)

/-- Set a unit's epoch: an Anvil shows it in a register of its own too. -/
def State.setEpoch (s : State) (u e : Nat) : State :=
  let s1 := s.wr Rg.unitEpoch e u
  if u < 8 then s1.wr Rg.anvEpoch e u else s1

/-- A unit's epoch increments, and its FENCE entry is requested (R726). -/
def State.bumpEpoch (s : State) (u : Nat) : State :=
  let e := (s.rd Rg.unitEpoch u + 1) % 2 ^ 32
  (s.setEpoch u e).jreq (.fence u e)

/-- Set a unit's state: 0 in service, 1 fenced, 2 domain down. -/
def State.setUnit (s : State) (u v : Nat) : State :=
  let s1 := s.wr Rg.unitState v u
  if u < 8 then s1.wr Rg.anvState v u else s1

/-! ### The work of a fenced Anvil -/

/-- What a Billet keeps when its Finder state is lost: the Finder runs again from stripe 0 (R306). -/
def Billet.finderLost (b : Billet) (anvil : Nat) : Billet :=
  { b with anvil := anvil, waitReturn := true, finderNext := 0, finderBusy := none, closed := 0, extra := 0,
           openCands := 0, extras := [], refound := some 0, seen := max b.seen b.closed }

/-- The Finder jobs of a Billet move to the unit of another Anvil, within their bounds (R65). -/
def State.moveJobs (s : State) (o a : Nat) : State :=
  let mine : TJob → Bool := fun j => j.ty == .finder && j.ordinal == o && j.stage != .done && j.prio == 0
  let s1 := { s with jobs := s.jobs.filter (fun j => !mine j) }
  (s1.each (s.jobs.filter mine) (fun st j => st.placeAgain { j with unit := a + 1, stage := .waiting })).keepOrder

/-- A Billet that left Anvil `left` is returned: another Anvil takes it, with a RETURN entry, or it waits for one (R118,
R742). A Billet that waits is marked by 16 plus the Anvil it left. The other Anvil is the one that R43 would choose now, for the
rows up to the deadline: DESIGN CHOICE, log entry 113. -/
def State.returnBillet (s : State) (o left : Nat) : State :=
  match s.billet? o with
  | none => s
  | some b =>
    match s.chooseAnvil s.period (max b.deadline s.period) with
    | some a =>
      let s1 := (s.modBillet o (fun x => x.finderLost a)).moveJobs o a
      s1.jreq (.returned o left a (s1.rd Rg.unitEpoch left))
    | none => s.modBillet o (fun x => x.finderLost (16 + left))

/-- The candidates that cores of an Anvil were decoding go back to the front of the queue, and its jobs are gone. -/
def State.anvilEmpty (s : State) (a : Nat) : State :=
  let s1 := s.each (s.anvil a).cores (fun st e =>
    st.modCand e.2.1 e.2.2 (fun c => { c with stage := .queued, front := true }))
  ((s1.modAnvil a (fun x => { x with job := none, cores := [] })).coresSync a).wr Rg.anvOpen 0 a

/-- The work of fenced Anvils is returned, in ascending Door ordinal across all of them (R736). -/
def State.anvilsLost (s : State) (l : List Nat) : State :=
  let s1 := s.each l State.anvilEmpty
  s1.each (s1.billets.filter (fun b => b.lane != 0xFF && l.contains b.anvil)) (fun st b => st.returnBillet b.ordinal b.anvil)

/-- An Anvil returns to service: E0520 + a, and the Billets that wait are returned to it (R729, R742). -/
def State.anvilService (s : State) (a : Nat) : State :=
  let s1 := (s.setUnit a 0).raise (520 + a) a 0
  s1.each (s1.billets.filter (fun b => b.lane != 0xFF && decide (16 ≤ b.anvil))) (fun st b =>
    st.returnBillet b.ordinal (b.anvil - 16))

/-! ### A fault of an Anvil (R729) -/

/-- Ticks of the last 10 s. -/
def State.recent (s : State) (l : List Nat) : List Nat := l.filter (fun t => decide (s.now < t + msTicks 10000))

/-- ANVIL_FAULT: on the tick of the fault the epoch changes and the Anvil is fenced; its work is returned. A third fault
within 10 s leaves it fenced. A fault of an Anvil that is fenced merges with the fence (R740). -/
def State.anvilFault (s : State) (a cause : Nat) : State :=
  if !s.anvilUsable a && !(s.rd Rg.anvState a == 0 && s.domainServes (anvilDomain a)) then s
  else
    let times := s.now :: s.recent (s.anvil a).faultTimes
    let out := decide (3 ≤ times.length)
    let s1 := ((s.setUnit a 1).bumpSat Rg.unitFaults a).bumpEpoch a
    let s2 := s1.modAnvil a (fun x => { x with faultTimes := times, testing := !out, condemned := out })
    (s2.raise (512 + a) a cause).anvilsLost [a]

def doAnvilFault (a : Fin 8) (cause : Fin 3) (s : State) : State := s.anvilFault a.val (cause.val + 1)

/-- ANVIL_TEST_DONE: the reset and the SRAM test end: the Anvil returns to service, or stays fenced. -/
def State.anvilTested (s : State) (a : Nat) (pass : Bool) : State :=
  if !(s.anvil a).testing || !s.domainServes (anvilDomain a) then s
  else
    let s1 := s.modAnvil a (fun x => { x with testing := false, condemned := !pass })
    if pass then s1.anvilService a else s1

def doAnvilTestDone (a : Fin 8) (pass : Bool) (s : State) : State := s.anvilTested a.val pass

end Sys2Proof.Machine
end

