-- ==== Sys2Proof/Machine/PowerFail.lean ====
section
/-! DEFINITION. The sequence after PWR_FAIL or a thermal trip: the units stop, the journal drains, and the SEAL entry ends it
(R114 to R117, R699, R779, R783). -/
namespace Sys2Proof.Machine

/-- The engine runs, or its start has come to replay or to the Registrar (R779). -/
def State.sealable (s : State) : Bool :=
  s.powerFail == .off && (s.on Rg.bootReady || s.rd Rg.bootPhase == 7 || s.rd Rg.bootPhase == 8)

/-- The first row of Table Accepted.6: capture, the Door and the units stop. -/
def State.stopUnits (s : State) : State :=
  { s with powerFail := .draining, jnl := { s.jnl with failAt := s.now } }

/-- PWR_FAIL: the armed comparator trips. -/
def State.pwrFail (s : State) : State :=
  if s.sealable && s.on Rg.jnlPfEn && s.on Rg.jnlPfArmed then s.stopUnits else s

def doPwrFail (s : State) : State := s.pwrFail

/-- PWR_FAIL_ARM: VIN has stayed 0.2 V above the threshold for 10 ms. -/
def doPwrFailArm (s : State) : State :=
  if s.on Rg.jnlPfEn && s.powerFail == .off then s.wr Rg.jnlPfArmed 1 else s

/-- No entry waits, and no batch is in flight on a live link. -/
def State.drained (s : State) : Bool :=
  s.jnl.requests.isEmpty && s.jnl.staging.isEmpty && s.batches.all (fun e => e.2.open_ || !s.on Rg.pcieLink)

/-- The outputs of a sealed engine: the LED sinks are off, DOUT keeps its levels, and WAKE# is not asserted (Table
Startup.3). -/
def State.sealPins (s : State) : State :=
  { s with blw := { s.blw with leds := s.blw.leds.map (fun (e : Nat × LedSt) =>
                      (e.1, { e.2 with active := none, flash := none, pend := [] })) },
           power := { s.power with wakePin := false } }

/-- SEAL_WRITTEN: the SEAL entry is written to the log, and the engine stays stopped. -/
def State.sealWritten (s : State) : State :=
  if s.powerFail != .draining || !s.drained then s
  else
    let us := min 65535 ((s.now - s.jnl.failAt) / 250)
    let s0 := s.appendTurn
    let s1 := (s0.stage (.seal 1 0 s0.now us)).writeback
    { ((s1.wr Rg.jnlPfFlushUs us).wr Rg.bootReady 0).sealPins with powerFail := .sealed }

def doSealWritten (s : State) : State := s.sealWritten

end Sys2Proof.Machine
end

