-- ==== Sys2Proof/Machine/Sessions.lean ====
section
/-! DEFINITION. Thotor sessions as connections: opening, login, logout, closing, idle time, flow control and the serial wake
patterns (R562 to R566, R583 to R586, R593 to R596, R599, R600, R604, R635). -/
namespace Sys2Proof.Machine

/-- Sessions 0 and 1 run on the UARTs (R562). -/
def isUart (n : Nat) : Bool := n < 2

/-! ### Login and logout -/

/-- A session is logged in to a tenant, and its master is bound to it by login (R584). Sending to correspondents resumes at
ACKED + 1 (R549). -/
def State.loginTo (s : State) (n t : Nat) : State :=
  let s1 := ((s.wr Rg.sesLogged 1 n).wr Rg.sesTenant t n).wr Rg.sesFails 0 n
  ((s1.modSes n (fun y => { y with told := [] })).bindTo (sesMaster n) t 2).raise 770 n t

/-- CONSOLE_AUTO logs session.00 in to T00 (R585). -/
def State.consoleLogin (s : State) : State :=
  if s.on Rg.thConsoleAuto && !s.on Rg.sesLogged 0 then s.loginTo 0 0 else s

/-- Forget the waiting verb of a session that closes or logs out: a transaction stays queued, and its result is discarded
when it comes; an eviction completes (R635). -/
def State.cciForget (s : State) (n : Nat) : State :=
  let f : CciTx → CciTx := fun t => if t.session = some n then { t with session := some 255 } else t
  let s1 := { s with cci := s.cci.map (fun (e : Nat × CciSt) =>
                       (e.1, { e.2 with queue := e.2.queue.map f, active := e.2.active.map f })) }
  let s2 := { s1 with cciTold := s1.cciTold.filter (fun e => e.1 != n) }
  s2.modSes n (fun y => match y.wait with
    | some (.store _ _ _ _, _) => y
    | _ => { y with wait := none })

/-- A BAUD that waited for an answer of session n takes effect (R606). -/
def State.baudApply (s : State) (n : Nat) : State :=
  s.each [0, 1] (fun st k => st.modSes k (fun y => match y.baudNext with
    | some (m, v) => if m = n then { y with baud := v, baudNext := none } else y
    | none => y))

/-- What runs on of a store write of a session that closes. -/
def State.storeLoosen (s : State) (n : Nat) : State :=
  match (s.ses n).wait with
  | some (.store name off bs _, _) => { s with thotor := { s.thotor with storeLoose := s.thotor.storeLoose ++ [(n, name, off, bs)] } }
  | _ => s

/-- A session's master is unbound, with E0771 (R586). -/
def State.logoutPlain (s0 : State) (n : Nat) : State :=
  if !s0.on Rg.sesLogged n then s0
  else
    let s := s0.cciForget n
    let t := s.rd Rg.sesTenant n
    let s1 := ((s.wr Rg.sesLogged 0 n).wr Rg.sesTenant 0 n).modSes n (fun y => { y with told := [] })
    (s1.unbind (sesMaster n)).raise 771 n t

/-- Logout: session.00 is logged in again while CONSOLE_AUTO is 1 (R585, R586). -/
def State.logout (s : State) (n : Nat) : State :=
  if !s.on Rg.sesLogged n then s
  else if n = 0 then (s.logoutPlain 0).consoleLogin else s.logoutPlain n

/-- LOCK_S in ticks; 0 is taken as 1 (Table Thotor.5). -/
def State.lockTicks (s : State) : Nat := msTicks (1000 * max 1 (s.rd Rg.thLockS))

/-- A failed login: it counts, and a third one in a row locks login with E0772 (R584). -/
def State.loginFailed (s : State) (n t : Nat) : State :=
  let s1 := s.bumpSat Rg.sesFails n
  if s.rd Rg.sesFails n < 2 then s1
  else (s1.modSes n (fun y => { y with lockUntil := some (s.now + s.lockTicks) })).raise 772 n t

/-- Login is locked on a session. -/
def State.loginLocked (s : State) (n : Nat) : Bool :=
  match (s.ses n).lockUntil with
  | some t => decide (s.now < t)
  | none => false

/-- The code and the session satisfy R584. -/
def State.loginFits (s : State) (n t code : Nat) : Bool :=
  s.rd Rg.thCode t != 0 && s.rd Rg.thCode t == code && (s.rd Rg.thAllow t).testBit n

/-- LOGIN_LOCK_EXPIRY: LOCK_S seconds after the lockout, login is allowed again. -/
def State.loginUnlock (s : State) (n : Nat) : State :=
  match (s.ses n).lockUntil with
  | none => s
  | some t => (s.reach t).modSes n (fun y => { y with lockUntil := none })

def doLoginLockExpiry (n : SessionId) (s : State) : State := s.loginUnlock n.val

/-! ### Closing -/

/-- A TCP session is logged out and freed (R564). Its output up to now, and a login lock, remain on record. -/
def State.tcpFree (s : State) (n : Nat) : State :=
  if isUart n || !s.sesOpen n then s
  else
    let t := (s.tenantOf (sesMaster n)).getD 0
    let s1 := (((s.logoutPlain n).cciForget n).storeLoosen n).baudApply n
    let s2 := (((s1.wr Rg.sesState 0 n).wr Rg.sesMode 0 n).wr Rg.sesEcho 0 n).wr Rg.sesPeerIp 0 n
    let s3 := (s2.wr Rg.sesPeerPortEth 0 n).wr Rg.sesPeerTcp 0 n
    let s4 := s3.modSes n (fun y => { gone := y.gone, lockUntil := y.lockUntil })
    s4.raise 769 n t

/-- Every TCP session closes (R599, R631). -/
def State.tcpFreeAll (s : State) : State := s.each (List.range 16) State.tcpFree

/-- A session is logged out, and a TCP session is closed. -/
def State.sesClose (s : State) (n : Nat) : State := if isUart n then s.logout n else s.tcpFree n

/-- The lowest free TCP session (R564). -/
def State.freeSession (s : State) : Option Nat := (List.range 16).find? (fun n => !isUart n && !s.sesOpen n)

/-- TCP_CONNECT: a connection to port 5440 on an Ethernet port. -/
def State.tcpConnect (s : State) (p ip port : Nat) : State :=
  if !(s.rd Rg.thTcpEn).testBit p || !s.domainUp 3 || !s.ethLive p || !s.on Rg.bootReady then s
  else match s.freeSession with
    | none =>
      { s with thotor := { s.thotor with
                 turnedAway := (p, ip, port, tx "err 405 NO_SESSION" ++ crlf) :: s.thotor.turnedAway } }
    | some n =>
      let s1 := ((s.wr Rg.sesState 1 n).wr Rg.sesMode 0 n).wr Rg.sesEcho 0 n
      let s2 := ((s1.wr Rg.sesPeerIp ip n).wr Rg.sesPeerPortEth p n).wr Rg.sesPeerTcp port n
      (s2.modSes n (fun y => { gone := y.gone, lockUntil := y.lockUntil, lastLine := s.now })).raise 768 n 0

def doTcpConnect (p : Fin 2) (ip : Word) (port : Fin 65536) (s : State) : State := s.tcpConnect p.val ip.toNat port.val

/-- TCP_CLOSE: the peer closes its connection. -/
def doTcpClose (n : SessionId) (s : State) : State := s.tcpFree n.val

/-- SESSION_CLOSE: a write of CLOSE (Table Thotor.4). -/
def doSessionClose (m : MasterId) (n : SessionId) (s : State) : State :=
  s.withRight m.val (0x380000 + 0x40 * n.val) .run (fun st => st.sesClose n.val)

/-- SESSION_IDLE_TIMEOUT: IDLE_S seconds without a line (R566). -/
def State.idleOut (s : State) (n : Nat) : State :=
  let sec := s.rd Rg.sesIdleS n
  if sec = 0 || !s.sesOpen n then s
  else
    let s1 := s.reach ((s.ses n).lastLine + msTicks (1000 * sec))
    (s1.modSes n (fun y => { y with lastLine := s1.now })).sesClose n

def doSessionIdleTimeout (n : SessionId) (s : State) : State := s.idleOut n.val

/-! ### Flow control (R594) -/

/-- FLOW of a UART session; 3 is taken as 0, and a TCP session has none. -/
def State.flowOf (s : State) (n : Nat) : Nat :=
  if !isUart n then 0 else if s.rd Rg.sesFlow n = 1 then 1 else if s.rd Rg.sesFlow n = 2 then 2 else 0

/-- The peer has stopped the engine's transmission: by CTS under FLOW 1, by XOFF under FLOW 2. -/
def State.flowHeld (s : State) (n : Nat) : Bool :=
  (s.flowOf n == 1 && (s.ses n).ctsOff) || (s.flowOf n == 2 && (s.ses n).stopped)

/-- The peer sends XOFF or XON. -/
def State.flowStop (s : State) (n : Nat) (stop : Bool) : State := s.modSes n (fun y => { y with stopped := stop })

/-- XON_XOFF: taken as flow control when FLOW is 2, and dropped otherwise (R570). -/
def doXonXoff (n : SessionId) (xon : Bool) (s : State) : State :=
  if s.flowOf n.val = 2 then s.flowStop n.val (!xon) else s

/-- CTS_CHANGE: the level of UART_n_CTS, which stops transmission while FLOW is 1. -/
def doCtsChange (n : Fin 2) (asserted : Bool) (s : State) : State := s.modSes n.val (fun y => { y with ctsOff := !asserted })

/-- Characters that the input buffer of a session holds: its waiting lines and the line being received. -/
def SesSt.held (y : SesSt) : Nat := (y.lines.map (fun l => l.text.length + 1)).sum + y.line.text.length

/-- The engine stops the peer at 768 bytes and lets it go on at 256. -/
def State.flowCheck (s : State) (n : Nat) : State :=
  let y := s.ses n
  let xf : Nat → Text := fun c => if s.flowOf n = 2 then [Char.ofNat c] else []
  if s.flowOf n = 0 then s
  else if !y.holding && decide (768 ≤ y.held) then (s.emit n (xf 0x13)).modSes n (fun z => { z with holding := true })
  else if y.holding && decide (y.held ≤ 256) then (s.emit n (xf 0x11)).modSes n (fun z => { z with holding := false })
  else s

/-! ### The serial wake patterns (R596) -/

/-- The partial input line is discarded. -/
def State.dropPartial (s : State) (n : Nat) : State :=
  (s.modSes n (fun y => { y with line := { text := [] }, esc := 0, lastCr := false })).flowCheck n

/-- BREAK: RX held low for 20 bit times. -/
def State.serialBreak (s : State) (n : Nat) : State :=
  ((s.dropPartial n).raise 775 n ((s.tenantOf (sesMaster n)).getD 0)).wakeEvent (10 + 2 * n)

/-- BREAK; the inputs of bank H read 0 while its supply is out of range, and the UARTs receive nothing (R792, R818). -/
def doBreak (n : Fin 2) (s : State) : State := if s.on Rg.supplyVioHOk then s.serialBreak n.val else s

/-- What an awake session answers to "%%%" with CR. -/
def State.patternAnswer (s : State) (n : Nat) : State :=
  if !s.on Rg.bootReady then s
  else if s.sesMachine n then s.emit n (machineLine ['?'] (tx "ok"))
  else s.emit n ((if s.on Rg.sesEcho n then crlf else []) ++ promptText)

/-- WAKE_PATTERN: "%%%" at the start of a line with CR; a machine line in progress is discarded (R604). -/
def State.wakePattern (s : State) (n : Nat) : State :=
  let s1 := (s.dropPartial n).modSes n (fun y => { y with lastCr := true })
  ((s1.raise 775 n ((s.tenantOf (sesMaster n)).getD 0)).wakeEvent (11 + 2 * n)).patternAnswer n

def doWakePattern (n : Fin 2) (s : State) : State := if s.on Rg.supplyVioHOk then s.wakePattern n.val else s

end Sys2Proof.Machine
end

