-- ==== Sys2Proof/Machine/Power.lean ====
section
/-! DEFINITION. Power: votes, the states of a domain, what a drop loses and what it saves, the rise, pads, wake and Temper
requests (R671 to R691, R693, R700 to R709). -/
namespace Sys2Proof.Machine

/-! ### What a domain keeps (Table Power.7) -/

/-- Whether a key is one of a field. -/
def Fld.hasKey (f : Fld) (k : Nat) : Bool :=
  (List.range f.n1).any (fun i => (List.range f.n2).any (fun j => f.key i j == k))

/-- The BAR0 address of a storage key; a register banked by master keeps its own, and other banks live in Hearth. -/
def homeAddr (k : Nat) : Nat :=
  let a := k / 8
  if a < 2 ^ 32 then a else if 2 ^ 33 ≤ a ∧ a < 2 ^ 34 then a % 2 ^ 24 else 0

/-- The key belongs to a register of domain d. -/
def inDomain (d k : Nat) : Bool :=
  let a := homeAddr k
  match targetOf a with
  | none => false
  | some g => (tableOf a).isNone && !anvilHearth g a && domainOf g == some d

/-- Fields of the save list of a domain beside the RW fields: what Table Power.7 names, and what comes from the journal. -/
def savedExtra (d : Nat) : List Fld :=
  if d = 0 then [Rg.pipeRefHalf, Rg.pipeRefValid]
  else if d = 3 then [Rg.ringArmed, Rg.ringCons, Rg.ringProd, Rg.ringEpoch, Rg.ringBatchOpen, Rg.jxBoot]
  else if d = 4 then
    [Rg.saSlots, Rg.saMod, Rg.saOpenF, Rg.saShort, Rg.saLeak, Rg.excLeak, Rg.excLimit, Rg.xpBiasLimit, Rg.grdLimit,
     Rg.sdValue, Rg.sdStale, Rg.sdTag, Rg.sdFlags, Rg.sdSeq, Rg.sdStamp, Rg.modCal, Rg.modGroup, Rg.modtGain, Rg.modtOfs,
     Rg.modcState, Rg.calParked, Rg.calGroup, Rg.sdFirLen0, Rg.sdFirLen1, Rg.sdFirActive, Rg.sdLinBank]
  else if d = 5 then
    [Rg.ledShort, Rg.ledOpenF, Rg.ledLowCurrent, Rg.ledRetries, Rg.ledTrimLimit, Rg.ledPulses, Rg.ledTrimFlashes,
     Rg.doutOverload, Rg.doutTied, Rg.doutBackfeed, Rg.doutRetries]
  else []

/-- The RW fields of the save list of PIPE: PORT_CTRL, PORT_TIMING and CCI_CTRL. -/
def pipeSaved : List Fld :=
  [Rg.csiRate, Rg.csiLinkTimeout, Rg.csiWakeEn, Rg.csiContClk, Rg.csiDlanes, Rg.parPclkMhz, Rg.parLinkTimeout,
   Rg.parFieldMode, Rg.parTrailGap, Rg.parTrailEn, Rg.parPclkEdge, Rg.parDeEn, Rg.parDePol, Rg.parVsPol, Rg.parHsPol,
   Rg.parSync, Rg.parWidth, Rg.parVStart, Rg.parHStart, Rg.portEn, Rg.cciStretchMs, Rg.cciSpeed, Rg.cciEn]

/-- The save list of a domain. -/
def saveList (d : Nat) : List Fld :=
  if d = 0 then pipeSaved ++ savedExtra 0
  else if d = 1 ∨ d = 2 then []
  else savedExtra d ++ catalogue.filter (fun f => f.acc == .rw && !f.has .selector && inDomain d (f.key 0 0) && f != Rg.encPos)

/-- Where a domain's region lies in the save RAM, and its size (Table Power.6). -/
def regionPlace (d : Nat) : Option (Nat × Nat) :=
  if d = 0 then some (0x400, 0xC00) else if d = 3 then some (0x1000, 0x4000) else if d = 4 then some (0x5000, 0xA000)
  else if d = 5 then some (0xF000, 0x800) else none

/-- A domain has a region in the save RAM. -/
def hasRegion (d : Nat) : Bool := (regionPlace d).isSome

/-- Size of a domain's region. -/
def regionSize (d : Nat) : Nat := ((regionPlace d).map Prod.snd).getD 0

/-- The fields of a save list, as they stand. -/
def State.savedFields (s : State) (keep : List Fld) : List (Nat × Nat) :=
  s.regs.filter (fun e => keep.any (fun f => f.hasKey e.1))

/-- A domain's region of the save RAM. -/
def State.region (s : State) (d : Nat) : SaveRegion := kvGet {} s.power.regions d

/-- The bytes of a region: their order is not stated (log entry 14). -/
def SaveRegion.bytes (r : SaveRegion) (d : Nat) : List Byte :=
  (List.range (regionSize d)).map (Config.saveRegionByte d r.content)

/-- A domain's entry in the header: valid flag, length, stamp and CRC-32 over the region (R683). -/
def State.saveEntry (s : State) (d : Nat) : List Nat :=
  [s.rd Rg.rollSaveValid d, (s.region d).len, (s.region d).stamp, crc32 ((s.region d).bytes d)]

/-- A byte of the save RAM (Table Power.6). -/
def State.saveByte (s : State) (p : Nat) : Byte :=
  match ([0, 3, 4, 5].filterMap (fun d => (regionPlace d).map (fun z => (d, z)))).find? (fun e =>
      decide (e.2.1 ≤ p) && decide (p < e.2.1 + e.2.2)) with
  | some e => Config.saveRegionByte e.1 (s.region e.1).content (p - e.2.1)
  | none => if p < 0x400 then Config.saveHeaderByte (([0, 3, 4, 5].map s.saveEntry).flatten) p else Config.saveRegionByte 6 [] p

/-- A word of the window on page SAVE_PAGE (Table Power.13). -/
def State.saveWord (s : State) (off : Nat) : Nat :=
  let p := 0x4000 * s.rd Rg.wakeSavePage + off
  (List.range 4).foldl (fun a i => a + (s.saveByte (p + i)).toNat * 256 ^ i) 0

/-- The registers of a domain fall to their reset values, apart from those of a list. -/
def State.domainRegs (s : State) (d : Nat) (keep : List Fld) : State :=
  { s with regs := s.regs.filter (fun e => !inDomain d e.1 || keep.any (fun f => f.hasKey e.1)) }

/-- What comes from the journal whatever becomes of the save region (Table Power.7). -/
def journalKept (d : Nat) : List Fld :=
  if d = 3 then [Rg.ringCons, Rg.ringProd, Rg.ringEpoch, Rg.ringBatchOpen, Rg.jxBoot] else []

/-- Profile memory and coefficient tables hold their default contents (R223, R261). -/
def State.pipeDefaults (s : State) : State := { s with profiles := [], badBanks := [], coefs := [] }

/-- Pad banks of a domain (Table Power.1). -/
def banksOf (d : Nat) : Nat :=
  if d = 0 then 1 else if d = 3 then 2 else if d = 4 then 4 else if d = 5 then 24 else 0

/-- The transactions of a camera control master end FLUSHED: the one on the bus too (Table Events.4). -/
def State.cciEndAll (s : State) (c : Nat) : State :=
  let s1 := match (s.cciOf c).active with
    | some t => (s.modCci c (fun x => { x with active := none })).cciEnd c t 5 0
    | none => s
  s1.cciFlush c

/-- The stripe that the Pipe runs is given up, and is issued again later (Table Events.4). -/
def State.pipeRetry (s : State) : State :=
  match s.pipe.running with
  | none => s
  | some (o, j) =>
    let s1 := (s.modBillet o (fun b => { b with pipe := { b.pipe with busy := false } })).jobStage .pipe o j .ready
    { (s1.wr Rg.pipeIdle 1) with pipe := { s1.pipe with running := none } }

/-- What a domain's logic loses (R387, R429, R472, R505, Table Power.7). -/
def State.logicLost (s : State) (d : Nat) : State :=
  if d = 0 then
    let s1 := (s.each (List.range 4) State.cciEndAll).pipeRetry
    { s1.statsLost with ports := [], cci := [], pipe := {} }
  else if d = 1 ∨ d = 2 then
    s.each ((List.range 8).filter (fun a => anvilDomain a == d)) (fun st a =>
      (st.anvilEmpty a).modAnvil a (fun x => { x with testing := false }))
  else if d = 3 then
    let s0 := s.each (List.range 2) (fun st p => if st.on Rg.ethPtpLock p then st.ptpUnlock p else st)
    let s1 := s0.ringsDropping
    { s1 with eths := [], evt := { s1.evt with msixPending := [] } }
  else if d = 4 then s.sfeDown
  else if d = 5 then
    { s with blw := { leds := s.blw.leds.map (fun (e : Nat × LedSt) => (e.1, { off := e.2.off, lastRef := none })),
                      douts := s.blw.douts.map (fun (e : Nat × DoutSt) => (e.1, { on := e.2.on, off := e.2.off })) } }
  else s

/-! ### The states of a domain (Table Power.3) -/

/-- A domain enters SAVING: its save list is kept, everything else is lost, and its pad banks are held (R683, R685). How
many bytes of its region the list takes is not stated: a free value within the region. -/
def State.saving (s : State) (d : Nat) (warm : Bool := false) : State :=
  let s0 := if d = 0 ∧ !warm then { s with power := { s.power with pipeFresh := true } } else s
  let s1 := (s0.logicLost d).domainRegs d (saveList d)
  let s2 := (s1.wr Rg.rollState 2 d).wr Rg.pwPadHeld (s1.rd Rg.pwPadHeld ||| banksOf d)
  if hasRegion d then
    let t := s2.free 16
    let n := t.2 % (regionSize d + 1)
    let s3 := (t.1.wr Rg.rollSaveValid 1 d).wr Rg.rollSaveLen n d
    let r : SaveRegion := { stamp := s.now, len := n, content := s1.savedFields (saveList d) }
    { s3 with power := { s3.power with regions := kvPut s3.power.regions d r } }
  else s2

/-- The domain begins to drop (Table Power.4). -/
def State.dropping (s : State) (d : Nat) : State :=
  let s0 := s.wr Rg.rollState 1 d
  let s1 := { s0 with power := { s0.power with dropAt := kvSet none s0.power.dropAt d (some s0.now) } }
  if d = 0 then
    s1.each (List.range 4) (fun st c =>
      let x := st.cciOf c
      let keep : CciTx → Bool := fun t => t.trig == 0
      let (stay, go) := match x.queue with
        | t :: q => if x.triggered then (t :: q.filter keep, q.filter (fun y => !keep y))
                    else ((t :: q).filter keep, (t :: q).filter (fun y => !keep y))
        | [] => ([], [])
      let st1 := st.modCci c (fun y => { y with queue := stay, triggered := !stay.isEmpty })
      st1.each go (fun st2 t => st2.cciEnd c t 5 0))
  else if d = 3 then s1.jxHostDown.tcpFreeAll
  else if d = 4 then s1.sfeDropping
  else if d = 5 then s1.bellowsDropping
  else s1

/-- The domain is called for again while it drops: it keeps everything it holds (R700). -/
def State.undrop (s : State) (d : Nat) : State :=
  let s1 := s.wr Rg.rollState 0 d
  if d = 5 then s1.strobeRetest else s1

/-- The domain begins to rise; WAKE# is asserted when HOST rises from DOWN after a wake of another source than code 9 (R690). -/
def State.rising (s : State) (d : Nat) : State :=
  let s1 := s.wr Rg.rollState 4 d
  if d = 3 && s.rd Rg.rollState 3 == 3 && (s.rd Rg.rollInternal 3).testBit 1 && s.rd Rg.wakeLast != 9 then
    { s1 with power := { s1.power with wakePin := true, hostRelease := none } }
  else s1

/-- Internal votes on SFE: QUENCH, LATENCY, TRIM and FLICKER (Table Power.2). -/
def State.sfeVotes (s : State) : Nat :=
  let any : (Nat → Bool) → Nat → Bool := fun p n => (List.range n).any p
  4 * b2n (any (fun n => s.on Rg.ledEn n && s.on Rg.ledQen n) 8) + 8 * b2n (any (fun u => s.on Rg.latEn u) 4) +
  16 * b2n (any (fun n => s.on Rg.ledEn n && s.on Rg.ledTrimEn n) 8) + 32 * b2n (s.on Rg.flkEn)

/-- The internal votes follow their causes. -/
def State.votesSync (s : State) : State :=
  s.follow Rg.rollInternal ((s.rd Rg.rollInternal 4) % 4 + s.rd Rg.rollInternal 4 / 64 * 64 + s.sfeVotes) 4

/-- A domain is called for while any of its votes is held (R673). -/
def State.called (s : State) (d : Nat) : Bool := s.rd Rg.rollVotes d != 0 || s.rd Rg.rollInternal d != 0

/-- The domains may rise: the start has come to phase 3 (Table Startup.2). -/
def State.mayRise (s : State) : Bool := s.boot.domainsRise

/-- One domain follows its votes. -/
def State.rollStep (s : State) (d : Nat) : State :=
  let v := s.rd Rg.rollState d
  if v = 0 ∧ !s.called d then s.dropping d
  else if v = 1 ∧ s.called d then s.undrop d
  else if v = 3 ∧ s.called d ∧ s.mayRise then s.rising d
  else s

/-- Open Billets that hold a drop (Table Power.12). -/
def State.holding (s : State) (d : Nat) : Nat :=
  if d = 0 then (s.billets.filter (fun b => b.lane != 0xFF)).length
  else if d = 1 ∨ d = 2 then
    (s.billets.filter (fun b => b.lane != 0xFF && decide (b.anvil < 8) && anvilDomain b.anvil == d)).length
  else 0

/-- Roll call: every domain follows its votes, in ascending index (R673, R680). -/
def State.rollPump (s : State) : State :=
  let s1 := s.votesSync.each (List.range 6) State.rollStep
  s1.each (List.range 6) (fun st d => st.follow Rg.rollHolding (if st.rd Rg.rollState d = 1 then st.holding d else 0) d)

/-! ### Votes (R673, R674, R708) -/

/-- A tenant sets its vote on the domains of a mask. -/
def State.voteUp (s : State) (t mask : Nat) : State :=
  (s.each (maskBits 6 mask) (fun st d => st.wr Rg.rollVotes (st.rd Rg.rollVotes d ||| 2 ^ t) d))

/-- A tenant withdraws its vote on the domains of a mask. -/
def State.voteDown (s : State) (t mask : Nat) : State :=
  (s.each (maskBits 6 mask) (fun st d =>
    st.wr Rg.rollVotes (if (st.rd Rg.rollVotes d).testBit t then st.rd Rg.rollVotes d - 2 ^ t else st.rd Rg.rollVotes d) d))

/-- A tenant's vote set. -/
def State.voteSet (s : State) (t : Nat) : Nat :=
  (List.range 6).foldl (fun a d => a + (if (s.rd Rg.rollVotes d).testBit t then 2 ^ d else 0)) 0

/-- VOTE_UP: a register write needs Run for each bit written as 1 (Table Access.3). -/
def doVoteUp (m : MasterId) (mask : BitVec 6) (s : State) : State :=
  s.guardWrite m.val 0x50000 (mask.toNat == 0 || s.rightAt m.val 0x50000 .run)
    (fun st => st.voteUp ((st.tenantOf m.val).getD 0) mask.toNat)

def doVoteDown (m : MasterId) (mask : BitVec 6) (s : State) : State :=
  s.guardWrite m.val 0x50004 (mask.toNat == 0 || s.rightAt m.val 0x50004 .run)
    (fun st => st.voteDown ((st.tenantOf m.val).getD 0) mask.toNat)

/-! ### Temper requests (R693) -/

/-- A request from 0 to 5, or 15 for none; 6 to 14 are ignored. -/
def temperOk (v : Nat) : Bool := v ≤ 5 || v == 15

/-- A tenant's request, which moves the target (R694). -/
def State.temperRequest (s : State) (t v : Nat) : State :=
  if temperOk v then (s.wr Rg.pwTemperReqT v t).temperRefresh else s

def doTemperRequest (m : MasterId) (v : Fin 16) (s : State) : State :=
  s.withRight m.val 0x50008 .set (fun st => st.temperRequest ((st.tenantOf m.val).getD 0) v.val)

/-! ### The drop (R677, R683) -/

/-- A domain has quiesced (Table Power.4). -/
def State.quiesced (s : State) (d : Nat) : Bool :=
  if d = 0 then s.billets.all (fun b => b.lane == 0xFF) && (List.range 4).all (fun c => (s.cciOf c).active.isNone)
  else if d = 1 ∨ d = 2 then
    s.holding d == 0 && (List.range 8).all (fun a => anvilDomain a != d || (s.anvil a).cores.isEmpty)
  else if d = 3 then s.batches.all (fun e => e.2.open_ || !s.on Rg.pcieLink)
  else if d = 4 then s.sfe.rot.cal.isNone
  else !s.bellowsBusy

/-- DOMAIN_QUIESCED: a DROPPING domain that has quiesced enters SAVING. -/
def State.quiesce (s : State) (d : Nat) : State :=
  if s.rd Rg.rollState d = 1 ∧ s.quiesced d then s.saving d else s

def doDomainQuiesced (d : DomainId) (s : State) : State := s.quiesce d.val

/-- DOMAIN_SAVE_DONE: the domain enters DOWN, its epochs increment and E0000 + d is raised; under a domain reset it rises
(R676, R683, R733). -/
def State.saveDone (s : State) (d : Nat) : State :=
  if s.rd Rg.rollState d != 2 then s
  else if s.power.resetting.contains d then s.rising d
  else
    let s1 := s.each (unitsOf d) (fun st u => (st.bumpEpoch u).setUnit u 2)
    ((s1.wr Rg.rollState 3 d).raise d d 0)

def doDomainSaveDone (d : DomainId) (s : State) : State := s.saveDone d.val

/-! ### Pads (R685, R705) -/

/-- What the release of a bank lets begin. -/
def State.bankFreed (s : State) (b : Nat) : State :=
  if b = 1 then { s with power := { s.power with hostRelease := some s.now } }
  else if b = 2 then s.sfeStart
  else if b = 4 then s.doutRefreshAll
  else s

/-- The domain of a pad bank. -/
def bankDomain (b : Nat) : Nat := if b = 0 then 0 else if b = 1 then 3 else if b = 2 then 4 else 5

/-- A held bank of an UP domain is released. -/
def State.releaseBank (s : State) (b : Nat) : State :=
  if s.padHeld b && s.domainUp (bankDomain b) then
    (s.wr Rg.pwPadHeld (s.rd Rg.pwPadHeld - 2 ^ b)).bankFreed b
  else s

/-- PAD_RELEASE: a write of 1 to the bits of a mask. -/
def doPadRelease (m : MasterId) (mask : BitVec 5) (s : State) : State :=
  s.guardWrite m.val 0x50024 (mask.toNat == 0 || s.rightAt m.val 0x50024 .run)
    (fun st => st.each (maskBits 5 mask.toNat) State.releaseBank)

/-! ### The rise (R684) -/

/-- What is lost beside the registers when nothing can be restored. -/
def State.restoreLost (s : State) (d : Nat) : State :=
  if d = 3 then { s with rings := s.rings.map (fun (e : Nat × RingSt) => (e.1, { e.2 with wasArmed := false })) }
  else if d = 4 then { s with sfe := {} }
  else s

/-- The region is checked and restored: without it the registers hold their reset values, and E0016 + d is raised. A start
from cold restores nothing. -/
def State.restore (s : State) (d : Nat) (crcOk : Bool) : State :=
  if !hasRegion d || s.boot.coldRise then s
  else if crcOk && s.on Rg.rollSaveValid d then s.wr Rg.rollRestoreOk 1 d
  else (((s.restoreLost d).domainRegs d (journalKept d)).wr Rg.rollRestoreOk 0 d).raise (16 + d) d 0

/-- A unit of the domain is in service, but for an Anvil that stays fenced (R729). -/
def State.unitRisen (s : State) (u : Nat) : State :=
  if u < 8 then (if (s.anvil u).condemned then s.setUnit u 1 else s.anvilService u) else s.setUnit u 0

/-- What begins when a domain is UP. -/
def State.domainBegins (s : State) (d : Nat) : State :=
  if d = 0 then
    (if s.power.pipeFresh then { s.pipeDefaults with power := { s.power with pipeFresh := false } } else s)
  else if d = 4 then (if s.padHeld 2 then s else s.sfeStart)
  else if d = 5 then s.bellowsRisen
  else s

/-- DOMAIN_RISE_DONE: the domain enters UP, with E0008 + d. The banks that were released before a domain reset are released
by hardware, and so are CAPTURE and HOST at a cold start outside test mode (R684, R733, R756, R773). -/
def State.riseDone (s : State) (d : Nat) (crcOk : Bool) : State :=
  if s.rd Rg.rollState d != 4 then s
  else
    let s1 := ((s.restore d crcOk).wr Rg.rollState 0 d).raise (8 + d) d 0
    let s2 := (s1.each (unitsOf d) State.unitRisen).domainBegins d
    let again := if s.power.resetting.contains d then s.power.release &&& banksOf d
                 else if s.boot.coldRise && s.rd Rg.bootMode != 3 then 3 &&& banksOf d else 0
    let s3 := { s2 with power := { s2.power with resetting := s2.power.resetting.filter (fun x => x != d) } }
    (s3.each (maskBits 5 again) State.releaseBank)

def doDomainRiseDone (d : DomainId) (crcOk : Bool) (s : State) : State := s.riseDone d.val crcOk

/-! ### Wake (R688 to R691) -/

/-- The source's own WAKE_EN, where it has one (R688). -/
def State.wakeOwn (s : State) (c : Nat) : Bool :=
  if 1 ≤ c ∧ c ≤ 4 then s.on Rg.csiWakeEn (c - 1) else if 17 ≤ c ∧ c ≤ 24 then s.on Rg.dinWakeEn (c - 17) else true

/-- WAKE_EVENT: the source of a code sees its event. -/
def doWakeEvent (c : Fin 26) (s : State) : State :=
  if s.wakeOwn c.val then (s.wakeEvent c.val) else s

/-- WAKE_HOLD_EXPIRY: WAKE_HOLD ms after the latest wake event the vote is withdrawn. -/
def State.wakeExpire (s : State) : State :=
  match s.power.wakeUntil with
  | none => s
  | some t =>
    let s1 := s.reach t
    let s2 := { s1 with power := { s1.power with wakeUntil := none } }
    (s2.each (List.range 6) (fun st d =>
      st.wr Rg.rollInternal (st.rd Rg.rollInternal d / 4 * 4 + st.rd Rg.rollInternal d % 2) d))

def doWakeHoldExpiry (s : State) : State := s.wakeExpire

/-- WAKE_DATAGRAM: the filter of a port sees a datagram; it works while HOST is down (R689). -/
def State.wakeDatagram (s : State) (p ip udp : Nat) (bs : List Byte) : State :=
  if s.domainServes 3 || !(s.rd Rg.wakeEn).testBit (14 + p) || udp != s.rd Rg.wakeUdp ||
      !(ip == s.rd Rg.ethIp p || ip == 2 ^ 32 - 1) then s
  else if bs.length = 8 ∧ beAt bs 0 2 = 0x574B ∧ beAt bs 4 4 = s.rd Rg.wakeCode ∧ s.rd Rg.wakeCode ≠ 0 then
    (s.wakeEvent (14 + p) (beAt bs 2 2))
  else (s.bumpSat Rg.wakeBad).raiseLim 64 27 0 (14 + p) 0

def doWakeDatagram (p : Fin 2) (ip : Word) (udp : BitVec 16) (bs : List Byte) (s : State) : State :=
  s.wakeDatagram p.val ip.toNat udp.toNat bs

/-- WAKE_RELEASE: WAKE# is released when the link is up, or 100 ms after the release of the HOST pad bank (R690). -/
def State.wakeRelease (s : State) : State :=
  if !s.power.wakePin then s
  else if s.on Rg.pcieLink then { s with power := { s.power with wakePin := false } }
  else match s.power.hostRelease with
    | none => s
    | some t =>
      let s1 := s.reach (t + msTicks 100)
      { s1 with power := { s1.power with wakePin := false } }

def doWakeRelease (s : State) : State := s.wakeRelease

end Sys2Proof.Machine
end

