-- ==== Sys2Proof/Machine/Thermal.lean ====
section
/-! DEFINITION. The die temperature, the die thermal states and the trip (R696 to R699, R783). -/
namespace Sys2Proof.Machine

/-- The offset that an injection adds to every reading (Table Events.2). -/
def State.thermOffset (s : State) : Int :=
  match s.power.offset with
  | some (o, t) => if s.now < t then o else 0
  | none => 0

/-- A valid reading, in 0.01 °C (R696). -/
def tempValid (t : Int) : Bool := decide (-5500 ≤ t) && decide (t ≤ 15000)

/-- The sensors of a list that are valid. -/
def validAt (x : List Int) (l : List Nat) : List Int := (l.map (fun i => x.getD i 0)).filter tempValid

/-- The die temperature: the highest valid reading, and THR_HOT while a die has no valid sensor (R696). -/
def State.dieOf (s : State) (x : List Int) : Int :=
  let logic := validAt x [0, 1, 2, 3]
  let mixed := validAt x [4, 5]
  if logic.isEmpty || mixed.isEmpty then s.rdI Rg.th2ThrHot
  else (logic ++ mixed).foldl max (-5500)

/-- The Temper cap of a die thermal state (Table Power.11). -/
def State.thermCap (s : State) (st : Nat) : Nat :=
  if st = 0 then 5 else if st = 1 then capLevel (s.rd Rg.th2TcapWarm) else if st = 2 then capLevel (s.rd Rg.th2TcapHot) else 0

/-- The cap follows the state and the two cap fields (R694, R698). -/
def State.capRefresh (s : State) : State := (s.wr Rg.pwCap (s.thermCap (s.rd Rg.th2State))).temperRefresh

/-- Threshold of state k. -/
def State.thermThr (s : State) (k : Nat) : Int :=
  if k = 1 then s.rdI Rg.th2ThrWarm else if k = 2 then s.rdI Rg.th2ThrHot else s.rdI Rg.th2ThrCrit

/-- The state moves one step: its crossing counts, E0992 carries the state in force, and the cap follows (R697). -/
def State.thermMove (s : State) (st : Nat) (up : Bool) (die : Int) : State :=
  let c := if !up then Rg.th2Downs else if st = 1 then Rg.th2WarmUp else if st = 2 then Rg.th2HotUp else Rg.th2CritUp
  let s1 := { s with power := { s.power with up := 0, dn := 0 } }
  (((s1.wr Rg.th2State st).bumpSat c).raiseLim 64 992 0 st (ofSigned 32 die)).capRefresh

/-- One sample of the procedure of R376 on the die temperature. -/
def State.thermStep (s : State) (die : Int) : State :=
  let st := s.rd Rg.th2State
  let dwell := max 1 (s.rd Rg.th2Dwell)
  let up := if st < 3 ∧ s.thermThr (st + 1) ≤ die then s.power.up + 1 else 0
  let dn := if 0 < st ∧ die < s.thermThr st - (s.rd Rg.th2Hyst : Int) then s.power.dn + 1 else 0
  let s1 := { s with power := { s.power with up := up, dn := dn } }
  if dwell ≤ up then s1.thermMove (st + 1) true die
  else if dwell ≤ dn then s1.thermMove (st - 1) false die
  else s1

/-- Two consecutive samples at or above 125.00 °C trip the engine (R699). -/
def State.thermTrip (s : State) (die : Int) : State :=
  let n := if 12500 ≤ die then s.power.hot + 1 else 0
  let s1 := { s with power := { s.power with hot := n } }
  if 2 ≤ n && s1.sealable then
    let s2 := (s1.wr Rg.wakeTrip 1).stopUnits
    { s2 with power := { s2.power with tripTold := false } }
  else s1

/-- A sensor whose reading is not valid raises E0994. -/
def State.thermInvalid (s : State) (x : List Int) : State :=
  let bad := (List.range 6).filter (fun i => !tempValid (x.getD i 0))
  let s1 := s.wr Rg.th2SensorFault ((bad.map (fun i => 2 ^ i)).sum)
  s1.each bad (fun st i => st.raiseLim 64 994 0 i (ofSigned 32 (x.getD i 0)))

/-- THERMAL_SAMPLE: the readings of the six sensors, in 0.01 °C. -/
def State.thermalSample (s : State) (l : List Int) : State :=
  let x := (List.range 6).map (fun i => l.getD i 0 + s.thermOffset)
  let s1 := s.each (List.range 6) (fun st i => st.wrI Rg.th2Sensor (x.getD i 0) i)
  let s2 := s1.thermInvalid x
  let die := s2.dieOf x
  ((s2.wrI Rg.th2DieTemp die).thermStep die).thermTrip die

def doThermalSample (readings : List Int) (s : State) : State := s.thermalSample readings

end Sys2Proof.Machine
end

