-- ==== Sys2Proof/Machine/Resets.lean ====
section
/-! DEFINITION. Domain and block resets, the watchdogs of units, and the errors of the device DRAM (R119, R730 to R734, R740,
R743, R782). -/
namespace Sys2Proof.Machine

/-! ### Domain resets (R733) -/

/-- A unit is fenced by a reset: a fence in progress merges with it, and its epoch increments once (R740). -/
def State.resetFence (s : State) (u : Nat) : State :=
  if u < 8 && (s.anvil u).testing then s.setUnit u 1 else (s.bumpEpoch u).setUnit u 1

/-- A ring is disarmed by a reset of its block: its batch stays open, and it is rebuilt afterwards (R551). -/
def State.ringKeep (s : State) (r : Nat) : State := (s.ringCut r).modRing r (fun x => { x with wasArmed := true })

/-- The rings that are armed or being armed. -/
def State.liveRings (s : State) : List Nat := (List.range 256).filter s.ringLive

/-- What the requests outstanding to the units of a domain come to (Tables Events.4 and Events.5). -/
def State.domainRetry (s : State) (d : Nat) : State :=
  if d = 0 then s.each (List.range 6) (fun st p => st.loseLink p)
  else if d = 1 ∨ d = 2 then
    let l := (List.range 8).filter (fun a => anvilDomain a == d)
    (s.each l (fun st a => st.modAnvil a (fun x => { x with testing := false, condemned := false }))).anvilsLost l
  else if d = 3 then ((s.each s.liveRings State.ringKeep).jxHostDown).tcpFreeAll
  else if d = 4 then s.sfeDropping
  else (s.each (List.range 8) (fun st n => (st.pulseCut n).flashDrop n)).bellowsDropping

/-- The domain began to drop on this very tick: a reset of the same tick runs first (R743). -/
def State.droppedNow (s : State) (d : Nat) : Bool :=
  s.rd Rg.rollState d == 1 && kvGet none s.power.dropAt d == some s.now

/-- A domain reset: a domain that is not UP ignores it, one that began to drop on its tick apart (R743). The epochs of its units increment, it saves with its pads held, and
what it held released comes back at its rise (R733). -/
def State.domainReset (s : State) (d : Nat) : State :=
  if !s.domainUp d && !s.droppedNow d then s
  else
    let s1 := (s.raise 32 d 0).each (unitsOf d) State.resetFence
    let s2 := s1.domainRetry d
    let free := banksOf d - (s2.rd Rg.pwPadHeld &&& banksOf d)
    let s3 := { s2 with power := { s2.power with resetting := d :: s2.power.resetting.filter (fun x => x != d),
                                                 release := (s2.power.release &&& (31 - banksOf d)) ||| free } }
    s3.saving d

/-- Own on Power and Temper (R733). -/
def State.ownsPower (s : State) (m : Nat) : Bool :=
  match s.asTested.tenantOf m with
  | some t => s.asTested.holds t 5 none .own
  | none => false

/-- DOMAIN_RESET: a write of DOM_RESET bit d, or the reset verb. -/
def doDomainReset (m : MasterId) (d : DomainId) (s : State) : State :=
  s.guardWrite m.val 0x47004 (s.ownsPower m.val) (fun st => st.domainReset d.val)

/-- PERST: the HOST domain is reset and E0046 is raised; before HOST is UP it has no effect (R782). -/
def doPerst (s : State) : State := if s.domainUp 3 || s.droppedNow 3 then (s.domainReset 3).raise 46 3 0 else s

/-! ### Block resets (R734) -/

/-- A lane's or port's capture control master, and the other blocks: what a unit's reset clears. RW fields and counters
stay. -/
def State.unitClear (s : State) (u : Nat) : State :=
  if u < 8 then
    (s.modAnvil u (fun x => { x with testing := true, condemned := false })).anvilsLost [u]
  else if u = 8 then
    let s1 := s.pipeRetry
    { s1.statsLost with pipe := {} }
  else if u < 15 then
    let s1 := s.loseLink (u - 9)
    { s1 with ports := kvDel s1.ports (u - 9) }
  else if u < 19 then
    (s.modCci (u - 15) (fun x => { x with results := [] })).cciEndAll (u - 15)
  else if u = 19 then ((s.each s.liveRings State.ringKeep).msixClear (List.range 16)).linkDown
  else if u < 22 then
    let p := u - 20
    let s1 := if s.on Rg.ethPtpLock p then s.ptpUnlock p else s
    { s1 with eths := kvDel s1.eths p }
  else if u = 22 then
    let s1 := s.sfeDropping.sfeDown
    if s1.padHeld 2 then s1 else s1.sfeStart
  else
    let s1 := (s.each (List.range 8) (fun st n => (st.pulseCut n).flashDrop n)).bellowsDropping
    s1.bellowsRisen.doutRefreshAll

/-- A unit's block is reset: its epoch increments, what it held is gone, and E0033 is raised. An Anvil is then tested, and
any other unit serves again (R729, R734). -/
def State.unitReset (s : State) (u : Nat) : State :=
  match domainOfUnit u with
  | none => s
  | some d =>
    if !s.domainServes d then s
    else
      let s1 := (s.resetFence u).unitClear u
      let s2 := if u < 8 then s1 else s1.setUnit u 0
      s2.raise 33 u 0

/-- A block reset of ring r clears ARM and then sets it again (Table Events.3). -/
def State.ringReset (s : State) (r : Nat) : State :=
  if s.ringLive r then
    let s1 := s.ringCut r
    if s1.armOk r then s1.ringRebuild r (s.ring r).pages else s1
  else s

/-- A block reset. -/
def State.blockReset (s : State) : Block → State
  | .unit u => s.unitReset u.val
  | .ring r => if s.domainServes 3 then s.ringReset r.val else s
  | .lane n => s.laneReset n.val

/-- The targets that hold registers of a block (R734). -/
def Block.targets : Block → List Nat
  | .unit u =>
    if u.val < 8 then [0x20 + u.val] else if u.val = 8 then [0x14, 0x18, 0x1C] else if u.val < 19 then [8]
    else if u.val = 19 then [0x34] else if u.val < 22 then [0x36] else if u.val = 22 then [0x3A, 0x3C] else [0x40]
  | .ring _ => [0x34]
  | .lane _ => [0x10]

/-- Own on every target that holds registers of a block. -/
def State.ownsBlock (s : State) (m : Nat) (b : Block) : Bool :=
  match s.asTested.tenantOf m with
  | some t => b.targets.all (fun g => s.asTested.holds t g none .own)
  | none => false

/-- The register that a block reset writes: UNIT_u RESET, or the control register of the ring or lane. -/
def Block.addr : Block → Nat
  | .unit u => 0x46004 + 0x10 * u.val
  | .ring r => 0x340000 + 0x40 * r.val
  | .lane n => laneAddr n.val 0x18

/-- BLOCK_RESET. -/
def doBlockReset (m : MasterId) (b : Block) (s : State) : State :=
  s.guardWrite m.val b.addr (s.ownsBlock m.val b) (fun st => st.blockReset b)

/-! ### Watchdogs (R730, R732) -/

/-- A unit's request watchdog expires: E0034, and its block is reset. The Anvils and the Registrar have others. -/
def State.unitWatchdog (s : State) (u : Nat) : State :=
  match domainOfUnit u with
  | none => s
  | some d => if u < 8 || !s.domainServes d then s else ((s.bumpSat Rg.unitFaults u).raise 34 u 0).unitReset u

def doUnitWatchdog (u : Fin 24) (s : State) : State := s.unitWatchdog u.val

/-! ### DRAM errors (R119, R731) -/

/-- The pages of the device DRAM. -/
def dramPages : Nat := 2 ^ 20

/-- The record that stands for a decision whose records were lost: it carries what is known of its Billet (R78, R79, R111,
R119). -/
def lostRec (o : Owed) (x : EndSeen) : Rec :=
  { ordinal := o.ordinal, cand := none, kind := .status, endCode := 4, lane := o.lane, frame := o.frame,
    period := o.period, stamp := o.stamp, flags := flSummary + b2n x.late * flLate,
    summary := leBytes 2 x.mark ++ zeros 5 ++ leBytes 1 (sat8 x.symbols) ++ leBytes 2 (sat16 x.stripes) ++ zeros 54 }

/-- The JOB record that stands for a job whose record was lost: its result is 502. -/
def lostJobRec (o : Owed) (x : EndSeen) : Rec :=
  { lostRec o x with kind := .job, lane := 0xFF, frame := 0, summary := zeros 64,
                       area := leBytes 2 o.jobCode ++ leBytes 2 502 }

/-- The lost unreleased records of a decision are replaced for one correspondent by one DATA_LOST terminal record (R119);
a gap notice is rebuilt from the journal. -/
def State.reservoirLost (s : State) (c o : Nat) : State :=
  match (s.corr c).owed.find? (fun x => x.ordinal == o && x.reason == 0 && !x.recs.isEmpty) with
  | none => s
  | some x =>
    let seen := match s.billet? o with
      | some b => b.endSeen false
      | none => x.final.getD {}
    let r := if x.lane = 0xFF then lostJobRec x seen else lostRec x seen
    let s1 := { s with billets := s.billets.map (fun (b : Billet) =>
                  if b.ordinal == o then { b with corrs := b.corrs.filter (fun k => k != c) } else b) }
    let s2 := s1.modOwedOf c o (fun y => { y with recs := [r] })
    (((s2.bumpSat Rg.jnlGbDataLost).raiseCnt 64 132 0 c).stallRelease c).gbSync c

/-- A stripe of an open Billet was lost outside a read of the Pipe: the Billet ends DATA_LOST (R78, R118). -/
def State.frameLost (s : State) (o : Nat) : State :=
  (s.modBillet o (fun x => { x with dataLost := true, pipe := { x.pipe with skip := true } })).tryEnd o

/-- What an uncorrectable error hits. -/
def State.dramHit (s : State) : DramHit → State
  | .nothing => s
  | .frame o =>
    match s.billet? o with
    | none => s
    | some b =>
      if b.lane = 0xFF then s
      else match s.pipe.running with
        | some (o', j) =>
          if o' = o then
            -- the Pipe reads the stripe (R233)
            (({ s with pipe := { s.pipe with running := none } }).wr Rg.pipeIdle 1 |>.jobStage .pipe o j .done).pipeDataLost o b.lane
          else s.frameLost o
        | none => s.frameLost o
  | .reservoir l => s.each l (fun st e => st.reservoirLost e.1.val e.2)
  | .reference k h =>
    let half := b2n h
    let read := s.billets.any (fun b =>
      b.pipe.ref.slot == k.val && b.pipe.ref.cmp == half && (b.pipe.ref.kind == 1 || b.pipe.ref.kind == 2))
    let s1 := if s.rd Rg.pipeRefHalf k = half ∨ read then s.wr Rg.pipeRefValid 0 k else s
    let s2 := { s1 with billets := s1.billets.map (fun (b : Billet) =>
      if b.pipe.ref.slot == k.val && b.pipe.ref.cmp == half && (b.pipe.ref.kind == 1 || b.pipe.ref.kind == 2) then
        { b with pipe := { b.pipe with noRef := true } } else b) }
    (s2.modRef k (fun r => r.setHalf half {})).raise 456 k half
  | .statistics o =>
    match s.billet? o with
    | some b => s.statLost b
    | none => s

/-- An uncorrectable DRAM error: the page is retired, and its content decides the accounting (R731). -/
def State.dramUncorrectable (s : State) (page : Nat) (hit : DramHit) : State :=
  let gone := s.power.retired.contains page
  let s1 := ((s.takeArmed 40 page).1.bumpSat Rg.dramUe).raise 40 page 0
  let s2 := if gone then s1 else
    { s1.wr Rg.dramRetired (s1.power.retired.length + 1) with power := { s1.power with retired := page :: s1.power.retired } }
  s2.dramHit hit

def doDramUncorrectable (page : BitVec 20) (hit : DramHit) (s : State) : State := s.dramUncorrectable page.toNat hit

/-- A corrected DRAM error. -/
def doDramCorrected (s : State) : State := (s.bumpSat Rg.dramCe).raiseCnt 64 41 0 0

end Sys2Proof.Machine
end

