-- ==== Sys2Proof/Machine/Update.lean ====
section
/-! DEFINITION. The check of a firmware image, the update of the Registrar's firmware, and the Registrar's watchdog (R732, R737
to R739, R744, R765). -/
namespace Sys2Proof.Machine

/-- The cause with which an image fails its check, in the order of R765; 0 when it passes. -/
def State.imageCause (s : State) (x : ImageSeen) : Nat :=
  if !x.readOk then 1
  else if x.magic.toNat != 0x464C4849 || x.format.toNat != 1 then 2
  else if x.length.toNat = 0 ∨ 5242880 < x.length.toNat then 3
  else if !x.keyOk || decide (2 ≤ x.keyIndex.toNat) || (s.rd Rg.bootRevoked).testBit x.keyIndex.toNat then 4
  else if !x.sigOk then 5
  else if x.svn.toNat < s.rd Rg.bootMinSvn then 6
  else 0

/-- FW_START: a write of START by T00 begins the check of the image at FW_IMAGE; during an update it does nothing. -/
def State.fwStart (s : State) : State :=
  if s.fw.checking || s.rd Rg.fwState != 0 then s else { s with fw := { s.fw with checking := true } }

def doFwStart (m : MasterId) (s : State) : State := s.guardWrite m.val 0x80 (s.isProctor m.val) State.fwStart

/-- FW_CHECK_DONE: an image that fails ends the update; one that passes waits for a Bell (R737). -/
def State.fwChecked (s : State) (x : ImageSeen) : State :=
  if !s.fw.checking then s
  else
    let c := s.imageCause x
    let s1 := { s with fw := { s.fw with checking := false, next := x.version.toNat } }
    if c = 0 then s1.wr Rg.fwState 1 else (s1.wr Rg.fwResult 2).raise 38 24 2

def doFwCheckDone (x : ImageSeen) (s : State) : State := s.fwChecked x

/-- The Registrar restarts, from the pause of admission onward: its epoch increments (R726, R738). -/
def State.registrarRestart (s : State) (c : FwCause) : State :=
  let s1 := { s with fw := { s.fw with pause := true, running := true, cause := c, since := s.now, resumeNext := false } }
  (((s1.wr Rg.fwState 2).bumpEpoch 24).setUnit 24 1)

/-- No Thotor command executes, no job work runs, and no domain or block reset is in progress (R738, R744). -/
def State.fwQuiet (s : State) : Bool :=
  s.thotor.sessions.all (fun e => e.2.wait.isNone) && !s.thotor.storing && s.billets.all (fun b => b.lane != 0xFF) && s.power.resetting.isEmpty &&
  (List.range 8).all (fun a => !(s.anvil a).testing)

/-- FW_UPDATE_BEGIN: at a quiet Bell admission pauses and the Registrar restarts on the new image (R738). -/
def State.fwBegin (s : State) : State :=
  if s.rd Rg.fwState = 1 ∧ s.now = s.lastBell ∧ s.fwQuiet then (s.raise 36 24 0).registrarRestart .update else s

def doFwUpdateBegin (s : State) : State := s.fwBegin

/-- FW_READY: the Registrar reports ready. The ledger is costed anew, and admission resumes at the next Bell (R738). -/
def State.fwReady (s : State) : State :=
  if !s.fw.running then s
  else
    let s1 := { s with fw := { s.fw with running := false, resumeNext := true } }
    let s2 := if s.fw.cause == .update then
        { (s1.wr Rg.fwResult 0).wr Rg.bootVersion s.fw.next with
            fw := { s1.fw with prev := some (s.rd Rg.bootVersion), readyAt := some s.now } }
      else s1
    (s2.setUnit 24 0).fitness

def doFwReady (s : State) : State := s.fwReady

/-- The Registrar restarts on the previous image: RESULT reads 1, and E0038 is raised (R739). -/
def State.fwRevert (s : State) : State :=
  let s1 := match s.fw.prev with
    | some v => { s.wr Rg.bootVersion v with fw := { s.fw with prev := none, readyAt := none } }
    | none => s
  ((s1.wr Rg.fwResult 1).raise 38 24 1).registrarRestart .revert

/-- FW_READY_TIMEOUT: the new image has not reported ready within 50 ms (R739). -/
def State.fwTimeout (s : State) : State :=
  if s.fw.running && s.fw.cause == .update then (s.reach (s.fw.since + msTicks 50)).fwRevert else s

def doFwReadyTimeout (s : State) : State := s.fwTimeout

/-- The new image reported ready less than 1 s ago. -/
def State.fwFresh (s : State) : Bool :=
  match s.fw.readyAt with
  | some t => s.fw.prev.isSome && decide (s.now ≤ t + msTicks 1000)
  | none => false

/-- REGISTRAR_WATCHDOG: 2 ms without a heartbeat. The Registrar restarts on its running image, or on the previous one within
1 s of an update (R732, R739). -/
def State.registrarWatchdog (s : State) : State :=
  if s.fw.running then s
  else
    let s1 := s.raise 39 24 0
    if s1.fwFresh then s1.fwRevert else (s1.raise 36 24 0).registrarRestart .watchdog

def doRegistrarWatchdog (s : State) : State := s.registrarWatchdog

end Sys2Proof.Machine
end

