-- ==== Sys2Proof/Machine/Replay.lean ====
section
/-! DEFINITION. Replay: what the journal memory says, the class of the start, and the accounting of what was open (R85, R93, R103,
R105 to R113, R825). -/
namespace Sys2Proof.Machine

/-! ### Reading the log (R93) -/

/-- The position after p. -/
def posNext (p : Nat) : Nat := if p + 1 < logSize then p + 1 else 0

/-- The position before p. -/
def posPrev (p : Nat) : Nat := if p = 0 then logSize - 1 else p - 1

/-- The cell at a log position; none where it is free. -/
def State.logAt (s : State) (p : Nat) : Option JCell := (s.jnl.log.find? (fun e => e.1 == p)).map Prod.snd

/-- Where reading stopped. -/
structure LogStop where
  pos : Nat
  serial : Nat
  crcFailed : Bool
  deriving DecidableEq, Repr

/-- Read entries in ascending serial order from a position (R93). -/
def State.readLog (s : State) : Nat → Nat → Nat → List JEntry × LogStop
  | 0, p, q => ([], ⟨p, q, false⟩)
  | n + 1, p, q =>
    match s.logAt p with
    | none => ([], ⟨p, q, false⟩)
    | some c =>
      if !c.crcOk then ([], ⟨p, q, true⟩)
      else if c.entry.serial != mask48 (q + 1) then ([], ⟨p, q, false⟩)
      else
        let r := s.readLog n (posNext p) c.entry.serial
        (c.entry :: r.1, r.2)

/-- The entries before a position, latest first, as far as the log holds them. -/
def State.readBack (s : State) : Nat → Nat → Nat → List JEntry
  | 0, _, _ => []
  | n + 1, p, q =>
    match s.logAt p with
    | none => []
    | some c => if c.crcOk && c.entry.serial == q && q != 0 then c.entry :: s.readBack n (posPrev p) (q - 1) else []

/-- What the journal memory holds, as replay finds it. -/
structure JView where
  /-- the checkpoint in force and its slot -/
  ck : Option (Nat × Ckpt)
  /-- the entries before it that the log still holds, and those after it -/
  older : List JEntry
  entries : List JEntry
  stop : LogStop
  /-- the header, where its CRC holds -/
  header : Option JHeader
  /-- what failed its CRC, as E0130 gives it -/
  failed : List (Nat × Nat)
  deriving DecidableEq, Repr

/-- A checkpoint slot whose CRC holds. -/
def goodSlot : Option Ckpt → Option Ckpt
  | some c => if c.crcOk then some c else none
  | none => none

/-- The slot with the higher serial whose CRC holds (R105). -/
def State.bestSlot (s : State) : Option (Nat × Ckpt) :=
  match goodSlot s.jnl.slotA, goodSlot s.jnl.slotB with
  | none, none => none
  | some a, none => some (0, a)
  | none, some b => some (1, b)
  | some a, some b => if a.serial < b.serial then some (1, b) else some (0, a)

/-- A stored slot or header that fails its CRC. -/
def badSlot : Option Ckpt → Bool
  | some c => !c.crcOk
  | none => false

def badHeader : Option JHeader → Bool
  | some h => !h.crcOk
  | none => false

/-- Read the journal memory. -/
def State.jview (s : State) : JView :=
  let ck := s.bestSlot
  let hdr := if badHeader s.jnl.header then none else s.jnl.header
  let p := match ck with
    | some c => c.2.next
    | none => match hdr with
      | some h => h.head
      | none => 0
  let q := match ck with
    | some c => c.2.serial
    | none => 0
  let r := s.readLog logSize p q
  { ck := ck, older := (if ck.isSome then s.readBack logSize (posPrev p) q else []).reverse, entries := r.1, stop := r.2,
    header := hdr,
    failed := (if badHeader s.jnl.header then [(0, 0)] else []) ++ (if badSlot s.jnl.slotA then [(1, 0)] else []) ++
      (if badSlot s.jnl.slotB then [(2, 0)] else []) ++ (if r.2.crcFailed then [(3, r.2.pos)] else []) }

/-- Nothing in the journal can be read (R85, R113). -/
def JView.empty (v : JView) : Bool := v.header.isNone && v.ck.isNone && v.entries.isEmpty

/-- The last SEAL or BOOT entry is a SEAL entry with flush result 0. -/
def lastSeal : List JEntry → Bool
  | l => l.foldl (fun a e => match e.body with
    | .seal _ r _ _ => r == 0
    | .boot _ _ _ => false
    | _ => a) false

/-- The start is after a seal (R113). -/
def JView.sealed (v : JView) : Bool := lastSeal v.entries && v.failed.isEmpty && !v.empty

/-- Boot count and CONSOLE_AUTO as replay takes them (R825). Where no header and no slot is valid but log entries can be read,
they are 0 and 1, as on an empty journal: DESIGN CHOICE, log entry 114. -/
def JView.bootCount (v : JView) : Nat :=
  match v.header, v.ck with
  | some h, _ => h.bootCount
  | none, some c => c.2.bootCount + (v.entries.filter (fun e => match e.body with
      | .boot _ _ _ => true
      | _ => false)).length
  | none, none => 0

def JView.consoleAuto (v : JView) : Nat :=
  match v.header, v.ck with
  | some h, _ => h.consoleAuto
  | none, some c => c.2.consoleAuto
  | none, none => 1

/-! ### Applying entries -/

/-- A Door decision as the journal gives it: what was accepted, or the reason of its gap notice. -/
structure JDec where
  ordinal : Nat
  lane : Nat
  frame : Nat
  period : Nat
  /-- 0 for an acceptance -/
  reason : Nat
  /-- the correspondent of a job, and its code -/
  corr : Option Nat := none
  code : Nat := 0
  deriving DecidableEq, Repr

/-- A SUBSCRIBE or EVICT entry as replay keeps it: from a Door ordinal on, the lanes of a correspondent are these. -/
structure SubSeen where
  corr : Nat
  from_ : Nat
  lanes : Nat
  /-- action of SUBSCRIBE; an EVICT drops -/
  action : Nat
  deriving DecidableEq, Repr

/-- An EVICT entry as replay keeps it. -/
structure EvictSeen where
  corr : Nat
  /-- last Door ordinal given up, number of the EVICTED record, and records given up -/
  last : Nat
  seq : Nat
  count : Nat
  /-- decisions whose Billet had ended when it was appended -/
  ended : List Nat
  /-- a cold start has passed since, and its accounting may have given the EVICTED record another number -/
  later : Bool := false
  /-- number under which the EVICTED record has become visible -/
  told : Option Nat := none
  deriving DecidableEq, Repr

/-- A SENT entry as replay keeps it. -/
structure SentSeen where
  corr : Nat
  s0 : Nat
  count : Nat
  ordinal : Nat
  deriving DecidableEq, Repr

/-- The state that replay builds. -/
structure Rebuilt where
  ordinal : Nat := 0
  corrs : Kv CkCorr := []
  rings : Kv (Nat × Nat × Nat) := []
  lanes : Kv (Nat × Nat) := []
  units : Kv Nat := []
  /-- decisions, oldest first -/
  decs : List JDec := []
  /-- symbols and stripes of an END entry, by ordinal -/
  ends : Kv (Nat × Nat) := []
  /-- lane masks of each correspondent, from the ordinals they name: latest first -/
  subs : List SubSeen := []
  /-- its stalls: correspondent, ordinal and state, latest first -/
  stalls : List (Nat × Nat × Nat) := []
  /-- evictions, latest first -/
  evicts : List EvictSeen := []
  /-- highest visible sequence number, where it is not the one before the next: a torn start has advanced the latter -/
  vis : Kv Nat := []
  /-- INTENT entries without their COMPLETE, by ring: correspondent, first number, count, N0, N1 -/
  intents : Kv (Nat × Nat × Nat × Nat × Nat) := []
  /-- SENT entries, latest first -/
  sents : List SentSeen := []
  deriving DecidableEq, Repr

/-- A sequence number advanced by n (R99). -/
def seqPlus (q n : Nat) : Nat := (max 1 q - 1 + n) % (2 ^ 48 - 1) + 1

/-- The sequence number before q; before the first there is none. -/
def seqBefore (q : Nat) : Nat := if q ≤ 1 then 0 else q - 1

def Rebuilt.corr (r : Rebuilt) (c : Nat) : CkCorr := kvGet ckFree r.corrs c

def Rebuilt.modCorr (r : Rebuilt) (c : Nat) (f : CkCorr → CkCorr) : Rebuilt := { r with corrs := kvMod ckFree r.corrs c f }

/-- The highest visible sequence number of a correspondent (Table Accepted.8). -/
def Rebuilt.visible (r : Rebuilt) (c : Nat) : Nat := kvGet (seqBefore (r.corr c).nextSeq) r.vis c

/-- The advances of a torn start (R113); what is visible stays. -/
def Rebuilt.torn (r : Rebuilt) : Rebuilt :=
  (List.range 4096).foldl (fun a c =>
    { (a.modCorr c (fun x => { x with nextSeq := seqPlus x.nextSeq 131072 })) with vis := kvPut a.vis c (r.visible c) })
    { r with ordinal := mask48 (r.ordinal + 2048) }

/-- Records of a correspondent up to number q have become visible, the last one being of decision o; `v` when that decision is
fully visible. Every earlier decision then is (R83, R92). -/
def Rebuilt.shown (r : Rebuilt) (c q o : Nat) (v : Bool) : Rebuilt :=
  let r1 := r.modCorr c (fun x =>
    { x with nextSeq := seqNext q, lastVisible := max x.lastVisible (if v then o else o - 1) })
  { r1 with vis := kvDel r1.vis c }

/-- A batch or a send tells the EVICTED record when its last record is one of the last decision given up, and it reaches the
number of that record or follows a cold start. -/
def Rebuilt.evictShown (r : Rebuilt) (c q o : Nat) (v : Bool) : Rebuilt :=
  { r with evicts := r.evicts.map (fun e =>
      if e.corr == c && e.told.isNone && v && e.last == o && (e.later || e.seq == q) then { e with told := some q } else e) }

/-- The EVICTED record of a correspondent is freed by an acknowledgement that covers it, or with its batch; the correspondent
is then free (R522, R526). -/
def Rebuilt.evictFreed (r : Rebuilt) (c : Nat) (covers : Nat → Bool) : Rebuilt :=
  if (r.corr c).state = 3 && r.evicts.any (fun e => e.corr == c && e.told.any covers) then
    r.modCorr c (fun x => { x with state := 0 })
  else r

/-- A decision is noted. -/
def Rebuilt.note (r : Rebuilt) (d : JDec) : Rebuilt :=
  let r1 := { r with decs := r.decs ++ [d], ordinal := max r.ordinal d.ordinal }
  if d.lane = 0xFF then r1 else { r1 with lanes := kvPut r1.lanes d.lane (d.frame, d.ordinal) }

/-- Apply one entry; `post` when it follows the checkpoint in force. An older one only tells of decisions that may still be
open. -/
def Rebuilt.apply (post : Bool) (r : Rebuilt) (e : JEntry) : Rebuilt :=
  match e.body with
  | .accept _ o p l _ _ f => r.note { ordinal := o, lane := l, frame := f, period := p, reason := 0 }
  | .refuse o p l re f => r.note { ordinal := o, lane := l, frame := f, period := p, reason := re }
  | .job rf o p _ re _ c code =>
    r.note { ordinal := o, lane := 0xFF, frame := 0, period := p, reason := if rf then re else 0, corr := some c, code := code }
  | .ended o _ n st => { r with ends := kvPut r.ends o (n, st) }
  | .returned _ _ _ _ => r
  | .intent g ep c s0 n n0 n1 =>
    let r1 := { r with intents := kvPut r.intents g (c, s0, n, n0, n1) }
    if post then { r1 with rings := kvMod (0, 0, 0) r1.rings g (fun x => (ep, x.2.1, x.2.2)) } else r1
  | .complete v g _ c q n1 o =>
    let r1 := { r with intents := kvDel r.intents g }.evictShown c q o v
    if post then
      { ((r1.shown c q o v).evictFreed c (fun _ => true)) with rings := kvMod (0, 0, 0) r1.rings g (fun x => (x.1, n1, x.2.2)) }
    else r1
  | .sent v _ _ c s0 n o =>
    let q := seqPlus s0 (n - 1)
    let r1 := { r with sents := ⟨c, s0, n, o⟩ :: r.sents }.evictShown c q o v
    if post then r1.shown c q o v else r1
  | .acked c q =>
    if post then (r.modCorr c (fun x => { x with acked := q })).evictFreed c (fun k => !seqAhead q k) else r
  | .subscribe o c t a l m =>
    let r1 := { r with subs := ⟨c, o, l, a⟩ :: r.subs }
    if post then r1.modCorr c (fun x => { x with tenant := t, lanes := l, symMask := m, state := if a = 3 then 0 else max 1 (x.state % 3) })
    else r1
  | .stall o c st =>
    let r1 := { r with stalls := (c, o, st) :: r.stalls }
    if post then r1.modCorr c (fun x => { x with state := if st = 1 then 2 else if x.state = 2 then 1 else x.state }) else r1
  | .evict o c _ q n =>
    let r1 := { r with subs := ⟨c, o + 1, 0, 3⟩ :: r.subs,
                       evicts := { corr := c, last := o, seq := q, count := n, ended := r.ends.map Prod.fst } :: r.evicts }
    if post then r1.modCorr c (fun x => { x with lanes := 0, state := 3 }) else r1
  | .settings c k rt q cap rs st jc =>
    if post then
      r.modCorr c (fun x =>
        { x with kind := k, route := rt, quota := q, noticeCap := cap, resume := rs, stallTimeout := st, jxCode := jc })
    else r
  | .fence u ep => if post then { r with units := kvSet 0 r.units u ep } else r
  | .arm g ep _ => if post then { r with rings := kvMod (0, 0, 0) r.rings g (fun x => (ep, x.2.1, x.2.2)) } else r
  | .checkpoint _ _ _ => r
  | .seal _ _ _ _ => r
  | .boot k _ _ =>
    let r1 := if k = 3 then r else
      { r with intents := [], evicts := r.evicts.map (fun e => { e with later := true }) }
    if post && k == 2 then r1.torn else r1

/-- What the checkpoint in force and the log give. -/
def JView.rebuilt (v : JView) : Rebuilt :=
  let base : Rebuilt := match v.ck with
    | some c => { ordinal := c.2.ordinal, corrs := c.2.corrs, rings := c.2.rings, lanes := c.2.lanes, units := c.2.units }
    | none => {}
  v.entries.foldl (Rebuilt.apply true) (v.older.foldl (Rebuilt.apply false) base)

/-! ### The batches in flight (R106) -/

/-- Resolve the open INTENT entries: a batch whose producer index reads back as N1 is complete; any other is voided. INTENT
does not name the decision of its last record: the COMPLETE entry repeats the last fully visible one, with FLAGS[0] at 0.
DESIGN CHOICE, log entry 114. -/
def Rebuilt.resolve (r : Rebuilt) (prods : List (Nat × Nat)) : Rebuilt × List (Nat × Nat × Nat × Nat × Nat × Nat) × Nat :=
  r.intents.foldl (fun (a : Rebuilt × List (Nat × Nat × Nat × Nat × Nat × Nat) × Nat) e =>
    let c := e.2.1
    let s0 := e.2.2.1
    let n := e.2.2.2.1
    let n1 := e.2.2.2.2.2
    if prods.any (fun p => p.1 == e.1 && p.2 == n1) then
      let told := a.1.evicts.map (fun x =>
        if x.corr == c && x.told.isNone && x.seq == seqPlus s0 (n - 1) then { x with told := some x.seq } else x)
      ({ ({ (a.1.modCorr c (fun x => { x with nextSeq := seqPlus s0 n })) with evicts := told }.evictFreed c (fun _ => true))
           with rings := kvMod (0, 0, 0) a.1.rings e.1 (fun x => (x.1, n1, x.2.2)) },
       a.2.1 ++ [(e.1, c, seqPlus s0 (n - 1), n1, (a.1.corr c).lastVisible, 0)], a.2.2)
    else (a.1.modCorr c (fun x => { x with nextSeq := s0 }), a.2.1, a.2.2 + 1)) (r, [], 0)

/-! ### Accounting (R111, R112) -/

/-- The lane mask of a correspondent at a Door ordinal: that of the last change which names this decision or an earlier one.
Before the first change that the log holds it is 0 where that change subscribes a free correspondent, and else the mask of
the checkpoint (R70, R121). -/
def Rebuilt.lanesAt (r : Rebuilt) (base : Kv CkCorr) (c o : Nat) : Nat :=
  let l := r.subs.filter (fun e => e.corr == c)
  match l.find? (fun e => decide (e.from_ ≤ o)), l.getLast? with
  | some e, _ => e.lanes
  | none, some e => if e.action = 1 then 0 else (kvGet ckFree base c).lanes
  | none, none => (kvGet ckFree base c).lanes

/-- A correspondent is entitled to a decision (R70). -/
def Rebuilt.entitled (r : Rebuilt) (base : Kv CkCorr) (c : Nat) (d : JDec) : Bool :=
  match d.corr with
  | some k => k == c
  | none => (r.lanesAt base c d.ordinal).testBit d.lane

/-- It had a STALL notice for the decision: by the last change that names this decision or an earlier one, else by the opposite
of the first change, else by the checkpoint (R71, R121). -/
def Rebuilt.wasStalled (r : Rebuilt) (base : Kv CkCorr) (c : Nat) (d : JDec) : Bool :=
  let l := r.stalls.filter (fun e => e.1 == c)
  match l.find? (fun e => decide (e.2.1 ≤ d.ordinal)), l.getLast? with
  | some e, _ => e.2.2 == 1
  | none, some e => e.2.2 == 0
  | none, none => (kvGet ckFree base c).state == 2

/-- The decision has no record of a Billet for the correspondent: a gap notice stands for it (R45, R71, R72). -/
def Rebuilt.isGap (r : Rebuilt) (base : Kv CkCorr) (c : Nat) (d : JDec) : Bool :=
  d.reason != 0 || (d.corr.isNone && r.wasStalled base c d)

/-- What a decision is owed as after a power loss: its gap notice rebuilt, or one DATA_LOST terminal record. -/
def Rebuilt.owed (r : Rebuilt) (base : Kv CkCorr) (c stamp : Nat) (d : JDec) : Owed :=
  let o : Owed := { ordinal := d.ordinal, lane := d.lane, frame := d.frame, reason := 0, period := d.period, stamp := stamp,
                    jobCode := d.code }
  if d.reason != 0 then { o with reason := d.reason }
  else if d.corr.isNone && r.wasStalled base c d then { o with reason := 3 }
  else
    let e := kvGet (0, 0) r.ends d.ordinal
    let x : EndSeen := { symbols := e.1, stripes := e.2 }
    { o with recs := [if d.corr.isSome then lostJobRec o x else lostRec o x] }

/-- One owed decision is noted at the end of a correspondent's list; the frame-start stamp is lost with the power, and reads a
free value. -/
def State.accountOne (s : State) (r : Rebuilt) (base : Kv CkCorr) (c : Nat) (d : JDec) : State :=
  let f := s.free 64
  let o := r.owed base c f.2 d
  let s1 := f.1.owe c o
  if o.reason = 0 then (s1.bumpSat Rg.jnlGbDataLost).raiseCnt 64 132 0 c else s1

/-- The OUTAGE notice of one lane (R112). -/
def State.accountOutage (s : State) (r : Rebuilt) (c n : Nat) : State :=
  let l := kvGet (0, 0) r.lanes n
  let f := s.free 64
  f.1.modCorr c (fun x => { x with owed := x.owed ++ [{ ordinal := l.2, lane := n, frame := l.1, reason := 8, count := 0,
                                                        period := f.1.period, stamp := f.2 }] })

/-- What the records of a SENT entry were, the last one first: that one is of the decision the entry names, and those before it
go back over the decisions owed. A notice is one record; the first Billet that is met takes all that are left, since the log
does not tell how many records it had. DEDUCED, log entry 114. -/
def Rebuilt.sentBack (r : Rebuilt) (base : Kv CkCorr) (c : Nat) : Nat → List JDec → List (Option JDec)
  | 0, _ => []
  | n + 1, [] => List.replicate (n + 1) none
  | n + 1, d :: ds => if r.isGap base c d then some d :: r.sentBack base c n ds else List.replicate (n + 1) (some d)

/-- A record that was sent and not acknowledged is sent again under its own number: a notice as the journal gives it, and any
other as a DATA_LOST record, which is counted (R111, R123, R125). -/
def State.accountResend (s : State) (r : Rebuilt) (base : Kv CkCorr) (c q : Nat) (d : Option JDec) : State :=
  let f := s.free 64
  match d with
  | some d =>
    let o := r.owed base c f.2 d
    let x := if o.reason != 0 then gapRec o else o.recs.headD (lostRec o {})
    let s1 := f.1.modCorr c (fun y => { y with sent := y.sent ++ [{ x with seq := q }] })
    if o.reason != 0 then s1 else (s1.bumpSat Rg.jnlGbDataLost).raiseCnt 64 132 0 c
  | none =>
    let o : Owed := { ordinal := 0, lane := 0xFF, frame := 0, reason := 0, period := 0, stamp := f.2 }
    let s1 := f.1.modCorr c (fun y => { y with sent := y.sent ++ [{ lostRec o {} with seq := q }] })
    (s1.bumpSat Rg.jnlGbDataLost).raiseCnt 64 132 0 c

/-- The records of one SENT entry that are not acknowledged. The EVICTED record comes back as the journal gives it. -/
def State.accountSent (s : State) (r : Rebuilt) (base : Kv CkCorr) (c : Nat) (e : SentSeen) : State :=
  let ds := (r.decs.filter (fun d => decide (d.ordinal ≤ e.ordinal) && r.entitled base c d)).reverse
  let ev := r.evicts.find? (fun x => x.corr == c && x.told == some (seqPlus e.s0 (e.count - 1)))
  let what := match ev with
    | some _ => none :: r.sentBack base c (e.count - 1) ds
    | none => r.sentBack base c e.count ds
  s.each ((List.range e.count).zip what.reverse) (fun st x =>
    let q := seqPlus e.s0 x.1
    if !seqAhead (r.corr c).acked q then st
    else match ev with
      | some v =>
        if x.1 + 1 = e.count then
          let o : Owed := { ordinal := v.last, lane := 0xFF, frame := 0, reason := 9, count := v.count, period := st.period,
                            stamp := st.now }
          st.modCorr c (fun y => { y with sent := y.sent ++ [{ evictedRec o with seq := q }] })
        else st.accountResend r base c q x.2
      | none => st.accountResend r base c q x.2)

/-- The decisions at the head of a list whose records an eviction found released: notices, and Billets that had ended. -/
def Rebuilt.released (r : Rebuilt) (base : Kv CkCorr) (e : EvictSeen) (ds : List JDec) : List JDec :=
  ds.takeWhile (fun d => r.isGap base e.corr d || e.ended.contains d.ordinal)

/-- An eviction whose EVICTED record was not visible yet: what had been released is accounted for, and the EVICTED record
follows with the next number (R86, R99, R120). -/
def State.accountEvicted (s : State) (r : Rebuilt) (base : Kv CkCorr) (e : EvictSeen) (ds : List JDec) : State × Nat :=
  let rel := r.released base e (ds.filter (fun d => decide (d.ordinal ≤ e.last)))
  let s1 := s.each rel (fun st d => st.accountOne r base e.corr d)
  (s1.modCorr e.corr (fun x => { x with owed := x.owed ++ [{ ordinal := e.last, lane := 0xFF, frame := 0, reason := 9,
                                                             count := e.count, period := s1.period, stamp := s1.now }] }),
   rel.length + 1)

/-- The accounting of one correspondent, and how many records it takes. -/
def State.account (s : State) (r : Rebuilt) (base : Kv CkCorr) (c : Nat) : State × Nat :=
  let all := r.decs.filter (fun d => decide ((r.corr c).lastVisible < d.ordinal) && r.entitled base c d)
  let k := (r.corr c).kind
  let s0 := if k = 2 ∨ k = 3 then s.each (r.sents.filter (fun e => e.corr == c)).reverse (fun st e => st.accountSent r base c e)
    else s
  let ev := r.evicts.find? (fun e => e.corr == c)
  let s1 := match ev with
    | some e => if e.told.isNone then s0.accountEvicted r base e all else (s0, 0)
    | none => (s0, 0)
  let ds := all.filter (fun d => ev.all (fun e => decide (e.last < d.ordinal)))
  let s2 := s1.1.each ds (fun st d => st.accountOne r base c d)
  let ls := maskBits 64 (r.corr c).lanes
  let s3 := s2.each ls (fun st n => st.accountOutage r c n)
  (s3.gbSync c, s1.2 + ds.length + ls.length)

/-- The state of a correspondent after a cold start: evicted only while its EVICTED record is still to be told or
acknowledged (R526). -/
def Rebuilt.stateOf (r : Rebuilt) (c : Nat) : Nat :=
  let x := r.corr c
  if x.state = 3 && !(r.evicts.any (fun e => e.corr == c &&
      (e.told.isNone || ((x.kind == 2 || x.kind == 3) && e.told.any (fun q => seqAhead x.acked q))))) then 0
  else x.state

/-- One correspondent as the journal gives it (R109, R110). -/
def State.corrRestore (s : State) (r : Rebuilt) (c : Nat) (x : CkCorr) (resync : Bool) : State :=
  let s1 := ((((s.wr Rg.corrKind x.kind c).wr Rg.corrRoute x.route c).wr Rg.corrTenant x.tenant c).wr Rg.corrLanes x.lanes c).wr
    Rg.corrSymMask x.symMask c
  let s2 := ((((s1.wr Rg.corrQuota x.quota c).wr Rg.corrNoticeCap x.noticeCap c).wr Rg.corrResume x.resume c).wr
    Rg.corrStallTimeout x.stallTimeout c).wr Rg.corrJxCode x.jxCode c
  let s3 := ((s2.wr Rg.gbNextSeq x.nextSeq c).wr Rg.gbVisibleSeq (r.visible c) c).wr Rg.gbState (r.stateOf c) c
  let s4 := s3.wr Rg.corrStalled (b2n (x.state == 2)) c
  s4.modCorr c (fun _ =>
    { tenant := x.tenant, kind := x.kind, route := x.route, lanes := x.lanes, symMask := x.symMask, quota := x.quota,
      noticeCap := x.noticeCap, jxCode := x.jxCode, lastVisible := x.lastVisible, acked := x.acked, resync := resync,
      stallSince := if x.state = 2 then some s.now else none })

/-- Rings, lanes and units as the journal gives them (R95, R103, R726). -/
def State.otherRestore (s : State) (r : Rebuilt) : State :=
  let s1 := s.each r.rings (fun st e => ((st.wr Rg.ringEpoch e.2.1 e.1).wr Rg.ringProd e.2.2.1 e.1).wr Rg.ringCons e.2.2.2 e.1)
  let s2 := s1.each r.lanes (fun st e =>
    (st.wr Rg.lnFrameNum e.2.1 e.1).modLane e.1 (fun l => { l with decided := true, lastOrdinal := e.2.2 }))
  let s3 := s2.each r.units (fun st e => st.setEpoch e.1 e.2)
  s3.wr Rg.jnlDoorOrdinal r.ordinal

/-! ### The end of replay -/

/-- The log positions after the stop are made free, and new entries continue there (R93). -/
def State.logFreed (s : State) (v : JView) : State :=
  let gone : Nat → Bool := fun p => decide ((p + logSize - v.stop.pos) % logSize ≤ 2048)
  { s with jnl := { s.jnl with log := kvKeep (fun p => !gone p) s.jnl.log, tail := v.stop.pos } }

/-- The checkpoint in force is known again. -/
def State.ckptRestore (s : State) (v : JView) : State :=
  match v.ck with
  | some c => { s.wr Rg.jnlCkptSlot c.1 with jnl := { s.jnl with ckptSerial := c.2.serial, ckptNext := c.2.next } }
  | none => s

/-- What failed its CRC is reported (R85). -/
def State.crcReport (s : State) (v : JView) : State := s.each v.failed (fun st e => st.raise 130 e.1 e.2)

/-- The staging buffer drains into the log. -/
def State.drainStaging (s : State) : State := s.each s.jnl.staging (fun st _ => st.writeback)

/-- BOOT is appended, which counts one boot, and replay ends (R105, R772, R825). -/
def State.bootEntry (s : State) (kind issued : Nat) : State :=
  let n := (s.rd Rg.bootCount + 1) % 2 ^ 32
  let s1 := (s.appendOwn (.boot kind issued n)).writeback
  let s2 := (((s1.wr Rg.bootCount n).wr Rg.jxBoot n).wr Rg.jnlReplay 0).wr Rg.jnlBootKind kind
  let s3 := ({ s2 with jnl := { s2.jnl with bellsSince := 0 } }).writeHeader
  let s4 := s3.raise 128 0 issued
  if s4.jnl.ckptDue || (kind == 3 && s4.on Rg.jnlTorn) then s4.ckptStart else s4

/-- A start on an empty journal (R113). -/
def State.replayEmpty (s : State) : State :=
  let corrField : Nat → Bool := fun k =>
    [Rg.gbNextSeq, Rg.gbVisibleSeq, Rg.gbHeld, Rg.gbBlocker, Rg.gbState, Rg.corrPending, Rg.corrKind, Rg.corrRoute,
     Rg.corrTenant, Rg.corrSuspended, Rg.corrStalled, Rg.corrLanes, Rg.corrSymMask, Rg.corrNoticeCap, Rg.corrQuota,
     Rg.corrResume, Rg.corrStallTimeout, Rg.corrJxCode, Rg.corrUsed, Rg.corrNotices, Rg.corrStallMs, Rg.ringArm, Rg.ringArmed,
     Rg.ringEpoch, Rg.ringProd, Rg.ringCons, Rg.lnFrameNum].any (fun f => f.hasKey k)
  let s1 := { s with corrs := [], batches := [], billets := s.billets.filter (fun _ => false), rings := [],
                     regs := s.regs.filter (fun e => !corrField e.1),
                     lanes := s.lanes.map (fun (e : Nat × LaneSt) => (e.1, { e.2 with decided := false, lastOrdinal := 0 })),
                     jnl := { requests := s.jnl.requests, lastAppend := s.jnl.lastAppend } }
  let s2 := (((s1.wr Rg.jnlSerial 0).wr Rg.jnlDoorOrdinal 0).wr Rg.jnlCkptSlot 0).wr Rg.bootCount 0
  let s3 := (((s2.wr Rg.thConsoleAuto 1).wr Rg.jnlTorn 0).wr Rg.jnlPfFlushUs 0).appendAll s2.jnl.requests.length
  s3.drainStaging.bootEntry 4 0

/-- A warm start: Hearth kept everything, and the log is only checked. The positions after the stop are made free, and new
entries continue there with the serial after the last one applied. A batch in flight waits for the next arm of its ring (R93, R106, R107, R113, R550). -/
def State.replayWarm (s : State) : State :=
  let s0 := (s.appendAll s.jnl.requests.length).drainStaging
  let v := s0.jview
  if s0.boot.erased || v.empty then (s0.crcReport v).replayEmpty
  else
    let sL := (s0.crcReport v).logFreed v
    let sN := if v.ck.isSome || !v.entries.isEmpty then sL.wr Rg.jnlSerial v.stop.serial else sL
    let s1 := sN.wr Rg.jnlTorn (b2n (!v.failed.isEmpty))
    let s2 := if v.failed.isEmpty then s1 else s1.raise 129 0 0
    s2.bootEntry 3 0

/-- The flush time of the last SEAL entry. -/
def flushOf (l : List JEntry) : Nat :=
  l.foldl (fun a e => match e.body with
    | .seal _ _ _ f => f
    | _ => a) 0

/-- The last SEAL or BOOT entry is the SEAL entry of PWR_FAIL: the stop was never told. -/
def pwrFailSeal (l : List JEntry) : Bool :=
  l.foldl (fun a e => match e.body with
    | .seal c _ _ _ => c == 1
    | .boot _ _ _ => false
    | _ => a) false

/-- The event of a power failure or a trip is delivered at the next start (R125, R699). -/
def State.stopTold (s : State) (afterSeal : Bool) : State :=
  if !s.power.tripTold then { s with power := { s.power with tripTold := true } }.raise 993 0 0
  else if afterSeal then s.raise 131 0 0 else s

/-- A cold start: what the journal holds is rebuilt, and what was open is accounted for (R109 to R113). -/
def State.replayCold (s : State) (prods : List (Nat × Nat)) : State :=
  let v := s.jview
  let s0 := s.crcReport v
  if v.empty then (s0.stopTold false).replayEmpty
  else
    let good := v.sealed
    let r0 := v.rebuilt
    let x := r0.resolve prods
    let r := if good then x.1 else x.1.torn
    let base : Kv CkCorr := match v.ck with
      | some c => c.2.corrs
      | none => []
    let s1 := ((s0.stopTold (pwrFailSeal v.entries)).logFreed v).ckptRestore v
    let s2 := (((s1.wr Rg.jnlSerial v.stop.serial).wr Rg.bootCount v.bootCount).wr Rg.thConsoleAuto v.consoleAuto).wr
      Rg.jnlPfFlushUs (flushOf (v.older ++ v.entries))
    let s3 := if good then s2.wr Rg.jnlTorn 0 else (s2.wr Rg.jnlTorn 1).raise 129 0 0
    let s4 := s3.each x.2.1 (fun st e => st.appendOwn (.complete false e.1 (kvGet (0, 0, 0) r.rings e.1).1 e.2.1 e.2.2.1 e.2.2.2.1 e.2.2.2.2.1))
    let s5 := (s4.addSat Rg.jnlGbVoided x.2.2).each (List.range x.2.2) (fun st i => st.raise 134 ((r0.intents.map Prod.fst).getD i 0) 1)
    let s6 := s5.each r.corrs (fun st e => st.corrRestore r e.1 e.2 (!good))
    let s7 := s6.otherRestore r
    let f := r.corrs.foldl (fun (a : State × Nat) e =>
      let y := a.1.account r base e.1
      (y.1, a.2 + y.2)) (s7, 0)
    f.1.drainStaging.bootEntry (if good then 1 else 2) f.2

/-- REPLAY_END: replay has read the journal; `prods` are the producer indices read back from host memory, by ring. -/
def State.replayEnd (s : State) (prods : List (Nat × Nat)) : State :=
  if s.rd Rg.bootPhase != 7 || s.boot.held then s
  else
    let s1 := if s.boot.warm then s.replayWarm else s.replayCold prods
    { s1.wr Rg.bootPhase 8 with boot := { s1.boot with erased := false } }

def doReplayEnd (prods : List (RingId × Word)) (s : State) : State :=
  s.replayEnd (prods.map (fun p => (p.1.val, p.2.toNat)))

end Sys2Proof.Machine
end

