-- ==== Sys2Proof/Machine/Startup.lean ====
section
/-! DEFINITION. Starts and resets of the engine: what each keeps, the phases, and READY (R751 to R759, R760, R765 to R773, R778 to
R781, R789). -/
namespace Sys2Proof.Machine

/-- The engine is powered, out of power-on reset, and RESET_N is high. -/
def State.lit (s : State) : Bool := s.boot.vin && !s.boot.por && !s.boot.held

/-! ### The cold start -/

/-- Fields that outlast a loss of power: the fuses, the state of the I/O supplies, and TRIP, which reads 1 until it is
written. -/
def coldKept : List Fld :=
  [Rg.bootMinSvn, Rg.bootRevoked, Rg.supplyVioHOk, Rg.supplyVioPOk, Rg.supplyVioH3v3, Rg.supplyVioP3v3, Rg.wakeTrip]

/-- Everything but the journal memory, the boot flash and the fuses is lost, and power-on reset begins. What has left the
engine, and the commands that wait, are no part of it. -/
def State.coldBegin (s : State) (cause : Nat) (vin held : Bool) : State :=
  let kept : State :=
    { now := 0, freeCount := s.freeCount, pending := s.pending, hostWrites := s.hostWrites, netOut := s.netOut,
      regs := s.regs.filter (fun e => coldKept.any (fun f => f.hasKey e.1)),
      evt := { msixSent := s.evt.msixSent },
      jnl := { log := s.jnl.log, header := s.jnl.header, slotA := s.jnl.slotA, slotB := s.jnl.slotB },
      thotor := { store := s.thotor.store, turnedAway := s.thotor.turnedAway, storeTorn := s.thotor.storeTorn ||
                    s.thotor.storing },
      power := { tripTold := s.power.tripTold },
      flash := { done := s.flash.done },
      boot := { vin := vin, por := true, held := held } }
  (kept.wr Rg.bootCause cause).wr Rg.pwPadHeld 31

/-- Every domain is DOWN, and the BOOT vote calls for all (R759). -/
def State.domainsDown (s : State) : State :=
  s.each (List.range 6) (fun st d => (st.wr Rg.rollState 3 d).wr Rg.rollInternal (st.rd Rg.rollInternal d ||| 1) d)

/-- VIN_VALID: VIN has stayed above 2.45 V for 1 ms. An engine sealed by PWR_FAIL starts when VIN returns (R117, R789). -/
def State.vinValid (s : State) : State :=
  if !s.boot.vin then s.coldBegin 0 true false
  else if s.powerFail == .sealed && s.power.tripTold then s.coldBegin 0 true s.boot.held
  else s

def doVinValid (s : State) : State := s.vinValid

/-- VIN_INVALID: VIN has fallen below 2.30 V. -/
def doVinInvalid (s : State) : State := s.coldBegin 0 false s.boot.held

/-- POWER_ON_RESET_END: the straps are sampled, and the timebase starts at 0 (R760). -/
def State.porEnd (s : State) (straps : Nat) : State :=
  if !s.boot.vin || !s.boot.por || s.boot.held then s
  else
    let s1 := ((s.domainsDown.wr Rg.bootMode straps).wr Rg.bootPhase 1).wr Rg.pwPadHeld 31
    { s1 with now := 0, boot := { s1.boot with por := false, since := 0 } }

def doPowerOnResetEnd (straps : Fin 4) (s : State) : State := s.porEnd straps.val

/-- A phase is in force and time runs. -/
def State.inPhase (s : State) (p : Nat) : Bool := s.lit && !s.on Rg.bootReady && s.rd Rg.bootPhase == p && s.powerFail == .off

/-- HEADER_READ_DONE. -/
def doHeaderReadDone (s : State) : State := if s.inPhase 1 then s.wr Rg.bootPhase 2 else s

/-- DRAM_TRAINING_DONE: the domains of a cold start rise; at a warm start DRAM has left self-refresh. -/
def State.dramReady (s : State) : State :=
  if s.boot.selfRefresh && s.lit then { s with boot := { s.boot with selfRefresh := false } }
  else if s.inPhase 2 then
    { s.wr Rg.bootPhase 3 with boot := { s.boot with domainsRise := true, coldRise := true } }
  else s

def doDramTrainingDone (s : State) : State := s.dramReady

/-! ### The image -/

/-- Fatal: phase 11. -/
def State.bootFatalNow (s : State) : State := (s.wr Rg.bootPhase 11).wr Rg.bootFatal 1

/-- No image passes and the mode allows no push: each UART says so (R767). -/
def State.bootFail (s : State) : State :=
  let t : Text := "!BOOTFAIL ".toList ++ dec (s.rd Rg.bootCauseA) ++ ' ' :: dec (s.rd Rg.bootCauseB)
  s.bootFatalNow.each [0, 1] (fun st n => st.unsolicited n t)

/-- The start waits for a pushed image, after the DRAM part of the memory self-test (R769). -/
def State.pushWait (s : State) : State :=
  if s.boot.dramDone || s.boot.warm then s.wr Rg.bootPhase 9
  else { s.wr Rg.bootPhase 6 with boot := { s.boot with dramOnly := true, tested := false } }

/-- Phase 4, or what the straps have in its place (R760, R773). -/
def State.loadBegin (s : State) : State :=
  let s1 := ((s.wr Rg.bootCauseA 7).wr Rg.bootCauseB 7).wr Rg.bootFallback 0
  let s2 := { s1.wr Rg.bootFatal 0 with boot := { s1.boot with second := false, pushed := false, loaded := false, tested := false } }
  let mode := s.rd Rg.bootMode
  if mode = 1 then s2.pushWait
  else if mode = 3 then
    ((s2.each (List.range 6) (fun st d => st.wr Rg.rollInternal (st.rd Rg.rollInternal d ||| 64) d)).wr Rg.bootPhase 10)
  else s2.wr Rg.bootPhase 4

/-- IMAGE_LOAD_DONE: an image has been read from a slot; `prefer` is PREFER of the flash directory (R762, R766). -/
def State.imageLoaded (s : State) (prefer : Nat) : State :=
  if !s.inPhase 4 then s
  else
    let slot := if s.boot.second then 1 - s.boot.slot else prefer
    { s.wr Rg.bootPhase 5 with boot := { s.boot with slot := slot, loaded := true } }

def doImageLoadDone (prefer : Fin 2) (s : State) : State := s.imageLoaded prefer.val

/-- The memory self-test begins; the domains of a warm start rise with it. -/
def State.testBegin (s : State) : State :=
  let s1 := { s.wr Rg.bootPhase 6 with boot := { s.boot with tested := false, dramOnly := false, domainsRise := true } }
  s1

/-- The cause of a slot. -/
def State.slotCause (s : State) (slot c : Nat) : State := if slot = 0 then s.wr Rg.bootCauseA c else s.wr Rg.bootCauseB c

/-- The engine runs an image. -/
def State.imageTaken (s : State) (slot : Nat) (x : ImageSeen) : State :=
  ((s.wr Rg.hearthSlot slot).wr Rg.bootVersion x.version.toNat).testBegin

/-- IMAGE_CHECK_DONE (R765 to R769). -/
def State.imageChecked (s : State) (x : ImageSeen) : State :=
  if !s.inPhase 5 then s
  else
    let c := s.imageCause x
    let b := s.boot
    if b.pushed then
      (if c = 0 then ({ s.wr Rg.bootPushCause 0 with boot := { b with pushed := false } }).imageTaken 1 x
       else { (s.wr Rg.bootPushCause c).wr Rg.bootPhase 9 with boot := { b with pushed := false } })
    else if b.warm && !b.loaded then (if c = 0 then s.testBegin else s.loadBegin)
    else
      let s1 := s.slotCause b.slot c
      if c = 0 then s1.imageTaken b.slot x
      else if !b.second then
        let s2 := (s1.wr Rg.bootFallback 1).raise 43 b.slot c
        { s2.wr Rg.bootPhase 4 with boot := { s2.boot with second := true } }
      else if s.rd Rg.bootMode = 2 then s1.pushWait
      else s1.bootFail

def doImageCheckDone (x : ImageSeen) (s : State) : State := s.imageChecked x

/-- PUSH_GO: a write of 1 in phase 9 (R769). -/
def State.pushGo (s : State) : State :=
  if s.inPhase 9 then { s.wr Rg.bootPhase 5 with boot := { s.boot with pushed := true } } else s

def doPushGo (m : MasterId) (s : State) : State := s.withRight m.val 0xB0 .run State.pushGo

/-! ### The memory self-test (R770, R771, R777) -/

/-- The bits of BIST_FAIL, of the memories of a mask. -/
def SelfTest.fails (x : SelfTest) (mask : Nat) : Nat :=
  mask &&& (b2n (!x.pages.isEmpty || x.line) + 2 * b2n x.context + 4 * b2n (x.anvils != 0) + 8 * b2n x.saveRam +
    16 * b2n x.profile + 32 * b2n x.code)

/-- Memories that the self-test of a start tests. -/
def State.testMask (s : State) : Nat :=
  if s.boot.dramOnly then 1 else if s.boot.warm then 0x26 else if s.boot.dramDone then 0x3E else 0x3F

/-- A page is retired. -/
def State.retire (s : State) (p : Nat) : State :=
  if s.power.retired.contains p then s
  else { s.wr Rg.dramRetired (s.power.retired.length + 1) with power := { s.power with retired := p :: s.power.retired } }

/-- What a failed memory comes to. -/
def State.testFailed (s : State) (x : SelfTest) (f : Nat) : State :=
  let s1 := if f.testBit 0 then s.each (x.pages.map BitVec.toNat) State.retire else s
  let s2 := if f.testBit 2 then s1.each (maskBits 8 x.anvils.toNat) (fun st a =>
      (st.modAnvil a (fun y => { y with condemned := true, testing := false })).setUnit a 1) else s1
  let s3 := if f.testBit 1 || f.testBit 4 then { s2 with boot := { s2.boot with failedDomains := [0] } } else s2
  if f.testBit 3 then s3.each (List.range 6) (fun st d => st.wr Rg.rollSaveValid 0 d) else s3

/-- The start goes to phase 11 (R771). -/
def State.testFatal (s : State) (x : SelfTest) (f : Nat) : Bool :=
  (f.testBit 0 && (x.line || decide (1024 < s.power.retired.length))) || f.testBit 5

/-- MEMORY_SELF_TEST_DONE. -/
def State.testDone (s : State) (x : SelfTest) : State :=
  match s.boot.mbist with
  | some mask => { s.wr Rg.bootBistFail (x.fails mask) with boot := { s.boot with mbist := none } }
  | none =>
    if !s.inPhase 6 || s.boot.tested then s
    else
      let f := x.fails s.testMask
      let s1 := (s.wr Rg.bootBistFail (s.rd Rg.bootBistFail ||| f)).testFailed x f
      let b := s1.boot
      if s1.testFatal x f then s1.bootFatalNow
      else
        let s2 := if f = 0 then s1 else (s1.wr Rg.bootDegraded 1).raise 44 f 0
        if b.dramOnly then { s2.wr Rg.bootPhase 9 with boot := { b with dramOnly := false, dramDone := true } }
        else { s2 with boot := { b with tested := true } }

def doMemorySelfTestDone (x : SelfTest) (s : State) : State := s.testDone x

/-- Every domain has risen. -/
def State.allUp (s : State) : Bool := (List.range 6).all s.domainUp

/-- A phase whose conditions hold ends: phase 3 when the domains are UP, phase 6 when the test has ended as well. -/
def State.startPump (s : State) : State :=
  if s.inPhase 3 && s.allUp then { s with boot := { s.boot with coldRise := false } }.loadBegin
  else if s.inPhase 6 && s.boot.tested && s.allUp && !s.boot.selfRefresh then (s.wr Rg.bootPhase 7).wr Rg.jnlReplay 1
  else s

/-! ### READY (R756, R758, R759, R772) -/

/-- Messages that wait for READY go (R717, R758). -/
def State.msixReady (s : State) : State := s.each s.evt.msixPending.reverse (fun st v => if st.msixCanGo v then st.sendVector v else st)

/-- READY: the Registrar reports ready. -/
def State.readyNow (s : State) : State :=
  if !s.inPhase 8 then s
  else
    let s1 := (s.wr Rg.bootReady 1).wr Rg.bootTimeUs ((s.now - s.boot.since) / 250)
    let s2 := { s1 with boot := { s1.boot with awaitBell := true, readyAt := some s.now }, acc := {} }
    let s3 := s2.each (maskBits 5 s.boot.pads) State.releaseBank
    let n := s3.rd Rg.bootCount
    let s4 := s3.raise 42 (s3.rd Rg.bootCause) n
    let s5 := if s4.thotor.storeTorn then ({ s4 with thotor := { s4.thotor with storeTorn := false } }).raise 47 0 0 else s4
    let s6 := s5.each [0, 1] (fun st i => ((st.wr Rg.sesState 1 i).unsolicited i
      ("!READY ".toList ++ dec n)).flowCheck i)
    (s6.consoleLogin.msixReady).ringsReturn

def doReady (s : State) : State := s.readyNow

/-- BOOT_HOLD in ticks; 0 is taken as 1 ms. -/
def State.bootHoldTicks (s : State) : Nat := msTicks (max 1 (s.rd Rg.bootHold))

/-- BOOT_HOLD_EXPIRY: the BOOT vote is withdrawn (R759). -/
def State.bootHoldEnd (s : State) : State :=
  match s.boot.readyAt with
  | none => s
  | some t =>
    if !s.on Rg.bootReady then s
    else
      let s1 := s.reach (t + s.bootHoldTicks)
      let s2 := s1.each (List.range 6) (fun st d => st.wr Rg.rollInternal (st.rd Rg.rollInternal d / 2 * 2) d)
      { s2 with boot := { s2.boot with readyAt := none } }

def doBootHoldExpiry (s : State) : State := s.bootHoldEnd

/-! ### The warm reset (R752 to R754) -/

/-- A job whose work runs is cut short: its record carries END 3 and result 502 (R616). -/
def State.jobCut (s : State) (b : Billet) : State :=
  match b.job with
  | none => s
  | some j =>
    s.jobEnd b j 3 502 []

/-- A domain saves at the entry of a warm reset, and is reset; one that is not UP is only reset. -/
def State.warmDomain (s : State) (d : Nat) : State :=
  let s1 := if s.domainServes d then
      (if d = 0 then s.each (List.range 6) (fun st p => st.loseLink p true) else s.domainRetry d).saving d true
    else s
  s1.wr Rg.rollState 3 d

/-- A UART session loses its line, its waiting lines, its waiting verb and its memory; TCP sessions close (R577, R631, R643). -/
def State.warmSession (s : State) (n : Nat) : State :=
  if isUart n then
    ((s.logoutPlain n).cciForget n).modSes n (fun y =>
      let rate := match y.baudNext with | some e => e.2 | none => y.baud
      { gone := y.gone, baud := rate, lockUntil := y.lockUntil, holding := y.holding, ctsOff := y.ctsOff })
  else s.tcpFree n

/-- An update that a warm reset cuts off leaves the previous image (R768). -/
def State.warmUpdate (s : State) : State :=
  let s1 := if s.rd Rg.fwState = 2 then
      let v := match s.fw.prev with
        | some v => v
        | none => s.rd Rg.bootVersion
      ((s.wr Rg.fwResult 1).wr Rg.bootVersion v).raise 38 24 1
    else s
  { s1.wr Rg.fwState 0 with fw := {} }

/-- A flash or store operation in progress is cut short (R781). -/
def State.warmFlash (s : State) : State :=
  let th := { s.thotor with storeTorn := s.thotor.storeTorn || s.thotor.storing, storeLoose := [], resetAsked := none,
                            eraseAsked := false }
  { s.wr Rg.bootFlashBusy 0 with flash := { s.flash with op := none }, thotor := th }

/-- The entry of a warm reset (R754). -/
def State.warmEntry (s : State) (cause : Nat) : State :=
  let pads := 31 - s.rd Rg.pwPadHeld
  let s0 := { (s.wr Rg.bootReady 0).wr Rg.bootCause cause with
                boot := { vin := s.boot.vin, por := false, warm := true, since := s.now, pads := pads, selfRefresh := true,
                          erased := s.boot.erased } }
  let s1 := s0.warmFlash.warmUpdate
  let s2 := ((s1.each (List.range 25) State.bumpEpoch).each (List.range 24) (fun st u => st.setUnit u 1)).anvilsLost (List.range 8)
  let s3 := s2.each (s2.billets.filter (fun b => b.lane == 0xFF)) State.jobCut
  let s4 := s3.each (List.range 6) State.warmDomain
  let s5 := { s4.statsLost with
                      anvils := s4.anvils.map (fun (e : Nat × AnvilSt) => (e.1, { e.2 with condemned := false, testing := false, faultTimes := [] })),
                      jxs := [], acc := {}, power := { s4.power with resetting := [], release := 0, wakePin := false } }
  let s5' := s5.each (List.range 16) State.warmSession
  let s6 := { s5' with thotor := { s5'.thotor with storeLoose := [] } }
  let s7 := s6.each (List.range 6) (fun st d => st.wr Rg.rollInternal (st.rd Rg.rollInternal d ||| 1) d)
  let s8 := ((((s7.wr Rg.pwPadHeld 31).wr Rg.bootPhase 5).wr Rg.bootFatal 0).wr Rg.bootDegraded 0).wr Rg.bootBistFail 0
  { s8.wr Rg.jnlCkptBusy 0 with jnl := { s8.jnl with writing := false, ckptDue := s8.jnl.ckptDue || s8.jnl.writing } }

/-- A request before READY keeps the start's kind and restarts it from phase 4, or from phase 5 when it is warm (R778). -/
def State.startAgain (s : State) : State :=
  let p := s.rd Rg.bootPhase
  if s.boot.warm then { (s.wr Rg.bootPhase 5).wr Rg.bootFatal 0 with
                          boot := { s.boot with loaded := false, pushed := false, tested := false, second := false } }
  else if p < 4 then s
  else s.loadBegin

/-- RESET_N: a request of at least 1 µs. A sealed engine starts cold (R117, R699, R751, R752). -/
def State.resetN (s : State) : State :=
  if !s.boot.vin || s.boot.held || !s.on Rg.supplyVioHOk then s
  else match s.powerFail with
    | .draining => s
    | .sealed => s.coldBegin (if s.power.tripTold then 1 else 4) true true
    | .off =>
      let s1 := if s.boot.por then s else if s.on Rg.bootReady then s.warmEntry 1 else s.startAgain
      { s1 with boot := { s1.boot with held := true } }

def doResetN (s : State) : State := s.resetN

/-- RESET_N_RELEASE: RESET_N goes high, and the start runs. -/
def doResetNRelease (s : State) : State := { s with boot := { s.boot with held := false } }

/-! ### The reset that a verb asks for (R631, R632) -/

/-- The code of journal erase equals T00's login code, or both are 0. -/
def State.eraseCode (s : State) (code : Nat) : Bool := s.rd Rg.thCode 0 == code

/-- The preconditions of a journal erase. -/
def State.eraseMay (s : State) : Bool :=
  s.paused && s.billets.isEmpty && (List.range 4096).all (fun c => !s.holdsAny c)

/-- The journal is erased: header, slots and log (R632). -/
def State.eraseNow (s : State) : State :=
  let s1 := { s with jnl := { lastAppend := s.jnl.lastAppend }, boot := { s.boot with erased := true } }
  ((s1.wr Rg.jnlSerial 0).wr Rg.jnlStaged 0).wr Rg.thConsoleAuto 1

/-- The warm reset that reset engine or journal erase asked for begins: its ok has left. -/
def State.askedReset (s : State) : State :=
  if s.thotor.resetAsked.isNone || !s.on Rg.bootReady || s.powerFail != .off then s
  else if s.thotor.eraseAsked then s.eraseNow.warmEntry 3 else s.warmEntry 2

end Sys2Proof.Machine
end

