-- ==== Sys2Proof/Machine/TestPort.lean ====
section
/-! DEFINITION. The boot flash registers, the fuses, the test hooks, the test access port, the I/O supplies, and CONSOLE_AUTO
(R585, R773 to R777, R784 to R786, R792, R825). -/
namespace Sys2Proof.Machine

/-! ### The boot flash (R785) -/

/-- FLASH_ADDR_WRITE: the offset is set, and the buffer index is 0; a write while BUSY is ignored. -/
def State.flashAddr (s : State) (v : Nat) : State :=
  if s.flash.op.isSome then s else { s.wr Rg.bootFlashAddr v with flash := { s.flash with index := 0 } }

def doFlashAddrWrite (m : MasterId) (v : Word) (s : State) : State :=
  s.guardWrite m.val 0xC0 (s.isProctor m.val) (fun st => st.flashAddr v.toNat)

/-- The buffer index advances, modulo 64. -/
def State.flashStep (s : State) : State := { s with flash := { s.flash with index := (s.flash.index + 1) % 64 } }

/-- A write of FLASH_DATA. -/
def State.flashDataWrite (s : State) (v : Nat) : State :=
  if s.flash.op.isSome then s
  else ({ s with flash := { s.flash with page := kvSet 0 s.flash.page s.flash.index v } }).flashStep

/-- A read of FLASH_DATA. -/
def State.flashDataRead (s : State) : State × Nat := (s.flashStep, kvGet 0 s.flash.page s.flash.index)

/-- FLASH_DATA_ACCESS: a write of a word, or a read. -/
def doFlashDataAccess (m : MasterId) (v : Option Word) (s : State) : State :=
  match v with
  | some w => s.guardWrite m.val 0xC4 (s.isProctor m.val) (fun st => st.flashDataWrite w.toNat)
  | none => s.guardRead m.val 0xC4 (s.rightAt m.val 0xC4 .look) State.flashDataRead

/-- A write of FLASH_CMD begins an operation at FLASH_ADDR rounded down to its unit. -/
def State.flashOp (s : State) (op : Nat) : State :=
  if s.flash.op.isSome || op = 0 || decide (3 < op) then s
  else
    let a := s.rd Rg.bootFlashAddr
    let size := if op = 3 then 65536 else 256
    { s.wr Rg.bootFlashBusy 1 with flash := { s.flash with op := some (op, a / size * size) } }

def doFlashReadPage (m : MasterId) (s : State) : State := s.guardWrite m.val 0xC8 (s.isProctor m.val) (fun st => st.flashOp 1)

def doFlashProgramPage (m : MasterId) (s : State) : State :=
  s.guardWrite m.val 0xC8 (s.isProctor m.val) (fun st => st.flashOp 2)

def doFlashEraseSector (m : MasterId) (s : State) : State :=
  s.guardWrite m.val 0xC8 (s.isProctor m.val) (fun st => st.flashOp 3)

/-- The 64 words of the page buffer. -/
def FlashSt.words (f : FlashSt) : List Nat := (List.range 64).map (kvGet 0 f.page)

/-- A page buffer that holds the first 64 words of a list. -/
def pageOf (l : List Nat) : Kv Nat :=
  ((List.range 64).map (fun i => (i, l.getD i 0))).filter (fun e => e.2 != 0)

/-- FLASH_OP_DONE: an operation ends; a read page brings its 64 words. -/
def State.flashDone (s : State) (ok : Bool) (words : List Nat) : State :=
  match s.flash.op with
  | none => s
  | some (op, a) =>
    let f := s.flash
    let page := if ok && op = 1 then pageOf words else f.page
    let s1 := { s.wr Rg.bootFlashBusy 0 with flash := { page := page, index := 0, op := none,
                                                        done := (op, a, if op = 2 then f.words else []) :: f.done } }
    if ok then s1 else (s1.wr Rg.bootFlashError 1).raise 45 0 0

def doFlashOpDone (ok : Bool) (words : List Word) (s : State) : State := s.flashDone ok (words.map BitVec.toNat)

/-! ### Fuses (R784) -/

/-- BURN_SVN raises MIN_SVN; a lower value is ignored. -/
def State.burnSvn (s : State) (v : Nat) : State := if s.rd Rg.bootMinSvn < v then s.wr Rg.bootMinSvn v else s

def doBurnSvn (m : MasterId) (v : Fin 64) (s : State) : State :=
  s.guardWrite m.val 0xBC (s.isProctor m.val) (fun st => st.burnSvn v.val)

/-- REVOKE of key k, unless the other key is already revoked. -/
def State.revokeKey (s : State) (k : Nat) : State :=
  let r := s.rd Rg.bootRevoked
  if r.testBit (1 - k) then s else s.wr Rg.bootRevoked (r ||| 2 ^ k)

def doRevoke (m : MasterId) (mask : BitVec 2) (s : State) : State :=
  s.guardWrite m.val 0xBC (s.isProctor m.val) (fun st => st.each (maskBits 2 mask.toNat) State.revokeKey)

/-! ### The test hooks (R773, R777) -/

/-- Test mode: phase 10. -/
def State.testMode (s : State) : Bool := s.rd Rg.bootPhase == 10

/-- The TEST vote: in test mode, or while TEST_HOLD is 1 and the hooks act. -/
def State.testVote (s : State) : State :=
  let on := s.testMode || (s.on Rg.testHold && s.on Rg.injEn)
  (s.each (List.range 6) (fun st d =>
    let v := st.rd Rg.rollInternal d
    let rest := v % 64 + v / 128 * 128
    st.wr Rg.rollInternal (if on then rest + 64 else rest) d))

/-- TEST_HOLD. -/
def State.testHoldWrite (s : State) (v : Nat) : State :=
  if s.rd Rg.testHold = v then s else ((s.wr Rg.testHold v).raise 996 v 0).testVote

def doTestHold (m : MasterId) (v : Bool) (s : State) : State :=
  s.guardWrite m.val 0x420100 (s.isProctor m.val) (fun st => st.testHoldWrite (b2n v))

/-- Lanes 0 to 3 are those of PCI Express, 4 and 5 the Ethernet ports. A lane that runs PRBS. -/
def State.prbsOn (s : State) (lane : Nat) : Bool :=
  s.on Rg.injEn &&
  (if lane < 4 then (s.rd Rg.testPrbsPcie).testBit lane && !s.on Rg.pcieLink
   else (s.rd Rg.testPrbsEth).testBit (lane - 4) && !s.on Rg.ethEn (lane - 4))

/-- PRBS_ERROR. -/
def doPrbsError (lane : Fin 6) (s : State) : State :=
  if s.prbsOn lane.val then (s.bumpSat Rg.testPrbsErr).raiseLim 64 997 0 lane.val (s.rd Rg.testPrbsErr + 1) else s

/-- Memories that MBIST_RUN tests: DRAM, and the SRAMs of domains that are DOWN. -/
def State.mbistMask (s : State) : Nat :=
  1 + (if s.rd Rg.rollState 0 = 3 then 18 else 0) + (if s.rd Rg.rollState 1 = 3 ∨ s.rd Rg.rollState 2 = 3 then 4 else 0)

/-- A self-test of the hooks begins; one that runs goes on. -/
def State.mbistBegin (s : State) (mask : Nat) : State :=
  if s.boot.mbist.isSome then s else { s with boot := { s.boot with mbist := some mask } }

def doMbistRun (m : MasterId) (s : State) : State :=
  s.guardWrite m.val 0x420110 (s.isProctor m.val) (fun st => if st.on Rg.injEn then st.mbistBegin st.mbistMask else st)

/-! ### The test access port (R774, R775) -/

/-- The instructions that act in test mode only (Table Startup.8). -/
def jtagTestOnly (code : Nat) : Bool := [0, 3, 4, 5, 6, 0x21].contains code

/-- The instructions of Table Startup.8; any other code acts as BYPASS. -/
def jtagKnown (code : Nat) : Bool := [0, 1, 2, 3, 4, 5, 6, 0x20, 0x21, 0xFF].contains code

/-- JTAG_INSTRUCTION: an instruction is loaded. -/
def State.jtagLoad (s : State) (code : Nat) : State :=
  let set : State → Nat → State := fun st c => { st with jtag := { st.jtag with ir := c } }
  if jtagTestOnly code && !s.testMode then ((set s 0xFF).wr Rg.testJtagRefused 1).raise 995 code 0
  else set s (if jtagKnown code then code else 0xFF)

def doJtagInstruction (code : BitVec 8) (s : State) : State := s.jtagLoad code.toNat

/-- TEST_LOGIC_RESET selects IDCODE. -/
def doTestLogicReset (s : State) : State := { s with jtag := { s.jtag with ir := 2 } }

/-- What IDCODE shows (R774). -/
def State.idcode (s : State) : Nat :=
  (s.rd Rg.hearthStepMajor * 4 + s.rd Rg.hearthStepMinor) % 16 * 2 ^ 28 + 0x6440 * 2 ^ 12 + 2 * Config.jtagMaker.toNat + 1

/-- The boundary cells of a group of pins (R776). -/
def PinGroup.kind (g : PinGroup) : CellKind :=
  match g with
  | .pcieLane | .ethLane => .ac
  | .dphy | .din => .observe
  | .led | .dout | .ain | .xp | .exc | .grd | .vfield | .supply => .absent
  | .parallel | .cci | .sideband | .flash | .uart | .control => .digital

/-- What the boundary cell of pin i of a group holds. -/
def State.boundaryCell (s : State) (g : PinGroup) (i : Nat) : Bool :=
  match s.jtag.cells.find? (fun e => e.1 == g && e.2.1 == i) with
  | some e => e.2.2
  | none => Config.boundaryCell g.ctorIdx i

/-- What drives pin i of a group: the system, or under EXTEST, EXTEST_PULSE, EXTEST_TRAIN and CLAMP its boundary cell, or under
HIGHZ nothing. A pin without a driving cell is the system's (R774, R776). -/
def State.pinDrive (s : State) (g : PinGroup) (i : Nat) : PinDrive :=
  let ir := s.jtag.ir
  if g.kind = .absent ∨ g.kind = .observe then .system
  else if ir = 4 then .highZ
  else if ir = 0 ∨ ir = 3 ∨ ir = 5 ∨ ir = 6 then .cell (s.boundaryCell g i) (g.kind == .ac && (ir == 5 || ir == 6))
  else .system

/-- JTAG_MBIST: the data register of MBIST with run set. -/
def doJtagMbist (s : State) : State := if s.jtag.ir = 0x21 ∧ s.testMode then s.mbistBegin 0x3F else s

/-! ### The I/O supplies (R792) -/

/-- VIO_OUT_OF_RANGE: the pins of a bank are high impedance, and its inputs read 0. With bank H, RESET_N reads as
released. -/
def doVioOutOfRange (par : Bool) (s : State) : State :=
  if par then s.wr Rg.supplyVioPOk 0
  else { s.wr Rg.supplyVioHOk 0 with boot := { s.boot with held := false } }

/-- VIO_IN_RANGE: a bank's supply has been in range for 1 ms; at or above 2.5 V it works at 3.3 V levels. -/
def doVioInRange (par high : Bool) (s : State) : State :=
  if par then (s.wr Rg.supplyVioPOk 1).wr Rg.supplyVioP3v3 (b2n high)
  else (s.wr Rg.supplyVioHOk 1).wr Rg.supplyVioH3v3 (b2n high)

/-! ### CONSOLE_AUTO (R585, R825) -/

/-- A write of CONSOLE_AUTO is stored in the journal header. -/
def State.consoleAutoWrite (s : State) (v : Nat) : State := (s.wr Rg.thConsoleAuto v).writeHeader

def doConsoleAutoWrite (m : MasterId) (v : Bool) (s : State) : State :=
  s.withRight m.val Rg.thConsoleAuto.base .set (fun st => st.consoleAutoWrite (b2n v))

end Sys2Proof.Machine
end

