-- ==== Sys2Proof/Machine/Inject.lean ====
section
/-! DEFINITION. Injection: the injection points, raise-only and full injection, and the conditions that a full injection
forces (R722 to R725, R746). -/
namespace Sys2Proof.Machine

/-- Which scope a rate limit of R714 has: the engine, argument 0, the source's own object, or the master of E0784. -/
inductive LimitScope where
  | engine | argument | object | master
  deriving DecidableEq, Repr

/-- The sources whose rules limit them, with the Periods between raises and the scope (R714). -/
def limitRules : List (Nat × Nat × Nat × LimitScope) :=
  [(24, 24, 64, .engine), (26, 26, 64, .argument), (27, 27, 64, .engine), (35, 35, 64, .engine), (41, 41, 64, .engine),
   (71, 71, 64, .engine), (132, 132, 64, .engine), (192, 255, 64, .object), (336, 341, 64, .object),
   (448, 450, 64, .argument), (455, 455, 64, .argument), (528, 528, 64, .argument), (530, 532, 64, .argument),
   (644, 644, 1, .engine), (655, 655, 64, .engine), (656, 656, 64, .argument), (737, 737, 64, .argument),
   (739, 745, 64, .argument), (773, 775, 64, .argument), (784, 784, 64, .master), (860, 883, 64, .engine),
   (888, 914, 64, .engine), (920, 921, 64, .argument), (924, 925, 64, .argument), (936, 943, 64, .engine),
   (952, 959, 64, .engine), (963, 967, 64, .engine), (977, 984, 1, .engine), (992, 992, 64, .engine),
   (994, 994, 64, .engine), (997, 997, 64, .engine)]

/-- Raise a source with the arguments of an injection, under its own rate limit (R723). -/
def State.raiseAsIs (s : State) (src a0 a1 : Nat) : State :=
  match limitRules.find? (fun r => r.1 ≤ src && src ≤ r.2.1) with
  | none => s.raise src a0 a1
  | some (lo, _, n, k) =>
    s.raiseLim n src (match k with
      | .engine => 0 | .argument => a0 % 65536 | .object => src - lo | .master => a0 / 2 ^ 24 % 128) a0 a1

/-- The domain that holds the detector of a source; none for Hearth (R724). -/
def sourceDomain (src : Nat) : Option Nat :=
  if 192 ≤ src ∧ src ≤ 456 then some 0
  else if (512 ≤ src ∧ src ≤ 515) ∨ (520 ≤ src ∧ src ≤ 523) then some 1
  else if (516 ≤ src ∧ src ≤ 519) ∨ (524 ≤ src ∧ src ≤ 527) then some 2
  else if 644 ≤ src ∧ src ≤ 658 then some 3
  else if 736 ≤ src ∧ src ≤ 740 then some 0
  else if 832 ≤ src ∧ src ≤ 919 then some 4
  else if 920 ≤ src ∧ src ≤ 925 then some 4
  else if 928 ≤ src ∧ src ≤ 984 then some 5
  else none

/-- The sources of single Anvils that their arguments name lie in the domain of that Anvil. -/
def detectorDomain (src a0 : Nat) : Option Nat :=
  if src = 530 then (if a0 < 4 then some 1 else if a0 < 8 then some 2 else none) else sourceDomain src

/-- The sources whose forced condition waits for its opportunity; the detectors take it with `takeArmed` (Table Events.2). -/
def waitsForChance (src : Nat) : Bool :=
  src == 40 || src == 453 || src == 454 || src == 530 || (928 ≤ src && src ≤ 935)

/-- The forced conditions that strike at once. Where no rule attaches a consequence of its own to a detection, the raise is
all there is (R724, Table Events.2). -/
def State.forceNow (s : State) (src a0 a1 : Nat) : State :=
  let n := a0 % 64
  if src = 24 then s.wakeEvent a0
  else if src = 26 then (if a0 < 6 then s.downAccess a0 else s)
  else if src = 32 then (if a0 < 6 then s.domainReset a0 else s)
  else if src = 33 then (if a0 < 24 then s.unitReset a0 else s)
  else if src = 34 then (if a0 < 8 then s.anvilFault a0 2 else s.unitWatchdog a0)
  else if src = 35 then s.staleReply a0
  else if src = 39 then s.registrarWatchdog
  else if src = 41 then doDramCorrected s
  else if src = 46 then doPerst s
  else if src = 131 then s.pwrFail
  else if 192 ≤ src ∧ src ≤ 255 then (s.markLane (src - 192) (a0 % 65536)).truncateOnError (src - 192)
  else if 320 ≤ src ∧ src ≤ 325 then
    (let p := src - 320
     ({ s with ports := kvMod {} s.ports p (fun x => { x with downUntil := s.now + msTicks 1 }) }).loseLink p)
  else if 336 ≤ src ∧ src ≤ 341 then (if s.portLive (src - 336) then s.headerLost (src - 336) else s)
  else if 512 ≤ src ∧ src ≤ 519 then s.anvilFault (src - 512) a0
  else if 832 ≤ src ∧ src ≤ 855 then
    (let c := src - 832
     let set := fun (st : State) (k : Nat) (f : Fld) => if a0.testBit k then st.chanFault f 1 c else st
     set (set (set (s.bumpSat Rg.saFails c) 0 Rg.saOpenF) 1 Rg.saShort) 2 Rg.saLeak)
  else if 856 ≤ src ∧ src ≤ 859 then s.excLimit (src - 856)
  else if 860 ≤ src ∧ src ≤ 883 then s.overvolt (src - 860)
  else if 884 ≤ src ∧ src ≤ 887 then (s.wr Rg.grdLimit 1 (src - 884)).raise src (src - 884) 1
  else if 944 ≤ src ∧ src ≤ 951 then s.doutOverload (src - 944)
  else if 969 ≤ src ∧ src ≤ 976 then s.quenchFault (src - 969)
  else if src = 992 then { s with power := { s.power with offset := some (toSigned 32 a0, s.now + msTicks a1) } }
  else if src = 449 ∨ src = 450 ∨ src = 455 ∨ src = 448 then s.raiseAsIs src n a1
  else s.raiseAsIs src a0 a1

/-- Whether the injection point of a source acts: it is a source, not E1008, INJ_CTRL.EN is 1 and its group is enabled
(R722). -/
def State.injectOpen (s : State) (src : Nat) : Bool :=
  isSource src && src != 1008 && s.on Rg.injEn && (s.rd Rg.injGroups).testBit (src / 32)

/-- Inject: the answer is 0, or the Thotor error 401 or 404 (R722 to R725). The E0192 of a forced mark comes when the frame
ends, so its flag stays. -/
def State.inject (s : State) (src a0 a1 : Nat) : State × Nat :=
  if !s.injectOpen src then (s, 401)
  else if (match detectorDomain src a0 with | some d => !s.domainUp d | none => false) then (s, 404)
  else
    let full := s.on Rg.injFull
    let s1 := ((s.wr Rg.injLastMode (b2n full)).wr Rg.injLastEvent src).bump Rg.injCount
    let s2 := s1.raise 1008 src (b2n full)
    if !full then ((s2.markInjected src).raiseAsIs src a0 a1, 0)
    else if waitsForChance src then
      ({ s2 with evt := { s2.evt with armed := kvPut s2.evt.armed src { a0 := a0, a1 := a1 } } }, 0)
    else
      let s3 := (s2.markInjected src).forceNow src a0 a1
      (if 192 ≤ src ∧ src ≤ 255 then s3 else s3.unmarkInjected src, 0)

/-- EN or FULL of INJ_CTRL is cleared: the armed conditions are dropped (R724). -/
def State.injDisarm (s : State) : State := { s with evt := { s.evt with armed := [], injecting := [] } }

/-- INJECT by master `m`, with Run on Test and injection: the inject verb, or INJ_FIRE with INJ_EVENT and the arguments. -/
def doInject (m : MasterId) (src : Fin 1024) (a0 a1 : Word) (s : State) : State :=
  s.withRight m.val 0x420000 .run (fun st => (st.inject src.val a0.toNat a1.toNat).1)

end Sys2Proof.Machine
end

