-- ==== Sys2Proof/Machine/RegWords.lean ====
section
/-! DEFINITION. The words of BAR0: which fields a word holds for a master, what each field reads, and a read of a word
(R7 to R11, R651 to R659, R668, R669, R719). -/
namespace Sys2Proof.Machine

/-- The byte offset of a word. -/
def wordAddr (w : RegWord) : Nat := 4 * w.toNat

/-! ### Fields of a word -/

/-- The same field of the register map. -/
def Fld.is (f g : Fld) : Bool := f.base == g.base && f.lsb == g.lsb

/-- Words that a field runs over. -/
def Fld.words (f : Fld) : Nat := (f.lsb + f.width + 31) / 32

/-- One word of one element of a field array. -/
structure FieldRef where
  f : Fld
  i : Nat
  j : Nat
  /-- the word within the field, 0 for the lowest -/
  w : Nat
  deriving DecidableEq, Repr

/-- Index along one dimension of `n` elements, `st` bytes apart, for a byte distance. -/
def dimIndex (n st d : Nat) : Nat := if n ≤ 1 ∨ st = 0 then 0 else min (d / st) (n - 1)

/-- The element of a field array, and the word of it, that sits at a storage address. -/
def Fld.find (f : Fld) (sa : Nat) : Option FieldRef :=
  if sa < f.base then none
  else
    let d := sa - f.base
    let wide := decide (f.s2 ≤ f.s1)
    let i := if wide then dimIndex f.n1 f.s1 d else dimIndex f.n1 f.s1 (d - dimIndex f.n2 f.s2 d * f.s2)
    let j := if wide then dimIndex f.n2 f.s2 (d - i * f.s1) else dimIndex f.n2 f.s2 d
    let r := d - i * f.s1 - j * f.s2
    if r % 4 = 0 ∧ r / 4 < f.words then some { f := f, i := i, j := j, w := r / 4 } else none

/-- The storage addresses that an address of BAR0 stands for in an access by master `m`: an access table, a register banked
by master or by tenant, a window of the selected correspondent, or the address itself. -/
def State.storages (s : State) (m a : Nat) : List Nat :=
  match tableOf a with
  | some (g, off) => [0x300000000 + 0x1000 * g + off]
  | none =>
    [a, 0x200000000 + a + 0x1000000 * m, 0x400000000 + a + 0x1000000 * (s.tenantOf m).getD 0] ++
    (if 0x20000 ≤ a ∧ a < 0x20080 then [0x100000000 + (a - 0x20000) + 0x80 * s.rd Rg.jnlGbSel m] else []) ++
    (if 0x300000 ≤ a ∧ a < 0x300080 then [0x110000000 + (a - 0x300000) + 0x80 * s.rd Rg.corrSel m] else [])

/-- The fields that master `m` finds in the word at an address. -/
def State.fieldsAt (s : State) (m a : Nat) : List FieldRef :=
  (s.storages m a).flatMap (fun sa => catalogue.filterMap (fun f => f.find sa))

/-! ### What a field reads -/

/-- The fields that are not simply stored: what each reads for master `m`. -/
abbrev View := State → Nat → Nat → Nat → Nat

/-- A field of an event source: a reserved source reads 0 (R721). -/
def sourceView (f : Fld) : View := fun s _ i _ => if isSource i then s.rd f i else 0

/-- Views of the engine's own registers. -/
def viewsEngine : List (Fld × View) :=
  [(Rg.hearthTimebase, fun s _ _ _ => s.now % 2 ^ 64),
   (Rg.hearthSnapStale, fun s _ i _ => b2n (kvGet {} s.acc.holding i).stale),
   (Rg.hearthSnapValid, fun s _ i _ => b2n (kvGet {} s.acc.holding i).held.isSome),
   (Rg.hearthSnapTarget, fun s _ i _ => match (kvGet {} s.acc.holding i).held with | some (g, _, _) => g | none => 0),
   (Rg.hearthSnapWord, fun s _ i _ => match (kvGet {} s.acc.holding i).held with | some (_, w, _) => w | none => 0),
   (Rg.wakeMask, fun s _ i _ => if i = 0 then 0 else s.rd Rg.wakeMask i),
   (Rg.bellPaused, fun s _ _ _ => b2n s.paused),
   (Rg.ttCap, fun s _ i _ => s.ttCap i),
   (Rg.ttNow, fun s _ i _ => s.rowAll i s.period),
   (Rg.ttPeak, fun s _ i _ => s.ttPeak i),
   (Rg.jnlStaged, fun s _ _ _ => s.jnl.staging.length),
   (Rg.jnlGbOpen, fun s _ _ _ => s.billets.length),
   (Rg.pwVoteUp, fun s _ i _ => s.voteSet i),
   (Rg.pwVoteDown, fun s _ i _ => s.voteSet i),
   (Rg.pwTemperReq, fun s _ i _ => s.rd Rg.pwTemperReqT i),
   (Rg.srcEn, sourceView Rg.srcEn), (Rg.srcVecEn, sourceView Rg.srcVecEn), (Rg.srcVector, sourceView Rg.srcVector),
   (Rg.srcPins, sourceView Rg.srcPins), (Rg.srcQmask, sourceView Rg.srcQmask)]

/-- Views of the access tables (Table Access.5). -/
def viewsAccess : List (Fld × View) :=
  [(Rg.accOwner, fun s _ i j => if i = 0x30 ∨ objectsOf i ≤ j then 0 else (s.ownerShare i j).1),
   (Rg.accShare, fun s _ i j => if i = 0x30 ∨ objectsOf i ≤ j then 0 else (s.ownerShare i j).2),
   (Rg.accObjects, fun _ _ i _ => objectsOf i),
   (Rg.accTarget, fun _ _ i _ => i)]

/-- Views of the other blocks. -/
def viewsBlocks : List (Fld × View) :=
  [(Rg.pipeMhz, fun s _ _ _ => pipeMHz (s.rd Rg.pwActive)),
   (Rg.pipeTblValid, fun s m _ _ => b2n (!s.badBanks.contains (s.tblSel m))),
   (Rg.sdGdelay, fun s _ i _ => if s.chanOn i then s.chainDelay i else s.rd Rg.sdGdelay i),
   (Rg.bankValid, fun s m _ _ =>
     b2n (if Config.bankStatusOfLin then s.linValid (s.rd Rg.linSelBank m)
          else s.firValid (s.rd Rg.firSelChan m) (s.rd Rg.firSelBank m))),
   (Rg.statDramBase, fun _ _ _ _ => statDram 0 0),
   (Rg.gs1TableVer, fun _ _ _ _ => (Config.fixedWord Rg.gs1TableVer.base).toNat % 65536),
   (Rg.flkPhaseNow, fun s _ _ _ => (s.flkPhaseAt s.now * 65536).floor.toNat % 65536),
   (Rg.corrStallMs, fun s _ i _ => match (s.corr i).stallSince with | some t => (s.now - t) / 250000 | none => 0)]

def views : List (Fld × View) := viewsEngine ++ viewsAccess ++ viewsBlocks

/-- The whole value that element `(i, j)` of a field reads for master `m`, without the effects of the read; a WO field
reads 0 (R9). -/
def State.fieldValue (s : State) (m : Nat) (f : Fld) (i j : Nat) : Nat :=
  if f.acc = .wo then 0
  else match views.find? (fun e => e.1.is f) with
    | some e => e.2 s m i j % 2 ^ f.width
    | none => s.rd f i j

/-- The bits of a word that a field fills. -/
def State.refBits (s : State) (m : Nat) (r : FieldRef) : Nat :=
  s.fieldValue m r.f r.i r.j * 2 ^ r.f.lsb / 2 ^ (32 * r.w) % 2 ^ 32

/-! ### Values read as pairs (R657, R658) -/

/-- The value of two words that a reference belongs to, if it is one. -/
def FieldRef.isPair (r : FieldRef) : Bool := r.f.acc == .rs && !r.f.has .latching && decide (32 < r.f.width)

/-- Target and word index of the low word of a pair, from the address of one of its words. -/
def pairTag (r : FieldRef) (a : Nat) : Nat × Nat :=
  let g := (targetOf a).getD 0
  let base := if g = 0x10 then 0x100000 else g * 0x10000
  (g, (a - 4 * r.w - base) / 4 % 65536)

/-- Change a master's holding register. -/
def State.modHolding (s : State) (m : Nat) (f : Holding → Holding) : State :=
  { s with acc := { s.acc with holding := kvMod {} s.acc.holding m f } }

/-- A read of the low word of a pair: its high half goes to the master's holding register. -/
def State.pairLow (s : State) (m a : Nat) (r : FieldRef) : State × Nat :=
  let v := s.fieldValue m r.f r.i r.j
  let t := pairTag r a
  (s.modHolding m (fun _ => { held := some (t.1, t.2, v / 2 ^ 32 % 2 ^ 31), fresh := true, stale := false }), v % 2 ^ 32)

/-- A read of the high word of a pair. -/
def State.pairHigh (s : State) (m a : Nat) (r : FieldRef) : State × Nat :=
  let h := kvGet {} s.acc.holding m
  let t := pairTag r a
  let live := s.fieldValue m r.f r.i r.j / 2 ^ 32 % 2 ^ 31
  let mine := match h.held with | some (g, w, x) => if g = t.1 ∧ w = t.2 then some x else none | none => none
  match mine with
  | some x =>
    if h.fresh then (s.modHolding m (fun h => { h with fresh := false }), x)
    else (s.modHolding m (fun h => { h with stale := true }), x + 2 ^ 31)
  | none => (s.modHolding m (fun h => { h with stale := true }), live + 2 ^ 31)

/-! ### Reads -/

/-- A read of POP of tenant t's queue (R719). -/
def State.popRead (s : State) (m t : Nat) : State × Nat :=
  match s.popEvent t with
  | (s1, none) => (s1, 0)
  | (s1, some x) =>
    ((((s1.wr Rg.qStampLo (x.stamp % 2 ^ 32) t m).wr Rg.qStampHi (x.stamp / 2 ^ 32 % 2 ^ 31) t m).wr Rg.qArg0 x.a0 t m).wr
      Rg.qArg1 x.a1 t m, x.word0)

/-- The words whose read does more than return their fields, and the words without fields. -/
def State.dataRead (s : State) (m a : Nat) : Option (State × Nat) :=
  if a = 0xC4 then some s.flashDataRead
  else if 0x4000 ≤ a ∧ a < 0x8000 then some (s, s.saveWord (a - 0x4000))
  else if a = 0x140108 then some (s.tblDataRead m)
  else if a = 0x3C1008 then some (s.firDataRead m)
  else if a = 0x3C1018 then some (s.linDataRead m)
  else if 0x1C0014 ≤ a ∧ a < 0x1C0024 then some (s, s.coefDataRead m ((a - 0x1C0014) / 4))
  else if a = Rg.supplyVinMv.base then some (s.free 16)
  else if 0x48000 ≤ a ∧ a < 0x49000 ∧ a % 0x40 = 0 then some (s.popRead m ((a - 0x48000) / 0x40))
  else if 0x88000 ≤ a ∧ a < 0x88400 ∧ a % 0x100 = 0x10 then
    some (s.cciPop ((a - 0x88000) / 0x100))
  else if 0x3C0000 ≤ a ∧ a < 0x3C0600 ∧ a % 0x40 < 0x10 then
    (let n := (a - 0x3C0000) / 0x40
     let w := a % 0x40 / 4
     some (if w = 0 then s.result0 m n else s.resultRead m n w))
  else none

/-- The RC fields of a word are cleared by a read (R9). -/
def State.clearRc (s : State) (rs : List FieldRef) : State :=
  s.each (rs.filter (fun r => r.f.acc == .rc)) (fun st r => st.wr r.f 0 r.i r.j)

/-- The effect and the answer of an allowed read of the word at an address. -/
def State.readWord (s : State) (m a : Nat) : State × Nat :=
  match s.dataRead m a with
  | some r => r
  | none =>
    let rs := s.fieldsAt m a
    match rs.find? FieldRef.isPair with
    | some r => if r.w = 0 then s.pairLow m a r else s.pairHigh m a r
    | none => (s.clearRc rs, rs.foldl (fun acc r => acc + s.refBits m r) 0)

/-! ### Rights of a place -/

/-- Every target and object whose right an access by master `m` to a field needs: the target or object of its address, and
for a window or data register the object it serves (R651 to R653). -/
def State.placesOf (s : State) (m : Nat) (f : Fld) (i j : Nat) : List (Nat × Option Nat) :=
  match f.bank with
  | .table => [(i, none)]
  | .gbWin => [(2, none), (0x30, some i)]
  | .corrWin => [(0x30, none), (0x30, some i)]
  | .tenant => [(5, none)]
  | .master =>
    (let a := (f.base - 0x200000000) + (if f.n2 ≤ 1 then 0 else i * f.s1)
     match targetOf a with | some g => [(g, objectOf g a)] | none => [])
  | .none =>
    (let a := f.base + i * f.s1 + j * f.s2
     let own := match targetOf a with | some g => [(g, objectOf g a)] | none => []
     if a = 0x3C1008 then
       own ++ (if s.rd Rg.firSelChan m < 24 then [(0x3C, some (s.rd Rg.firSelChan m))] else [])
     else if 0x1C0014 ≤ a ∧ a < 0x1C0024 then own ++ [(0x10, some (s.rd Rg.outCoefLane m))]
     else own)

/-- Tenant t holds a right on every place of a list. -/
def State.holdsAll (s : State) (t : Nat) (l : List (Nat × Option Nat)) (r : Right) : Bool :=
  l.all (fun p => s.holds t p.1 p.2 r)

/-- A read needs Look: on the target and object of the address, and on what each of its fields serves. -/
def State.mayRead (s : State) (m a : Nat) : Bool :=
  s.rightAt m a .look && (match s.asTested.tenantOf m with
    | some t => (s.fieldsAt m a).all (fun r => s.asTested.holdsAll t (s.placesOf m r.f r.i r.j) .look)
    | none => false)

/-- A read of the word at an address by master `m`. -/
def State.regRead (s : State) (m a : Nat) : State := s.guardRead m a (s.mayRead m a) (fun st => st.readWord m a)

/-- RC_READ: a read of any word of BAR0; the RC fields of the word are cleared (R9). -/
def doRcRead (m : MasterId) (w : RegWord) (s : State) : State := s.regRead m.val (wordAddr w)

/-- Whether a word is the low (0) or the high (1) word of a value read as a pair. -/
def State.isPairWord (s : State) (m a k : Nat) : Bool := (s.fieldsAt m a).any (fun r => r.isPair && r.w == k)

/-- SNAP_LOW_READ. -/
def doSnapLowRead (m : MasterId) (w : RegWord) (s : State) : State :=
  if s.isPairWord m.val (wordAddr w) 0 then s.regRead m.val (wordAddr w) else s

/-- SNAP_HIGH_READ. -/
def doSnapHighRead (m : MasterId) (w : RegWord) (s : State) : State :=
  if s.isPairWord m.val (wordAddr w) 1 then s.regRead m.val (wordAddr w) else s

/-- EVENT_POP_READ: a read of POP of tenant t's queue. -/
def doEventPopRead (m : MasterId) (t : TenantId) (s : State) : State := s.regRead m.val (0x48000 + 0x40 * t.val)

end Sys2Proof.Machine
end

