-- ==== Sys2Proof/Machine/RegRights.lean ====
section
/-! DEFINITION. A write of fields: what is written, and the rights it needs (R649, R653, R654, Table Access.3). -/
namespace Sys2Proof.Machine

/-- One field of a write: its new value, and the part of it that the write itself carries, in place. -/
structure Upd where
  f : Fld
  i : Nat
  j : Nat
  v : Nat
  raw : Nat
  deriving DecidableEq, Repr

/-- A write has no effect on RO, RS and RC fields (R9). -/
def Acc.writable : Acc → Bool
  | .ro => false | .rs => false | .rc => false
  | _ => true

/-- What a write of the word `x` means for one of its fields: a field wider than the word keeps its other words (R8). -/
def State.updOf (s : State) (x : Nat) (r : FieldRef) : Upd :=
  let sh := 2 ^ (32 * r.w)
  let raw := x % 2 ^ 32 * sh / 2 ^ r.f.lsb % 2 ^ r.f.width
  let full := s.rd r.f r.i r.j * 2 ^ r.f.lsb
  let kept := full - full / sh % 2 ^ 32 * sh
  let v := if r.f.acc = .rw then (kept + x % 2 ^ 32 * sh) / 2 ^ r.f.lsb % 2 ^ r.f.width else raw
  { f := r.f, i := r.i, j := r.j, v := v, raw := raw }

/-- A field that a write reaches: MBIND is RO but for M02 to M17 (R669), and XP_P and XP_N belong to S16 to S23 only. -/
def Fld.reaches (f : Fld) (i : Nat) : Bool :=
  f.acc.writable && (!(f.is Rg.mbindTenant || f.is Rg.mbindUnbind) || (decide (2 ≤ i) && decide (i ≤ 17))) &&
  (!(f.is Rg.saXpP || f.is Rg.saXpN) || decide (16 ≤ i))

/-- The fields that a write of `x` to the word at an address writes. -/
def State.updsAt (s : State) (m a x : Nat) : List Upd :=
  ((s.fieldsAt m a).filter (fun r => r.f.reaches r.i)).map (s.updOf x)

/-- The value that a write gives a field of the same object, or the one it has. -/
def State.newValue (s : State) (us : List Upd) (f : Fld) (i : Nat) : Nat :=
  match us.find? (fun u => u.f.is f && u.i == i) with
  | some u => u.v
  | none => s.rd f i

/-- What REF_SEL and REF_IDX name: a lane, a DIN or an encoder (R356). -/
def refNames (sel idx : Nat) : List (Nat × Option Nat) :=
  if sel = 2 then [(0x10, some idx)]
  else if sel = 3 then (if idx < 8 then [(0x40, some (16 + idx))] else [])
  else if sel = 4 then (if idx < 4 then [(0x40, some (24 + idx))] else [])
  else []

/-- The objects that a naming field names, and the right that the write needs on them (Table Access.3). -/
def State.named (s : State) (us : List Upd) (u : Upd) : List (Nat × Option Nat) × Right :=
  if u.f.is Rg.lnAeCci then ([(8, some (6 + u.v))], .run)
  else if u.f.is Rg.ledRefIdx then (refNames (s.newValue us Rg.ledRefSel u.i) u.v, .look)
  else if u.f.is Rg.doutRefIdx then (refNames (s.newValue us Rg.doutRefSel u.i) u.v, .look)
  else if u.f.is Rg.latLane then ([(0x10, some u.v)], .look)
  else if u.f.is Rg.corrLanes then ((maskBits 64 u.raw).map (fun n => (0x10, some n)), .look)
  else (if u.v < 24 then [(0x3A, some u.v)] else [], .look)

/-- The targets of the block or domain that a reset field resets; its write needs Own on them (R733, R734). -/
def resetTargets (u : Upd) : List Nat :=
  if u.f.is Rg.unitReset then (if h : u.i < 24 then (Block.unit ⟨u.i, h⟩).targets else [])
  else [5]

/-- Tenant t, writing as master `m`, may write one field of a write (Table Access.3). `w` is the state whose rights count. A
TENANT written to an unbound master changes its MBIND word, whatever the value. -/
def State.mayUpd (s w : State) (m t : Nat) (us : List Upd) (u : Upd) : Bool :=
  let has := w.holdsAll t (s.placesOf m u.f u.i u.j)
  let same := s.fieldValue m u.f u.i u.j == u.v && (!u.f.is Rg.mbindTenant || s.on Rg.mbindBound u.i)
  if u.f.has .selector then has .look
  else if u.f.has .needsRun then has .run
  else if u.f.has .needsOwn then u.v == 0 || (resetTargets u).all (fun g => w.holds t g none .own)
  else if u.f.has .t00 || u.f.is Rg.corrTenant then
    (if t = 0 then true else if u.f.has .command then u.v == 0 else same && has .set)
  else if u.f.has .share then
    (if same then has .set else t == 0 || ((w.ownerShare u.i u.j).1 == t && w.holds t u.i none .own))
  else if u.f.has .command then u.v == 0 || has .run
  else match u.f.acc with
    | .w1c => u.v == 0 || has .run
    | .w1s => u.v == 0 || has .run
    | _ =>
      has .set && (!u.f.has .function || same || t == 0 || w.tenantOf (2 + u.v) == some t) &&
      (!u.f.has .naming || (let o := s.named us u; w.holdsAll t o.1 o.2))

/-- A master may make a write: every right that the fields need for the values written (R649). An unbound master may make
none (R644). -/
def State.mayWrite (s : State) (m a : Nat) (us : List Upd) : Bool :=
  match s.asTested.tenantOf m, targetOf a with
  | some t, some _ => us.all (s.mayUpd s.asTested m t us)
  | _, _ => false

end Sys2Proof.Machine
end

