-- ==== Sys2Proof/Machine/RegPuts.lean ====
section
/-! DEFINITION. What a written field does, one entry for each field whose write does more than store its value. An entry
answers 0, or the Thotor error of the write: 304 for a value that the field's rule ignores, 401 for a refusal of the block,
402 for something in use (R579, R582, R823). Conditions are judged on `b`, the state before the word is written. -/
namespace Sys2Proof.Machine

/-- The state before the write, the state so far, the master and the field written. -/
abbrev Put := State → State → Nat → Upd → State × Nat

/-- Store the value. -/
def State.store (s : State) (u : Upd) : State := s.wr u.f u.v u.i u.j

def putPlain : Put := fun _ s _ u => (s.store u, 0)

/-- Writing 1 clears the bit. -/
def putClear : Put := fun _ s _ u =>
  let v := s.rd u.f u.i u.j
  (s.wr u.f (v - (v &&& u.v)) u.i u.j, 0)

/-- An effect that always takes place. -/
def putDo (k : State → Nat → Upd → State) : Put := fun _ s m u => (k s m u, 0)

/-- A command bit: the effect of writing 1. -/
def putCmd (k : State → Nat → Upd → State) : Put := fun _ s m u => (if u.v = 0 then s else k s m u, 0)

/-- A command that its block may refuse. -/
def putAsk (ok : State → Nat → Upd → Bool) (code : Nat) (k : State → Nat → Upd → State) : Put := fun _ s m u =>
  if u.v = 0 then (s, 0) else (k s m u, if ok s m u then 0 else code)

/-- An effect that is refused if the field does not read the value afterwards. -/
def putTry (k : State → Nat → Upd → State) : Put := fun _ s m u =>
  let t := k s m u
  (t, if t.rd u.f u.i u.j = u.v then 0 else 401)

/-- A value outside a range is ignored. -/
def putIn (lo hi : Nat) : Put := fun _ s _ u => if lo ≤ u.v ∧ u.v ≤ hi then (s.store u, 0) else (s, 304)

/-- A value that may be written only in a state. -/
def putIf (ok : State → Upd → Bool) (k : State → Upd → State) : Put := fun b s _ u =>
  if ok b u then (k s u, 0) else (s, 401)

/-- An event source's configuration: a reserved source ignores writes (R721). -/
def putSource : Put := fun _ s _ u => (if isSource u.i then s.store u else s, 0)

/-- The engine's own registers. -/
def putsEngine : List (Fld × Put) :=
  [(Rg.wakeEn, putDo (fun s _ u => s.wr Rg.wakeEn (u.v / 2 * 2))),
   (Rg.wakeMask, putDo (fun s _ u => if u.i = 0 then s else s.store u)),
   (Rg.fwStart, putCmd (fun s _ _ => s.fwStart)),
   (Rg.bootPushGo, putCmd (fun s _ _ => s.pushGo)),
   (Rg.bootBurnSvn, putCmd (fun s _ _ => s.burnSvn (s.rd Rg.bootFuseVal))),
   (Rg.bootRevoke, putCmd (fun s _ u => s.each (maskBits 2 u.v) State.revokeKey)),
   (Rg.bootFlashAddr, fun _ s _ u => (s.flashAddr u.v, if s.flash.op.isSome then 402 else 0)),
   (Rg.bootFlashData, fun _ s _ u => (s.flashDataWrite u.v, if s.flash.op.isSome then 402 else 0)),
   (Rg.bootFlashOp, fun _ s _ u => (s.flashOp u.v, if s.flash.op.isSome && u.v != 0 then 402 else 0)),
   (Rg.bellReserve, putIn 5 50),
   (Rg.bellSrc, putDo (fun s _ u => s.srcWrite u.v)),
   (Rg.bellPeriod, fun _ s _ u => (s.periodWrite u.v, if 12500 ≤ u.v ∧ u.v ≤ 5000000 then 0 else 304)),
   (Rg.jnlForceCkpt, putCmd (fun s _ _ => s.ckptCause)),
   -- the comparator is no longer armed once it is not enabled, and a write of THRESH leaves ARMED: DESIGN CHOICE, log entry 113
   (Rg.jnlPfEn, putDo (fun s _ u => if u.v = 0 then (s.store u).wr Rg.jnlPfArmed 0 else s.store u)),
   (Rg.jnlPfThresh, putIn 26 50),
   (Rg.pwVoteUp, putDo (fun s _ u => s.voteUp u.i u.v)),
   (Rg.pwVoteDown, putDo (fun s _ u => s.voteDown u.i u.v)),
   (Rg.pwTemperReq, fun _ s _ u => (s.temperRequest u.i u.v, if temperOk u.v then 0 else 401)),
   (Rg.pwTemperMax, putDo (fun s _ u => (s.store u).temperRefresh)),
   (Rg.pwPadRelease, putDo (fun s _ u => s.each (maskBits 5 u.v) State.releaseBank)),
   (Rg.th2TcapHot, putDo (fun s _ u => (s.store u).capRefresh)),
   (Rg.th2TcapWarm, putDo (fun s _ u => (s.store u).capRefresh)),
   (Rg.srcEn, putSource), (Rg.srcVecEn, putSource), (Rg.srcVector, putSource), (Rg.srcPins, putSource),
   (Rg.srcQmask, putSource),
   (Rg.unitReset, putCmd (fun s _ u => if u.i < 24 then s.unitReset u.i else s)),
   (Rg.evtDomReset, putDo (fun s _ u => s.each (maskBits 6 u.v) State.domainReset)),
   (Rg.injEn, putDo (fun s _ u => (if u.v = 0 then (s.store u).injDisarm else s.store u).testVote)),
   (Rg.injFull, putDo (fun s _ u => if u.v = 0 then (s.store u).injDisarm else s.store u)),
   (Rg.injFire, fun _ s _ u =>
     if u.v = 0 then (s, 0) else s.inject (s.rd Rg.injEvent) (s.rd Rg.injArg0) (s.rd Rg.injArg1)),
   (Rg.testHold, putDo (fun s _ u => s.testHoldWrite u.v)),
   (Rg.testMbistRun, putCmd (fun s _ _ => if s.on Rg.injEn then s.mbistBegin s.mbistMask else s))]

/-- A port's configuration is written only while its EN is 0 (R127). -/
def putPort (base : Nat) : Put := putIf (fun b u => !b.on Rg.portEn (base + u.i)) State.store

/-- Capture ports and camera control. -/
def putsCapture : List (Fld × Put) :=
  [(Rg.csiRate, putPort 0), (Rg.csiLinkTimeout, putPort 0), (Rg.csiContClk, putPort 0), (Rg.csiDlanes, putPort 0),
   (Rg.parPclkMhz, putPort 4), (Rg.parLinkTimeout, putPort 4), (Rg.parFieldMode, putPort 4), (Rg.parTrailGap, putPort 4),
   (Rg.parTrailEn, putPort 4), (Rg.parPclkEdge, putPort 4), (Rg.parDeEn, putPort 4), (Rg.parDePol, putPort 4),
   (Rg.parVsPol, putPort 4), (Rg.parHsPol, putPort 4), (Rg.parSync, putPort 4), (Rg.parWidth, putPort 4),
   (Rg.parVStart, putPort 4), (Rg.parHStart, putPort 4),
   (Rg.portEn, putTry (fun s _ u => if u.v = 1 then s.portEnableNow u.i else s.portDisableNow u.i)),
   (Rg.cciEn, putDo (fun s _ u => if u.v = 1 then s.store u else s.cciDisable u.i)),
   (Rg.cciCmdData, fun _ s _ u =>
     let t := s.cciWriteCmd2 u.i u.v
     (t, if (t.cciOf u.i).queue.length = (s.cciOf u.i).queue.length then 402 else 0))]

/-- A setting of an output stream that is written only while EN is 0 (R258). -/
def putStream : Put := putIf (fun b u => !b.on Rg.osEn u.i u.j) State.store

/-- Lanes, the Pipe, streams and latency units. -/
def putsLane : List (Fld × Put) :=
  [(Rg.lnCmdReset, putCmd (fun s _ u => s.laneReset u.i)),
   (Rg.lnCmdStop, putCmd (fun s _ u => s.laneStop u.i)),
   (Rg.lnCmdStart, fun b s _ u => if u.v = 0 then (s, 0) else if b.laneMayStart u.i then (s.laneStart u.i, 0) else (s, 401)),
   (Rg.lnObTrack, putDo (fun s _ u =>
     if u.v = 1 && !s.on Rg.lnObTrack u.i then (s.store u).modLane u.i (fun l => { l with obRestart := true })
     else s.store u)),
   (Rg.lnRefFill, putCmd (fun s _ u => s.wr Rg.lnFillPend 1 u.i)),
   (Rg.osEn, fun b s m u => if u.v = 1 ∧ !b.on Rg.osEn u.i u.j ∧ !b.streamFit u.i u.j then (s, 401) else
     putTry (fun s _ u => s.streamEnable u.i u.j (u.v == 1)) b s m u),
   (Rg.osNx, putDo (fun s _ u => s.wr Rg.osNx (clamp 64 512 u.v) u.i u.j)),
   (Rg.osNy, putDo (fun s _ u => s.wr Rg.osNy (clamp 64 512 u.v) u.i u.j)),
   (Rg.osBase, putStream), (Rg.osSlots, putStream), (Rg.osStride, putStream), (Rg.osFn, putStream),
   (Rg.lnContEn, putDo (fun s _ u => s.contWrite u.i false u.v)),
   (Rg.lnReorderWin, putDo (fun s _ u => s.contWrite u.i true u.v)),
   (Rg.pipeTblData, fun _ s m u => (s.tblDataWrite m u.v, if s.bankInUse (s.tblSel m) then 402 else 0)),
   (Rg.pipeTblCommit, putAsk (fun s m _ => s.bankPasses (s.tblSel m)) 401 (fun s m _ => s.tblCommit (s.tblSel m))),
   (Rg.pipeRefClear, putCmd (fun s _ _ => s.refClear (s.rd Rg.pipeRefClearSlot))),
   (Rg.outCoefTapLo, fun _ s m u =>
     (s.coefWrite (s.rd Rg.outCoefLane m) (s.rd Rg.outCoefStream m) (s.rd Rg.outCoefPhase m) (2 * u.i) u.v,
      if s.on Rg.osEn (s.rd Rg.outCoefLane m) (s.rd Rg.outCoefStream m) then 402 else 0)),
   (Rg.outCoefTapHi, fun _ s m u =>
     (s.coefWrite (s.rd Rg.outCoefLane m) (s.rd Rg.outCoefStream m) (s.rd Rg.outCoefPhase m) (2 * u.i + 1) u.v,
      if s.on Rg.osEn (s.rd Rg.outCoefLane m) (s.rd Rg.outCoefStream m) then 402 else 0)),
   (Rg.latChan, putDo (fun s _ u => s.latWrite u.i 0 u.v)),
   (Rg.latLane, putDo (fun s _ u => s.latWrite u.i 1 u.v)),
   (Rg.latEn, putDo (fun s _ u => s.latWrite u.i 2 u.v)),
   (Rg.latClear, putCmd (fun s _ u => s.latClear u.i))]

/-- A staged field of a correspondent (R516). -/
def putStaged : Put := putDo (fun s _ u => (s.store u).pendingSync u.i)

/-- KIND or ROUTE may change only while the correspondent holds nothing in the reservoir and has no open entitlement; any other
write of it is a configuration error (R515). `old` is its applied value. -/
def putRoute (old : CorrSt → Nat) : Put := fun b s m u =>
  if b.holdsAny u.i ∧ u.v ≠ old (b.corr u.i) then (s, 401) else putStaged b s m u

/-- A setting of a ring that is written only while ARM is 0 (R530). -/
def putRing : Put := putIf (fun b u => !b.on Rg.ringArm u.i) State.store

/-- What a page-list fetch returns where no operand gives it: host memory is outside the engine. -/
def State.fetchedPages (s : State) (n : Nat) : State × List Nat :=
  (List.range n).foldl (fun p _ => let r := p.1.free 64; (r.1, p.2 ++ [r.2])) (s, [])

/-- Delivery: correspondents, rings, Jexnus contexts and sessions. -/
def putsNet : List (Fld × Put) :=
  [(Rg.corrKind, putRoute CorrSt.kind), (Rg.corrRoute, putRoute CorrSt.route), (Rg.corrTenant, putStaged), (Rg.corrLanes, putStaged),
   (Rg.corrSymMask, putStaged), (Rg.corrNoticeCap, putStaged), (Rg.corrQuota, putStaged),
   (Rg.corrApply, putAsk (fun s _ u => s.applyOk u.i) 401 (fun s _ u => s.applyStaged u.i)),
   (Rg.ringArm, fun b s _ u =>
     if u.v = 0 then (s.ringDisarm u.i, 0)
     else if s.on Rg.ringArm u.i then (s, 0)
     else if b.armOk u.i then (let p := s.fetchedPages 64; (p.1.ringRebuild u.i p.2, 0)) else (s, 401)),
   (Rg.ringPageList, putRing), (Rg.ringProdAddr, putRing), (Rg.ringSlotsLog2, putRing), (Rg.ringFn, putRing),
   (Rg.ringVector, putRing),
   (Rg.ringCons, putTry (fun s _ u => s.consWrite u.i u.v)),
   (Rg.jxsClose, putCmd (fun s _ u => s.jxBye u.i 2)),
   (Rg.sesClose, putCmd (fun s _ u => s.sesClose u.i)),
   (Rg.sesFlow, putDo (fun s _ u => if u.i < 2 then s.store u else s)),
   (Rg.sesBaud, putDo (fun s _ u => if u.i < 2 then (s.store u).modSes u.i (fun y => { y with baud := if u.v < 8 then u.v else 4 })
     else s)),
   (Rg.thConsoleAuto, putDo (fun s _ u => s.consoleAutoWrite u.v))]

/-- A DOUT setting that acts at once. -/
def putDout : Put := putDo (fun s _ u => (s.store u).doutRefresh u.i)

/-- Bellows. -/
def putsBellows : List (Fld × Put) :=
  [(Rg.ledGang, putDo (fun s _ u => if u.i % 2 = 1 then s.store u else s)),
   (Rg.ledISet, putDo (fun s _ u => (s.wr Rg.ledISet (clamp 50 3000 u.v) u.i).modLed u.i (fun l => { l with avgSum := 0, avgCount := 0 }))),
   (Rg.ledTrim, putIf (fun b u => !b.on Rg.ledTrimEn u.i) State.store),
   (Rg.ledQen, putDo (fun s _ u =>
     if u.v = 1 && !s.on Rg.ledQen u.i then (s.store u).modLed u.i (fun l => { l with lastSample := s.now })
     else s.store u)),
   (Rg.ledShort, putCmd (fun s _ u => s.ledShortClear u.i)),
   (Rg.ledShortV, putDo (fun s _ u => s.wr Rg.ledShortV (clamp 4 36 u.v) u.i)),
   (Rg.ledTrimCapture, putCmd (fun s _ u => s.modLed u.i (fun l => { l with capture := true }))),
   (Rg.doutOut, putDout), (Rg.doutMode, putDout), (Rg.doutPol, putDout), (Rg.doutFollow, putDout),
   (Rg.doutOverload, putCmd (fun s _ u => s.doutOverloadClear u.i)),
   (Rg.doutTied, putCmd (fun s _ u => (s.wr Rg.doutTied 0 u.i).doutRefresh u.i)),
   (Rg.doutBackfeed, putCmd (fun s _ u => (s.wr Rg.doutBackfeed 0 u.i).doutRefresh u.i)),
   (Rg.encPos, putDo (fun s _ u => s.encLoad u.i u.v none none))]

/-- A setting of a channel's digital chain: it waits for the next sample boundary (R449, R474). -/
def putChain : Put := putDo (fun s _ u => (s.store u).chanNote u.i u.f)

/-- The sensor front end. -/
def putsSfe : List (Fld × Put) :=
  [(Rg.saEn, fun b s m u => if u.v = 1 ∧ !b.chanMayEnable u.i then (s, 401) else
     putTry (fun s _ u => if u.v = 1 then s.chanEnable u.i else (s.chanDisable u.i).rotAdvance) b s m u),
   (Rg.saRangeMode, putDo (fun s _ u => s.rangeWrite u.i u.f u.v)),
   (Rg.saGain, putDo (fun s _ u => s.rangeWrite u.i u.f u.v)),
   (Rg.excIUa, putDo (fun s _ u => s.wr Rg.excIUa (clamp 10 1000 u.v) u.i)),
   (Rg.saExcSel, putDo (fun s _ u => (s.store u).leakShow u.i)),
   (Rg.saPreset, putIf (fun b u => b.rd Rg.saPreset u.i == u.v ||
     (!b.chanOn u.i && !(b.on Rg.flkEn && b.rd Rg.flkChan == u.i))) State.store),
   (Rg.saCheckNow, putCmd (fun s _ u => s.checkNow u.i)),
   (Rg.sdFirSwap, putAsk (fun s _ u => s.firValid u.i (1 - s.rd Rg.sdFirActive u.i)) 401
     (fun s _ u => s.firRequest u.i 0 1)),
   (Rg.sdFirSrc, putTry (fun s _ u => s.firRequest u.i 1 u.v)),
   (Rg.sdMinph, putDo (fun s _ u => s.firRequest u.i 2 u.v)),
   (Rg.sdSpike, putChain), (Rg.sdSpikeThr, putChain), (Rg.sdLinMode, putChain), (Rg.sdLinTable, putChain),
   (Rg.sdTchan, fun _ s _ u => if u.v = u.i then (s, 401) else ((s.store u).chanNote u.i u.f, 0)),
   (Rg.sdLinSwap, putAsk (fun s _ u => s.linValid (1 - s.rd Rg.sdLinBank u.i)) 401 (fun s _ u => s.linSwap u.i)),
   (Rg.firTap, fun _ s m u =>
     (s.firDataWrite m u.v, if s.firInUse (s.rd Rg.firSelChan m) (s.rd Rg.firSelBank m) then 402 else 0)),
   (Rg.firCommit, putAsk (fun s m _ => !s.firInUse (s.rd Rg.firSelChan m) (s.rd Rg.firSelBank m)) 402
     (fun s m _ => s.firCommit (s.rd Rg.firSelChan m) (s.rd Rg.firSelBank m) (s.rd Rg.firLen))),
   (Rg.linData, fun _ s m u => (s.linDataWrite m u.v, if s.linInUse (s.rd Rg.linSelBank m) then 402 else 0)),
   (Rg.linCommit, putAsk (fun s m _ => !s.linInUse (s.rd Rg.linSelBank m)) 402
     (fun s m _ => s.linCmd m (s.rd Rg.linNp))),
   (Rg.calNow, putCmd (fun s _ _ => if s.rd Rg.calPhase = 0 then s.modRot (fun r => { r with now := true }) else s)),
   (Rg.flkEn, fun b s _ u => if u.v = 1 ∧ !b.flkMayRun then (s, 401) else (s.flkEnSet u.v, 0))]

def puts : List (Fld × Put) := putsEngine ++ putsCapture ++ putsLane ++ putsNet ++ putsBellows ++ putsSfe

/-- The effect of one written field that no rule takes together with others. -/
def putOne : Put := fun b s m u =>
  match puts.find? (fun e => e.1.is u.f) with
  | some e => e.2 b s m u
  | none => if u.f.acc = .w1c then putClear b s m u else putPlain b s m u

end Sys2Proof.Machine
end

