-- ==== Sys2Proof/Machine/RegWrite.lean ====
section
/-! DEFINITION. Writes of registers: the fields that rules take together, the order of the fields of a word, a write by a
master, and the commands that are accesses to registers (R649, R668, R669, R720, R774, R823, R827). -/
namespace Sys2Proof.Machine

/-! ### Fields that are taken together -/

/-- The fields of a write that a rule judges together, by kind and object. -/
inductive Joint where
  | strobe (n : Nat)
  | routing
  | binding (n : Nat)
  | settings (c : Nat)
  | thermal
  | quench (n : Nat)
  | master (m : Nat)
  | rights (g t : Nat)
  | object (g o : Nat)
  deriving DecidableEq, Repr

/-- The group that a written field belongs to, if it belongs to one. -/
def Upd.joint (u : Upd) : Option Joint :=
  let among := fun (l : List Fld) => l.any (fun f => f.is u.f)
  if u.f.has .binding then some (.binding u.i)
  else if among [Rg.ledEn, Rg.ledWidth, Rg.ledMaxPulses, Rg.ledTrimEn] then some (.strobe u.i)
  else if among [Rg.saXpP, Rg.saXpN, Rg.excXpF, Rg.excXpRtn, Rg.excDest, Rg.xpBias] then some .routing
  else if among [Rg.corrResume, Rg.corrStallTimeout, Rg.corrJxCode] then some (.settings u.i)
  else if among [Rg.th2ThrWarm, Rg.th2ThrHot, Rg.th2ThrCrit] then some .thermal
  else if u.f.is Rg.ledThr then some (.quench u.i)
  else if among [Rg.mbindTenant, Rg.mbindUnbind] then some (.master u.i)
  else if among [Rg.accOwn, Rg.accRun, Rg.accSet, Rg.accLook] then some (.rights u.i u.j)
  else if among [Rg.accOwner, Rg.accShare] then some (.object u.i u.j)
  else none

/-- Store every field of a list. -/
def State.storeAll (s : State) (us : List Upd) : State := s.each us State.store

/-- Every field of a list reads the value written. -/
def State.tookAll (s : State) (us : List Upd) : Bool := us.all (fun u => s.rd u.f u.i u.j == u.v)

/-- The routing field of R400 that a field is. Only S16 to S23 have XP_P and XP_N (Table SFE-A.4). -/
def Upd.routing (u : Upd) : Option (RouteFld × Nat) :=
  if h : u.i < 24 then
    if u.f.is Rg.saXpP then (if u.i < 16 then none else some (.xpP ⟨u.i, h⟩, u.v))
    else if u.f.is Rg.saXpN then (if u.i < 16 then none else some (.xpN ⟨u.i, h⟩, u.v))
    else if h2 : u.i < 16 then
      if u.f.is Rg.xpBias then some (.bias ⟨u.i, h2⟩, u.v)
      else if h3 : u.i < 4 then
        if u.f.is Rg.excXpF then some (.xpF ⟨u.i, h3⟩, u.v)
        else if u.f.is Rg.excXpRtn then some (.xpRtn ⟨u.i, h3⟩, u.v)
        else if u.f.is Rg.excDest then some (.dest ⟨u.i, h3⟩, u.v) else none
      else none
    else none
  else none

/-- The thermal thresholds stay in order (R697). -/
def State.thermalOrder (s : State) : Bool :=
  decide (s.rdI Rg.th2ThrWarm < s.rdI Rg.th2ThrHot) && decide (s.rdI Rg.th2ThrHot < s.rdI Rg.th2ThrCrit) &&
  decide (s.rdI Rg.th2ThrCrit ≤ 11500)

/-- The Quench thresholds of a sink stay in order (R375). -/
def State.quenchOrder (s : State) (n : Nat) : Bool :=
  decide (s.quenchThr n 1 ≤ s.quenchThr n 2) && decide (s.quenchThr n 2 ≤ s.quenchThr n 3) &&
  decide (s.quenchThr n 3 ≤ s.quenchThr n 4)

/-- One SETTINGS entry with the written values of RESUME, STALL_TIMEOUT and JX_CODE (R110). -/
def State.corrSettings (s : State) (c : Nat) (us : List Upd) : State :=
  let x := s.settingsNow c
  let pick : Fld → Nat → Nat := fun f old => if us.any (fun u => u.f.is f) then s.newValue us f c else old
  s.settingsEntry c { x with resume := pick Rg.corrResume x.resume, stallTimeout := pick Rg.corrStallTimeout x.stallTimeout,
                             jxCode := pick Rg.corrJxCode x.jxCode }

/-- A TRIGHTS word is written by master `m`; TRIGHTS_0 stays (Table Access.5). A change raises E0786 (R670), and sessions
whose right is gone close (R662). -/
def State.rightsWrite (s : State) (m t : Nat) (us : List Upd) : State :=
  if t = 0 ∨ s.tookAll us then s
  else (((s.keepFields (us.map (fun u => (u.f, u.i, u.j)))).storeAll us).raise 786 m t).jxRights

/-- An object word can be written: it is one of OBJECTS, and its owner is not fixed (Table Access.5). -/
def ownerOpen (g o : Nat) : Bool := decide (o < objectsOf g) && g != 0x30

/-- Owner and SHARE of an object are written by master `m`; the owners of event queues and Jexnus contexts are fixed. A
change raises E0787 (R663, R670). -/
def State.objectWrite (s : State) (m g o : Nat) (us : List Upd) : State :=
  let g' := if g = 0x3C ∧ o < 24 then 0x3A else g
  let mine := us.filter (fun u => u.f.is Rg.accShare || !(g == 4 || (g == 0x36 && decide (2 ≤ o))))
  let us' := mine.map (fun u => { u with i := g' })
  if !ownerOpen g o || s.tookAll us' then s
  else
    let s1 := (s.keepFields (us'.map (fun u => (u.f, u.i, u.j)))).storeAll us'
    (s1.raise 787 m (s1.ownerShare g o).1).jxRights

/-- The effect of the fields of a group. -/
def State.putJoint (b s : State) (m : Nat) (k : Joint) (us : List Upd) : State × Nat :=
  match k with
  | .strobe n =>
    let t := s.strobeWrite n (us.map (fun u => (u.f, u.v)))
    (t, if t.tookAll us then 0 else 401)
  | .routing =>
    let l := us.filterMap Upd.routing
    (s.route l, if s.routeMay l then 0 else 401)
  | .binding n =>
    if !b.bindable n then (s, 401)
    else
      let t := (s.storeAll us).bindRetest n
      (t, if t.rd Rg.lnPort n != 7 && t.on Rg.lnBindPend n then 401 else 0)
  | .settings c => (s.corrSettings c us, 0)
  | .thermal => let t := s.storeAll us; if t.thermalOrder then (t, 0) else (s, 401)
  | .quench n => let t := s.storeAll us; if t.quenchOrder n then (t, 0) else (s, 401)
  | .master n =>
    if us.any (fun u => u.f.is Rg.mbindUnbind && u.v == 1) then (s.unbind n, 0)
    else match us.find? (fun u => u.f.is Rg.mbindTenant) with
      | some u => (s.bindTo n u.v 1, 0)
      | none => (s, 0)
  | .rights _ t => (s.rightsWrite m t us, 0)
  | .object g o => (s.objectWrite m g o us, 0)

/-! ### The order of the fields -/

/-- Data before settings, settings before the enables that use them, and those before commands. -/
def Upd.rank (u : Upd) : Nat :=
  if u.f.acc = .wo then (if u.f.has .datum then 0 else 3)
  else if [Rg.portEn, Rg.cciEn, Rg.osEn, Rg.saEn, Rg.flkEn, Rg.ringArm, Rg.latEn, Rg.ledEn, Rg.injEn].any (fun f => f.is u.f)
  then 2 else 1

/-- The fields of a write in their order. -/
def inOrder (us : List Upd) : List Upd :=
  (List.range 4).flatMap (fun k => us.filter (fun u => u.rank == k))

/-- Apply the fields of a write one after the other; each group is applied at the first of its fields. `whole` is the whole
write; the answer lists the fields that were not taken with their errors. -/
def State.applyOrdered (b : State) (m : Nat) (whole : List Upd) : State → List Joint → List Upd → State × List (Upd × Nat)
  | s, _, [] => (s, [])
  | s, done, u :: rest =>
    match u.joint with
    | some k =>
      if done.contains k then State.applyOrdered b m whole s done rest
      else
        let r := b.putJoint s m k (whole.filter (fun x => x.joint == some k))
        let t := State.applyOrdered b m whole r.1 (k :: done) rest
        (t.1, if r.2 = 0 then t.2 else (u, r.2) :: t.2)
    | none =>
      let r := putOne b s m u
      let t := State.applyOrdered b m whole r.1 done rest
      (t.1, if r.2 = 0 then t.2 else (u, r.2) :: t.2)

/-- The lanes whose next latch takes a field: the lane of a shadow field, and any running lane for a word of a symbology set. -/
def State.latchedBy (s : State) (u : Upd) : List Nat :=
  if u.f.has .shadow || u.f.is Rg.lnLatchHold then [u.i]
  else if [Rg.symMaxLen, Rg.symMinLen, Rg.symOpt].any (fun f => f.is u.f) then (List.range 64).filter s.isRunning
  else []

/-- A write of shadow fields leaves what stood before it to a latch of the same tick (R194, R291). -/
def State.noteWrite (s : State) (us : List Upd) : State :=
  s.each (us.flatMap s.latchedBy) (fun st n => st.noteShadow n)

/-- Apply a write of fields by master `m` (R823). -/
def State.applyUpds (s0 : State) (m : Nat) (us : List Upd) : State × List (Upd × Nat) :=
  let s := s0.noteWrite us
  s.applyOrdered m us s [] (inOrder us)

/-- Apply the assignments of a Thotor set by master `m`: it is no write of one word, so its enables and commands are judged on
the settings that it makes (R823). -/
def State.applySet (s0 : State) (m : Nat) (us : List Upd) : State × List (Upd × Nat) :=
  let s := s0.noteWrite us
  let first := (inOrder us).filter (fun u => decide (u.rank < 2))
  let done := first.filterMap Upd.joint
  let r := s.applyOrdered m us s [] first
  let t := State.applyOrdered r.1 m us r.1 done ((inOrder us).filter (fun u => decide (2 ≤ u.rank)))
  (t.1, r.2 ++ t.2)

/-! ### Writes by a master -/

/-- A write of a word by master `m`: it is allowed whole or denied whole (R649). -/
def State.regWrite (s : State) (m a x : Nat) : State :=
  let us := s.updsAt m a x
  s.guardWrite m a (s.mayWrite m a us) (fun st => (st.applyUpds m us).1)

/-- REGISTER_WRITE. -/
def doRegisterWrite (m : MasterId) (w : RegWord) (v : Word) (s : State) : State := s.regWrite m.val (wordAddr w) v.toNat

/-- ACCESS_TABLE_WRITE: a write of a word of an access table. -/
def doAccessTableWrite (m : MasterId) (w : RegWord) (v : Word) (s : State) : State :=
  if (tableOf (wordAddr w)).isSome then s.regWrite m.val (wordAddr w) v.toNat else s

/-- MBIND_WRITE: master `m` writes TENANT of MBIND_n (R669). -/
def doMbindWrite (m : MasterId) (n : MasterId) (t : TenantId) (s : State) : State :=
  s.regWrite m.val (0x200 + 4 * n.val) (t.val * 2 ^ 16)

/-- MASTER_UNBIND: master `m` writes UNBIND = 1 to MBIND_n. -/
def doMasterUnbind (m : MasterId) (n : MasterId) (s : State) : State := s.regWrite m.val (0x200 + 4 * n.val) 1

/-- PEND_CLEAR: 1s written to the PEND word of a group (R720). -/
def doPendClear (m : MasterId) (g : Fin 32) (mask : Word) (s : State) : State :=
  s.regWrite m.val (0x40100 + 4 * g.val) mask.toNat

/-- JTAG_REG_ACCESS: an update of the REG_ACCESS data register, [63:32] data, [31:8] address, [1] write, [0] go, as master
M01 (R774). -/
def doJtagRegAccess (dr : BitVec 64) (s : State) : State :=
  let d := dr.toNat
  let a := d / 2 ^ 8 % 2 ^ 24 / 4 * 4
  if s.jtag.ir != 0x20 || d % 2 == 0 then s
  else if d / 2 % 2 = 1 then s.regWrite 1 a (d / 2 ^ 32)
  else s.regRead 1 a

end Sys2Proof.Machine
end

