-- ==== Sys2Proof/Machine/Catalogue.lean ====
section
/-! DEFINITION. The catalogue as Thotor sees it: paths and their fields, values as text, get and set (R578 to R582, R588, R589,
R654, R824). -/
namespace Sys2Proof.Machine

/-! ### Names -/

/-- The names of the domains (Table Power.1). -/
def domainNames : List Text := ["PIPE", "ANVIL_A", "ANVIL_B", "HOST", "SFE", "BELLOWS"].map tx

/-- The names of the capture ports. -/
def portNames : List Text := ["CSI_A", "CSI_B", "CSI_C", "CSI_D", "PAR_A", "PAR_B"].map tx

/-- The names of the families (R314). -/
def familyNames : List Text :=
  ["code128", "code39", "ean", "i2of5", "databar", "codabar", "qr", "microqr", "datamatrix", "pdf417", "micropdf", "aztec",
   "slate_s", "slate_l"].map tx

/-- The path names of the targets but for the Anvils (Table Access.2). -/
def targetNames : List (Nat × Text) :=
  [(0, "hearth"), (1, "bell"), (2, "journal"), (4, "events"), (5, "power"), (6, "thermal"), (8, "capture"), (0x10, "lane"),
   (0x14, "pipe"), (0x18, "stats"), (0x1C, "out"), (0x28, "symbology"), (0x30, "corr"), (0x34, "ring"), (0x36, "eth"),
   (0x38, "thotor"), (0x3A, "sfe_a"), (0x3C, "sfe_d"), (0x40, "bellows"), (0x42, "test")].map (fun e => (e.1, tx e.2))

/-- The fields whose values are written in hexadecimal: masks, marks, flags, data words, addresses, identifiers and
fractions (R580). -/
def hexFields : List Fld :=
  [Rg.hearthPart, Rg.hearthVendor, Rg.wakeEn, Rg.wakeMask, Rg.fwImage, Rg.bootBistFail, Rg.bootVersion,
   Rg.bootRevoked, Rg.bellTtScale, Rg.pwPadHeld, Rg.rollVotes, Rg.rollInternal, Rg.th2SensorFault, Rg.evtPinPol,
   Rg.evtPend, Rg.srcPins, Rg.srcQmask, Rg.injGroups, Rg.accShare, Rg.lnCredit, Rg.lnDt, Rg.lnErrClass,
   Rg.lnMarkLast, Rg.lnWg, Rg.lnSat, Rg.lnKnee, Rg.lnPmarkLast, Rg.lnMirrorAddr, Rg.lnAeReg, Rg.lnAeDev,
   Rg.lnAeDeadband, Rg.lnAeZones, Rg.lnWbUnity, Rg.lnWbRegB, Rg.lnWbRegR, Rg.osBase, Rg.lnSymEn, Rg.lnAperture,
   Rg.symOpt, Rg.gs1TableVer, Rg.lnSidExpect, Rg.lnSidLast, Rg.statDramBase, Rg.ledFlkPhase, Rg.ledLref, Rg.saSlots,
   Rg.sdFlags, Rg.modtGain, Rg.flkPhaseNow, Rg.lnFlkStep, Rg.corrLanes, Rg.corrSymMask, Rg.ringPageList,
   Rg.ringProdAddr, Rg.pcieWinBase, Rg.ethMac, Rg.ethIp, Rg.ethNetmask, Rg.ethGateway, Rg.jxsToken, Rg.jxsPeerIp,
   Rg.thAllow, Rg.thTcpEn, Rg.pwVoteUp]

/-! ### Paths -/

/-- Index of a word in a list of names, read without regard to case. -/
def nameIndex (l : List Text) (w : Text) : Option Nat := l.findIdx? (sameWord w)

/-- A plain decimal number. -/
def plainNat (w : Text) : Option Nat := readDigits 10 false false 0 w

/-- An index along a dimension. -/
def setDim (x : Nat × Nat) (dim v : Nat) : Nat × Nat := if dim = 0 then (v, x.2) else (x.1, v)

/-- An index below the length of its dimension, counted from the first one named. -/
def dimRead (n : Nat × Nat) (x : Nat × Nat) (dim first : Nat) : Option Nat → Option (Nat × Nat)
  | none => none
  | some v =>
    if first ≤ v ∧ v - first < (if dim = 0 then n.1 else n.2) then some (setDim x dim (v - first)) else none

/-- Read one word of a path, or two for the target of an Anvil; the answer is the rest and the indices. -/
def Seg.read (g : Seg) (n x : Nat × Nat) : List Text → Option (List Text × (Nat × Nat))
  | [] => none
  | w :: r =>
    let keep := fun (y : Option (Nat × Nat)) => y.map (fun z => (r, z))
    match g with
    | .lit t => if sameWord w (tx t) then some (r, x) else none
    | .plain dim first => keep (dimRead n x dim first (plainNat w))
    | .obj c digits dim => keep (dimRead n x dim 0 (readObj c digits (10 ^ digits) w))
    | .two dim => keep (dimRead n x dim 0 (if w.length = 2 then plainNat w else none))
    | .port dim first => keep (dimRead n x dim first (nameIndex portNames w))
    | .letter dim => keep (dimRead n x dim 0 (nameIndex (["A", "B", "C", "D"].map tx) w))
    | .domain dim => keep (dimRead n x dim 0 (nameIndex domainNames w))
    | .family dim => keep (dimRead n x dim 0 (nameIndex familyNames w))
    | .target dim =>
      if sameWord w (tx "anvil") then
        match r with
        | a :: r' => (match plainNat a with
          | some v => if v < 8 ∧ a.length = 1 then some (r', setDim x dim (0x20 + v)) else none
          | none => none)
        | [] => none
      else match targetNames.find? (fun e => sameWord w e.2) with
        | some e => some (r, setDim x dim e.1)
        | none => none

/-- Read a whole path. -/
def readSegs (n : Nat × Nat) : List Seg → Nat × Nat → List Text → Option (Nat × Nat)
  | [], x, [] => some x
  | [], _, _ => none
  | g :: gs, x, ws => match g.read n x ws with
    | some (r, y) => readSegs n gs y r
    | none => none

/-- How one word of a path is written (R578). -/
def Seg.text (g : Seg) (x : Nat × Nat) : Text :=
  let at_ := fun (dim : Nat) => if dim = 0 then x.1 else x.2
  match g with
  | .lit t => tx t
  | .plain dim first => dec (at_ dim + first)
  | .obj c digits dim => c :: decN digits (at_ dim)
  | .two dim => dec2 (at_ dim)
  | .port dim first => portNames.getD (at_ dim + first) []
  | .letter dim => [Char.ofNat (65 + at_ dim)]
  | .domain dim => domainNames.getD (at_ dim) []
  | .family dim => familyNames.getD (at_ dim) []
  | .target dim =>
    if 0x20 ≤ at_ dim ∧ at_ dim < 0x28 then tx "anvil." ++ dec (at_ dim - 0x20)
    else match targetNames.find? (fun e => e.1 == at_ dim) with
      | some e => e.2
      | none => []

/-- A path in catalogue case. -/
def Fld.pathText (f : Fld) (i j : Nat) : Text := joinWith ['.'] (f.path.map (fun g => g.text (i, j)))

/-- One element of a field array. -/
structure Elem where
  f : Fld
  i : Nat
  j : Nat
  deriving DecidableEq, Repr

/-- The order of the fields that share a path: the highest offset first, then the highest bit (R824). -/
def Elem.above (a b : Elem) : Bool := decide (b.f.base < a.f.base) || (a.f.base == b.f.base && decide (b.f.lsb < a.f.lsb))

/-- An element exists: access tables have object words for their own objects only, wake codes begin at 1, only S16 to S23 have
XP_P and XP_N, and only odd sinks have GANG. -/
def Elem.exists_ (e : Elem) : Bool :=
  (!(e.f.is Rg.accOwner || e.f.is Rg.accShare) || ownerOpen e.i e.j) && !(e.f.is Rg.wakeMask && e.i == 0)
  && !((e.f.is Rg.saXpP || e.f.is Rg.saXpN) && decide (e.i < 16)) && !(e.f.is Rg.ledGang && e.i % 2 == 0)

/-- The fields that a path stands for, in the order in which they are joined; none for a path that does not exist. Fields
banked by tenant are those of tenant t. -/
def pathElems (t : Nat) (path : Text) : List Elem :=
  let ws := splitAt' '.' path
  let l := catalogue.filterMap (fun f =>
    if f.path.isEmpty then none
    else match readSegs (f.n1, f.n2) f.path (0, 0) ws with
      | some x => some ({ f := f, i := if f.bank = .tenant then t else x.1, j := x.2 } : Elem)
      | none => none)
  (l.filter Elem.exists_).mergeSort Elem.above

/-! ### Values as text -/

/-- A value as its path's radix has it (R580). -/
def valueText (f : Fld) (v : Nat) : Text :=
  if hexFields.any (fun g => g.is f) then hexW f.width v
  else if f.has .signed then decI (toSigned f.width v) else dec v

/-- Bits of all the fields of a path. -/
def elemsWidth (l : List Elem) : Nat := (l.map (fun e => e.f.width)).sum

/-- The joined value of fields, the first one highest (R824). -/
def joinValues (l : List (Nat × Nat)) : Nat := l.foldl (fun acc e => acc * 2 ^ e.1 + e.2) 0

/-- The parts of a joined value, for each field of a path. -/
def splitValue : List Elem → Nat → List (Elem × Nat)
  | [], _ => []
  | e :: l, v => (e, v / 2 ^ elemsWidth l % 2 ^ e.f.width) :: splitValue l v

/-- Read the value of an assignment to a field: it must have the right form and fit the width (R579). -/
def readValue (f : Fld) (t : Text) : Option Nat :=
  if f.has .signed ∧ !(t.take 2 == ['0', 'x'] || t.take 2 == ['0', 'X'] || t.take 2 == ['0', 'b'] || t.take 2 == ['0', 'B'])
  then match readInt t with
    | some v => if -(2 ^ (f.width - 1) : Int) ≤ v ∧ v < (2 ^ (f.width - 1) : Int) then some (ofSigned f.width v) else none
    | none => none
  else match readNat t with
    | some v => if v < 2 ^ f.width then some v else none
    | none => none

/-! ### Answers -/

/-- What a verb answers (R581). -/
inductive Reply where
  /-- lines of data; without any, ok -/
  | data (l : List Text)
  | ok
  | job (ordinal : Nat)
  | err (code : Nat) (detail : Text)
  /-- the verb waits, or its session is gone: nothing is sent now -/
  | later
  deriving DecidableEq, Repr

/-- The names of the error codes (Table Thotor.3). -/
def errNames : List (Nat × String) :=
  [(101, "SYNTAX"), (102, "LINE_TOO_LONG"), (103, "BAD_CHAR"), (104, "BAD_CHECK"), (105, "BAD_TAG"), (106, "TOO_MANY"),
   (107, "NO_VERB"), (201, "NOT_LOGGED_IN"), (202, "LOGIN_FAILED"), (203, "DENIED"), (204, "LOCKED"), (301, "NO_PATH"),
   (302, "READ_ONLY"), (303, "WRITE_ONLY"), (304, "BAD_VALUE"), (401, "CONFIG"), (402, "BUSY"), (403, "PAUSED"),
   (404, "POWERED_DOWN"), (405, "NO_SESSION"), (501, "RETRY"), (502, "INTERNAL")]

def errName (c : Nat) : Text := match errNames.find? (fun e => e.1 == c) with | some e => tx e.2 | none => []

/-- The status line of an answer: ok, or err with its code, name and detail (R576, R581). -/
def Reply.status : Reply → Text
  | .data _ => tx "ok"
  | .ok => tx "ok"
  | .job _ => tx "ok"
  | .err c d => tx "err " ++ dec c ++ ' ' :: errName c ++ (if d.isEmpty then [] else ' ' :: d)
  | .later => []

/-! ### Get (R588) -/

/-- The domain of a field is away (R599, R681). -/
def State.elemDown (s : State) (e : Elem) : Bool :=
  match e.f.bank with
  | .table => false
  | .none =>
    (let a := e.f.base + e.i * e.f.s1 + e.j * e.f.s2
     match s.gateAt a with | .down _ => true | _ => false)
  | _ => false

/-- Tenant t holds a right on the target of a path, and on its object (R654). -/
def State.elemRight (s : State) (m t : Nat) (l : List Elem) (r : Right) : Bool :=
  l.all (fun e => s.holdsAll t (s.placesOf m e.f e.i e.j) r)

/-- What keeps a path from being read; 0 for nothing. -/
def State.getFault (s : State) (m t : Nat) (l : List Elem) : Nat :=
  if l.isEmpty then 301
  else if l.all (fun e => e.f.acc == .wo) then 303
  else if !s.elemRight m t l .look then 203
  else if l.any s.elemDown then 404
  else 0

/-- The value of a path as text; VIN is a measurement from outside. -/
def State.getText (s : State) (m : Nat) (l : List Elem) : State × Text :=
  match l with
  | [] => (s, [])
  | [e] =>
    if e.f.is Rg.supplyVinMv then (let r := s.free 16; (r.1, dec r.2))
    else (s, valueText e.f (s.fieldValue m e.f e.i e.j))
  | e :: _ =>
    if e.f.is Rg.hearthStepMajor then
      (s, Char.ofNat (65 + s.rd Rg.hearthStepMajor) :: dec (s.rd Rg.hearthStepMinor))
    else if e.f.is Rg.pwVoteDown || e.f.is Rg.pwVoteUp then (s, hexW 6 (s.voteSet e.i))
    else (s, hexW (elemsWidth l) (joinValues (l.map (fun e => (e.f.width, s.fieldValue m e.f e.i e.j)))))

/-- The name of a path as the engine writes it. -/
def elemsPath : List Elem → Text
  | [] => []
  | e :: _ => e.f.pathText e.i e.j

/-- A get of paths by master m, bound to tenant t. -/
def State.getPaths (s : State) (m t : Nat) (paths : List Text) : State × Reply :=
  if paths.isEmpty then (s, .err 101 [])
  else if 32 < paths.length then (s, .err 106 [])
  else
    let ls := paths.map (fun p => (p, pathElems t p))
    match ls.find? (fun e => s.getFault m t e.2 != 0) with
    | some e => (s, .err (s.getFault m t e.2) e.1)
    | none =>
      let r := ls.foldl (fun (acc : State × List Text) e =>
        let v := acc.1.getText m e.2
        (v.1, acc.2 ++ [elemsPath e.2 ++ '=' :: v.2])) (s, [])
      let rc := (ls.flatMap Prod.snd).filter (fun e => e.f.acc == .rc)
      (r.1.each rc (fun st e => st.wr e.f 0 e.i e.j), .data r.2)

/-! ### Set (R589) -/

/-- The writes that an assignment asks for, or the error that it meets before the block's own rules. -/
def State.assign (s : State) (t : Nat) (path value : Text) : Except Nat (List Upd) :=
  let l := pathElems t path
  if l.isEmpty then .error 301
  else if l.all (fun e => !e.f.reaches e.i) || l.any (fun e => e.f.is Rg.hearthStepMajor) then .error 302
  else
    let whole := match l with
      | [e] => readValue e.f value
      | _ =>
        (let w := if l.any (fun e => e.f.is Rg.pwVoteUp) then 6 else elemsWidth l
         match readNat value with | some v => if v < 2 ^ w then some v else none | none => none)
    match whole with
    | none => .error 304
    | some v =>
      let us : List Upd :=
        if l.any (fun e => e.f.is Rg.pwVoteUp) then
          (let old := s.voteSet t
           [{ f := Rg.pwVoteUp, i := t, j := 0, v := v - (v &&& old), raw := v - (v &&& old) },
            { f := Rg.pwVoteDown, i := t, j := 0, v := old - (old &&& v), raw := old - (old &&& v) }])
        else (splitValue l v).map (fun e => { f := e.1.f, i := e.1.i, j := e.1.j, v := e.2, raw := e.2 })
      if l.any s.elemDown then .error 404 else .ok us

/-- A write of the same field later in a list replaces an earlier one. -/
def lastUpds : List Upd → List Upd
  | [] => []
  | u :: l => if l.any (fun x => x.f.is u.f && x.i == u.i && x.j == u.j) then lastUpds l else u :: lastUpds l

/-- The writes of the assignments, in order, with their texts; the first one that fails, with its error. -/
def State.assignAll (s : State) (t : Nat) : List (Text × Text) → List (Text × List Upd) × Option (Text × Nat)
  | [] => ([], none)
  | (p, v) :: rest =>
    match s.assign t p v with
    | .error c => ([], some (p, c))
    | .ok us =>
      let r := s.assignAll t rest
      ((p, us) :: r.1, r.2)

/-- A set of paths by master m, bound to tenant t: all of it or nothing. The answer names the first assignment that fails. -/
def State.setPaths (s : State) (m t : Nat) (asg : List (Text × Text)) : State × Reply :=
  if asg.isEmpty then (s, .err 101 [])
  else if 32 < asg.length then (s, .err 106 [])
  else
    let a := s.assignAll t asg
    let us := lastUpds (a.1.flatMap Prod.snd)
    let r := s.applySet m us
    let bad := a.1.findSome? (fun e =>
      if e.2.any (fun u => !s.mayUpd s m t us u) then some (e.1, none, 203)
      else match r.2.find? (fun x => e.2.any (fun u => u == x.1)) with
        | some x => some (e.1, some x.1, x.2)
        | none => none)
    match bad with
    | some (p, some u, c) => (if u.joint.isSome then s else (s.applyUpds m [u]).1, .err c p)
    | some (p, none, c) => (s, .err c p)
    | none => match a.2 with
      | some (p, c) => (s, .err c p)
      | none => (r.1, .ok)

end Sys2Proof.Machine
end

