-- ==== Sys2Proof/Machine/Verbs.lean ====
section
/-! DEFINITION. The verbs of Thotor: what each checks, does and answers (R584, R586, R609 to R639, Tables Verbs.1 to
Verbs.8). -/
namespace Sys2Proof.Machine

/-! ### What a verb needs -/

/-- A right on a target, or on an object of it. -/
abbrev Need := Nat × Option Nat × Right

/-- The domain of a target is away (R599). -/
def State.targetAway (s : State) (g : Nat) : Bool :=
  match domainOf g with | some d => !s.domainServes d | none => false

/-- The name of a target or object that lacks a right (R5, R609): its object name where it has one, else its path. -/
def Need.text (x : Need) : Text :=
  let target := match targetNames.find? (fun e => e.1 == x.1) with | some e => e.2 | none => []
  match x.2.1 with
  | none => target
  | some o =>
    let at_ := fun (name : String) (k : Nat) => tx name ++ '.' :: dec k
    if x.1 = 0x10 then 'L' :: dec2 o
    else if x.1 = 0x30 then 'C' :: decN 4 o
    else if x.1 = 0x3A ∨ x.1 = 0x3C then 'S' :: dec2 o
    else if x.1 = 8 then at_ "cci" (o - 6)
    else if x.1 = 0x40 then (if o < 8 then at_ "led" o else if o < 16 then at_ "dout" (o - 8) else at_ "enc" (o - 24))
    else target

/-- A verb of session n: its values must be good (304), its tenant must hold what it needs (203), and the domains of the
targets must serve (404); then its effect k (R609, R610). -/
def State.verb (s : State) (n : Nat) (good : Bool) (needs : List Need) (k : State → Nat → State × Reply) : State × Reply :=
  match s.tenantOf (sesMaster n) with
  | none => (s, .err 201 [])
  | some t =>
    if !good then (s, .err 304 [])
    else match needs.find? (fun x => !s.holds t x.1 x.2.1 x.2.2) with
      | some x => (s, .err 203 x.text)
      | none => if needs.any (fun x => s.targetAway x.1) then (s, .err 404 []) else k s t

/-- A verb that only T00 may use. -/
def State.verbT00 (s : State) (n : Nat) (good : Bool) (k : State → Nat → State × Reply) : State × Reply :=
  s.verb n good [] (fun st t => if t = 0 then k st t else (st, .err 203 (tx "T00")))

/-- Texts separated by single spaces. -/
def spaced (l : List Text) : Text := joinWith [' '] l

/-- A data line name=value. -/
def dataLine (name : Text) (v : Text) : Text := name ++ '=' :: v

/-! ### Session verbs (Table Verbs.2) -/

/-- login: E0770 and the binding of the session's master, or a failure that counts (R584). -/
def State.verbLogin (s : State) (n t code : Nat) : State × Reply :=
  if 64 ≤ t ∨ 2 ^ 32 ≤ code then (s, .err 304 [])
  else if s.loginLocked n then (s, .err 204 [])
  else if s.loginFits n t code then (s.loginTo n t, .ok)
  else (s.loginFailed n t, .err 202 [])

def State.verbLogout (s : State) (n : Nat) : State × Reply := (s.logout n, .ok)

/-- mode: machine turns echo off, typed sets it to its reset value. -/
def State.verbMode (s : State) (n : Nat) (machine : Bool) : State × Reply :=
  ((s.wr Rg.sesMode (b2n machine) n).wr Rg.sesEcho (if machine then 0 else Rg.sesEcho.reset n 0) n, .ok)

def State.verbGet (s : State) (n : Nat) (paths : List Text) : State × Reply :=
  match s.tenantOf (sesMaster n) with
  | none => (s, .err 201 [])
  | some t => s.getPaths (sesMaster n) t paths

/-- A BAUD that a set has written waits until the answer of session n has left (R606). -/
def State.baudLater (s : State) (n k old : Nat) : State :=
  s.modSes k (fun y => if y.baud = old then y else { y with baud := old, baudNext := some (n, y.baud) })

def State.verbSet (s : State) (n : Nat) (asg : List (Text × Text)) : State × Reply :=
  match s.tenantOf (sesMaster n) with
  | none => (s, .err 201 [])
  | some t =>
    let r := s.setPaths (sesMaster n) t asg
    (r.1.each [0, 1] (fun st k => st.baudLater n k (s.ses k).baud), r.2)

/-! ### Lanes, Pipe, statistics and camera control (Table Verbs.3) -/

/-- lane: 0 start, 1 stop, 2 reset. -/
def State.verbLane (s : State) (n op l : Nat) : State × Reply :=
  s.verb n (decide (l < 64)) [(0x10, some l, .run)] (fun st _ =>
    if st.rd Rg.lnState l = 0 then (st, .err 401 [])
    else if op = 1 then (st.laneStop l, .ok)
    else if op = 2 then (st.laneReset l, .ok)
    else if 2 ≤ st.rd Rg.lnState l then (st, .ok)
    else if st.laneMayStart l then (st.laneStart l, .ok) else (st, .err 401 []))

/-- The values of a table verb are good: profile, bank, table, and words within the table. -/
def tableArgs (p b t at_ count : Nat) : Bool :=
  decide (p < 16) && decide (b < 2) && decide (t < 6) && decide (1 ≤ count) && decide (count ≤ 16) &&
  decide (at_ + count ≤ tblWords t)

def tableName (p b t at_ : Nat) : Text := joinWith ['.'] [tx "table", dec p, dec b, dec t, dec at_]

def State.verbTableRead (s : State) (n p b t at_ count : Nat) : State × Reply :=
  s.verb n (tableArgs p b t at_ count) [(0x14, none, .look)] (fun st _ =>
    (st, .data [dataLine (tableName p b t at_) (spaced ((upto count).map (fun k => hexW 32 (st.tbl (2 * p + b) t (at_ + k)))))]))

def State.verbTableWrite (s : State) (n p b t at_ : Nat) (ws : List Nat) : State × Reply :=
  s.verb n (tableArgs p b t at_ ws.length && ws.all (fun w => decide (w < 2 ^ 32))) [(0x14, none, .set)] (fun st _ =>
    let bank := 2 * p + b
    if st.bankInUse bank then (st.tblWrite bank t at_ 0, .err 402 [])
    else (st.each ws.zipIdx (fun st w => st.tblWrite bank t (at_ + w.2) w.1), .ok))

/-- The index of the first defect entry that keeps a commit from passing: a reserved kind, or one out of order (R225). -/
def firstBad : Nat → Option Defect → List Defect → Nat
  | k, _, [] => k
  | k, prev, d :: l =>
    let late := match prev with | some a => decide (d.y < a.y) || (d.y == a.y && decide (d.x < a.x)) | none => false
    if d.kind = 3 || late then k else firstBad (k + 1) (some d) l

def State.verbTableCommit (s : State) (n p b : Nat) : State × Reply :=
  s.verb n (decide (p < 16) && decide (b < 2)) [(0x14, none, .set)] (fun st _ =>
    let bank := 2 * p + b
    (st.tblCommit bank, if st.bankPasses bank then .ok else .err 401 (dec (firstBad 0 none (st.defects bank)))))

/-- A little-endian number in bytes. -/
def leAt (bs : List Byte) (off n : Nat) : Nat :=
  ((bs.drop off).take n).foldr (fun b acc => b.toNat + 256 * acc) 0

/-- The lines of a part of a statistics block: 0 head, 1 clip, 2 hist, 3 zones of a channel (R620). -/
def statsLines (l : Nat) (bs : List Byte) (part chan : Nat) : List Text :=
  let name := fun (t : Text) => tx "stats." ++ 'L' :: dec2 l ++ '.' :: t
  let at_ := leAt bs
  if part = 0 then
    [dataLine (name (tx "frame")) (dec (at_ 0 4)), dataLine (name (tx "ordinal")) (dec (at_ 4 6)),
     dataLine (name (tx "flags")) (hexW 8 (at_ 0xB 1)), dataLine (name (tx "mark")) (hexW 16 (at_ 0xC 2)),
     dataLine (name (tx "pmark")) (hexW 8 (at_ 0xE 1)), dataLine (name (tx "stamp")) (dec (at_ 0x10 8)),
     dataLine (name (tx "window")) (spaced ((upto 4).map (fun k => dec (at_ (0x18 + 2 * k) 2)))),
     dataLine (name (tx "stripes")) (dec (at_ 0x20 2)), dataLine (name (tx "post")) (dec (at_ 0x24 4))]
  else if part = 1 then
    (upto 4).map (fun c => dataLine (name (tx "clip." ++ dec c))
      (spaced ((upto 3).map (fun k => dec (at_ (0x40 + 16 * k + 4 * c) 4)))))
  else if part = 2 then
    (upto 16).map (fun j => dataLine (name (tx "hist." ++ dec j))
      (spaced ((upto 16).map (fun k => dec (at_ (0x80 + 64 * j + 4 * k) 4)))))
  else
    (upto 16).map (fun r => dataLine (name (tx "zone." ++ dec chan ++ '.' :: dec r))
      (spaced ((upto 16).map (fun k => dec (at_ (0x480 + 4 * ((16 * r + k) * 4 + chan)) 4)))))

def State.verbStats (s : State) (n l part chan : Nat) : State × Reply :=
  s.verb n (decide (l < 64) && decide (part < 4) && decide (chan < 4)) [(0x10, some l, .look)] (fun st _ =>
    let bs := if st.rd Rg.lnStatCur l = 1 then (st.lane l).stat1 else (st.lane l).stat0
    if st.rd Rg.lnPosted l = 0 || bs.isEmpty then (st, .err 401 []) else (st, .data (statsLines l bs part chan)))

def coefArgs (l k ph : Nat) : Bool := decide (l < 64) && decide (k < 4) && decide (ph < 64)

/-- The coefficient tables live in PIPE (Table Power.1). -/
def coefNeeds (l : Nat) (r : Right) : List Need := [(0x10, some l, r)]

def State.verbCoefRead (s : State) (n l k ph : Nat) : State × Reply :=
  s.verb n (coefArgs l k ph) (coefNeeds l .look) (fun st _ =>
    if st.targetAway 0x1C then (st, .err 404 [])
    else (st, .data [dataLine (joinWith ['.'] [tx "coef", 'L' :: dec2 l, dec k, dec ph])
      (spaced ((upto 8).map (fun i => decI (st.coef l k ph i))))]))

def State.verbCoefWrite (s : State) (n l k ph : Nat) (taps : List Int) : State × Reply :=
  s.verb n (coefArgs l k ph && taps.length == 8 && taps.all (fun v => decide (-2048 ≤ v) && decide (v ≤ 2047)))
    (coefNeeds l .set) (fun st _ =>
    if st.targetAway 0x1C then (st, .err 404 [])
    else
      let t := st.each taps.zipIdx (fun st v => st.coefWrite l k ph v.2 (ofSigned 12 v.1))
      (t, if st.on Rg.osEn l k then .err 402 [] else .ok))

def State.verbCoefReset (s : State) (n l k : Nat) : State × Reply :=
  s.verb n (coefArgs l k 0) (coefNeeds l .set) (fun st _ =>
    if st.targetAway 0x1C then (st, .err 404 [])
    else if st.on Rg.osEn l k then (st.wr Rg.outCoefBusy 1, .err 402 [])
    else ({ st with coefs := st.coefs.filter (fun e => e.1 / 512 != l * 4 + k) }, .ok))

def CciArgs.good (a : CciArgs) : Bool :=
  decide (a.dev < 128) && decide (a.reg < 65536) && decide (a.rb ≤ 2) && (a.db == 1 || a.db == 2 || a.db == 4) &&
  decide (a.data < 2 ^ (8 * a.db)) && decide (a.trig < 3) && (a.trig != 1 || a.lane.isSome) &&
  (match a.lane with | some l => decide (l < 64) | none => true)

/-- cci read and write: one transaction is pushed, and the session waits for its result (R621). -/
def State.verbCci (s : State) (n c : Nat) (read : Bool) (a : CciArgs) (x : Form) : State × Reply :=
  s.verb n (decide (c < 4) && a.good) [(8, some (6 + c), .run)] (fun st _ =>
    if !st.on Rg.cciEn c then (st, .err 401 [])
    else if 64 ≤ (st.cciOf c).queue.length then (st.wr Rg.cciFull 1 c, .err 402 (tx "FULL"))
    else
      let t : CciTx := { tag := 0, lane := a.lane.getD 0, trig := a.trig, dataBytes := a.db, regBytes := a.rb, read := read,
                         dev := a.dev, reg := a.reg, data := if read then 0 else a.data, session := some n }
      ((st.cciPush c t).modSes n (fun y => { y with wait := some (.cci c read a.db st.now, x) }), .later))

/-! ### Delivery (Table Verbs.4) -/

/-- ack: a sequence number at or below ACKED does nothing. -/
def State.verbAck (s : State) (n c q : Nat) : State × Reply :=
  s.verb n (decide (c < 4096) && decide (q < 2 ^ 64)) [(0x30, some c, .run)] (fun st _ =>
    if (st.corr c).kind != 3 || (st.corr c).route != n then (st, .err 401 [])
    else if seqAhead (st.hiSent c) q then (st, .err 304 [])
    else if seqAhead (st.corr c).acked q then (st.ackAdvance c q, .ok) else (st, .ok))

/-- evict: the session waits for the EVICT entry. -/
def State.verbEvict (s : State) (n c : Nat) (x : Form) : State × Reply :=
  s.verbT00 n (decide (c < 4096)) (fun st _ =>
    if st.corrFree c || st.rd Rg.gbState c == 3 then (st, .err 401 [])
    else ((st.evict c).modSes n (fun y => { y with wait := some (.evict c, x) }), .later))

/-! ### The sensor front end and the parameter store (Table Verbs.5) -/

def State.verbSfe (s : State) (n c : Nat) : State × Reply :=
  s.verb n (decide (c < 24)) [(0x3C, some c, .look)] (fun st _ =>
    let name := fun (t : Text) => tx "sfe." ++ 'S' :: dec2 c ++ '.' :: t
    (st, .data [dataLine (name (tx "value")) (decI (st.rdI Rg.sdValue c)), dataLine (name (tx "tag")) (dec (st.rd Rg.sdTag c)),
      dataLine (name (tx "flags")) (hexW 12 (st.rd Rg.sdFlags c)), dataLine (name (tx "seq")) (dec (st.rd Rg.sdSeq c)),
      dataLine (name (tx "stamp")) (dec (st.rd Rg.sdStamp c))]))

def State.verbSfeCheck (s : State) (n c : Nat) : State × Reply :=
  s.verb n (decide (c < 24)) [(0x3A, some c, .run)] (fun st _ =>
    if st.chanOn c && st.on Rg.sfeToneEn && st.rd Rg.saCheckS c != 0 then (st.checkNow c, .ok) else (st, .err 401 []))

def firArgs (c b at_ count : Nat) : Bool :=
  decide (c < 24) && decide (b < 2) && decide (1 ≤ count) && decide (count ≤ 16) && decide (at_ + count ≤ 128)

def State.verbFirRead (s : State) (n c b at_ count : Nat) : State × Reply :=
  s.verb n (firArgs c b at_ count) [(0x3C, some c, .look)] (fun st _ =>
    (st, .data [dataLine (joinWith ['.'] [tx "fir", 'S' :: dec2 c, dec b, dec at_])
      (spaced ((upto count).map (fun k => decI (st.tap c b (at_ + k)))))]))

def State.verbFirWrite (s : State) (n c b at_ : Nat) (hs : List Int) : State × Reply :=
  s.verb n (firArgs c b at_ hs.length && hs.all (fun v => decide (-8388608 ≤ v) && decide (v ≤ 8388607)))
    [(0x3C, some c, .set)] (fun st _ =>
    if st.firInUse c b then (st.bankBusy, .err 402 [])
    else (st.each hs.zipIdx (fun st h => st.firWrite c b (at_ + h.2) h.1), .ok))

def State.verbFirCommit (s : State) (n c b len : Nat) : State × Reply :=
  s.verb n (decide (c < 24) && decide (b < 2) && decide (1 ≤ len) && decide (len ≤ 128)) [(0x3C, some c, .set)] (fun st _ =>
    (st.firCommit c b len, if st.firInUse c b then .err 402 [] else .ok))

def linArgs (b t kind at_ count : Nat) : Bool :=
  decide (b < 2) && decide (t < 16) && decide (kind < 2) && decide (1 ≤ count) && decide (count ≤ 16) &&
  decide (at_ + count ≤ linWords kind)

def State.verbLinRead (s : State) (n b t kind at_ count : Nat) : State × Reply :=
  s.verb n (linArgs b t kind at_ count) [(0x3C, none, .look)] (fun st _ =>
    (st, .data [dataLine (joinWith ['.'] [tx "lin", dec b, dec t, dec at_])
      (spaced ((upto count).map (fun k =>
        let w := st.linWord b kind t (at_ + k)
        if kind = 0 then decI (toSigned 32 w) else hexW 32 w)))]))

def State.verbLinWrite (s : State) (n b t kind at_ : Nat) (ws : List Int) : State × Reply :=
  s.verb n (linArgs b t kind at_ ws.length && ws.all (fun v => decide (-2147483648 ≤ v) && decide (v < 4294967296)))
    [(0x3C, none, .set)] (fun st _ =>
    if st.linInUse b then (st.bankBusy, .err 402 [])
    else (st.each ws.zipIdx (fun st w => st.linWrite b kind t (at_ + w.2) (ofSigned 32 w.1)), .ok))

/-- lin commit: the point count of a table, if named, and the commit (R459). -/
def State.verbLinCommit (s : State) (n b : Nat) (np : Option (Nat × Nat)) : State × Reply :=
  let good := match np with | some (t, k) => decide (t < 16) && decide (2 ≤ k) && decide (k ≤ 64) | none => true
  s.verb n (decide (b < 2) && good) [(0x3C, none, .set)] (fun st _ =>
    if st.linInUse b then (st.bankBusy, .err 402 [])
    else
      let s1 := (match np with | some (t, k) => st.linSetPoints b t k | none => st).linCommit b
      (s1, if s1.linValid b then .ok else .err 401 []))

/-- An entry of the parameter store. -/
def State.storeFind (s : State) (name : Text) : Option StoreEntry := s.thotor.store.find? (fun e => e.name == name)

/-- What a stored entry loads: its kind and NP, if it has the layout of R625. -/
def storeLoad (bs : List Byte) : Option (Nat × Nat) :=
  let kind := leAt bs 0 1
  let np := leAt bs 1 1
  if leAt bs 2 2 != 0 then none
  else if kind = 0 then (if 2 ≤ np ∧ np ≤ 64 ∧ bs.length = 4 + 8 * np then some (0, np) else none)
  else if kind = 1 then (if np = 0 ∧ bs.length = 52 then some (1, 0) else none)
  else none

/-- lin load: the words of an entry, and the commit (R625). -/
def State.verbLinLoad (s : State) (n b t : Nat) (file : Text) : State × Reply :=
  s.verb n (decide (b < 2) && decide (t < 16)) [(0x3C, none, .set)] (fun st _ =>
    match st.storeFind file with
    | none => (st, .err 301 [])
    | some e =>
      match storeLoad e.bytes with
      | none => (st, .err 304 [])
      | some (kind, np) =>
        if st.linInUse b then (st.bankBusy, .err 402 [])
        else
          let s1 := st.each (upto ((e.bytes.length - 4) / 4)) (fun st k => st.linWrite b kind t k (leAt e.bytes (4 + 4 * k) 4))
          let s2 := (if kind = 0 then s1.linSetPoints b t np else s1).linCommit b
          (s2, if s2.linValid b then .ok else .err 401 []))

/-- store list: the store is in the boot flash, so it answers with SFE down (R624). -/
def State.verbStoreList (s : State) (n : Nat) : State × Reply :=
  s.verb n true [] (fun st t =>
    if !st.holds t 0x3C none .look then (st, .err 203 (Need.text (0x3C, none, .look))) else
    (st, .data (st.thotor.store.map (fun e => dataLine (tx "store." ++ e.name) (dec e.bytes.length)))))

/-- Order of texts. -/
def textBefore : Text → Text → Bool
  | [], _ => true
  | _, [] => false
  | a :: l, b :: r => decide (a.toNat < b.toNat) || (a == b && textBefore l r)

/-- The entry after a write at an offset: bytes below it that nothing has written read 0 (R624). -/
def overlay (old : List Byte) (off : Nat) (bs : List Byte) : List Byte :=
  let base := old ++ zeros (off - old.length)
  base.take off ++ bs ++ base.drop (off + bs.length)

/-- The store with an entry's bytes replaced, in name order. -/
def storePut (l : List StoreEntry) (name : Text) (bs : List Byte) : List StoreEntry :=
  ({ name := name, bytes := bs } :: l.filter (fun e => e.name != name)).mergeSort (fun a b => textBefore a.name b.name)

/-- The parameter store as the writes in progress will leave it. -/
def State.storePlanned (s : State) : List StoreEntry :=
  let running := s.thotor.storeLoose.map Prod.snd ++ s.thotor.sessions.filterMap (fun e => match e.2.wait with
    | some (.store name off bs _, _) => some (name, off, bs)
    | _ => none)
  running.foldl (fun l w => storePut l w.1
    (overlay (match l.find? (fun e => e.name == w.1) with | some e => e.bytes | none => []) w.2.1 w.2.2)) s.thotor.store

/-- A word of 1 to 16 characters (Table Thotor.1). -/
def storeName (t : Text) : Bool :=
  decide (1 ≤ t.length) && decide (t.length ≤ 16) &&
  (match t with | c :: _ => 'a' ≤ lowerC c && lowerC c ≤ 'z' | [] => false) &&
  t.all (fun c => ('a' ≤ lowerC c && lowerC c ≤ 'z') || ('0' ≤ c && c ≤ '9') || c == '_')

/-- store write: the write begins, and the session waits for it (R624, R634). -/
def State.verbStoreWrite (s : State) (n : Nat) (name : Text) (off : Nat) (bs : List Byte) (x : Form) : State × Reply :=
  s.verbT00 n (storeName name && decide (1 ≤ bs.length) && decide (bs.length ≤ 96) && decide (off + bs.length ≤ 1024))
    (fun st _ =>
    let p := st.storePlanned
    let l := storePut p (lower name)
      (overlay (match p.find? (fun e => e.name == lower name) with | some e => e.bytes | none => []) off bs)
    if 64 < l.length ∨ 65536 < (l.map (fun e => e.bytes.length)).sum then (st, .err 401 [])
    else (st.modSes n (fun y => { y with wait := some (.store (lower name) off bs st.now, x) }), .later))

/-- store erase. -/
def State.verbStoreErase (s : State) (n : Nat) (name : Text) : State × Reply :=
  s.verbT00 n true (fun st _ =>
    if (st.storeFind (lower name)).isNone then (st, .err 301 [])
    else ({ st with thotor := { st.thotor with store := st.thotor.store.filter (fun e => e.name != lower name) } }, .ok))

/-! ### Bellows (Table Verbs.6) -/

def State.verbLed (s : State) (n k : Nat) : State × Reply :=
  s.verb n (decide (k < 8)) [(0x40, some k, .run)] (fun st _ => (st.ledClear k, .ok))

/-- dout: 0 off, 1 on, 2 clear. -/
def State.verbDout (s : State) (n k op : Nat) : State × Reply :=
  s.verb n (decide (k < 8)) [(0x40, some (8 + k), if op = 2 then .run else .set)] (fun st _ =>
    (if op = 2 then st.doutClear k else (st.wr Rg.doutOut op k).doutRefresh k, .ok))

def State.verbEnc (s : State) (n e pos : Nat) (next pitch : Option Nat) : State × Reply :=
  let fit := fun (v : Option Nat) (lo hi : Nat) => match v with | some k => decide (lo ≤ k) && decide (k ≤ hi) | none => true
  s.verb n (decide (e < 4) && decide (pos < 2 ^ 32) && fit next 0 (2 ^ 32 - 1) && fit pitch 1 16777215)
    [(0x40, some (24 + e), .set)] (fun st _ => (st.encLoad e pos next pitch, .ok))

/-! ### Power, events, injection and time (Table Verbs.7) -/

def State.verbVote (s : State) (n d : Nat) (up : Bool) : State × Reply :=
  s.verb n (decide (d < 6)) [(5, none, .run)] (fun st t =>
    (if up then st.voteUp t (2 ^ d) else st.voteDown t (2 ^ d), .ok))

def State.verbTemper (s : State) (n v : Nat) : State × Reply :=
  s.verb n (decide (v ≤ 5)) [(5, none, .run)] (fun st t => (st.temperRequest t v, .ok))

def State.verbEventPeek (s : State) (n k : Nat) : State × Reply :=
  s.verb n (decide (1 ≤ k) && decide (k ≤ 16)) [(4, none, .look)] (fun st t =>
    (st, .data (((kvGet [] st.evt.queues t).take k).map eventText)))

def State.verbEventPop (s : State) (n k : Nat) : State × Reply :=
  s.verb n (decide (1 ≤ k) && decide (k ≤ 16)) [(4, none, .run)] (fun st t =>
    let l := (kvGet [] st.evt.queues t).take k
    (st.each l (fun st _ => (st.popEvent t).1), .data (l.map eventText)))

def State.verbInject (s : State) (n src a0 a1 : Nat) : State × Reply :=
  s.verb n (decide (src < 1024) && decide (a0 < 2 ^ 32) && decide (a1 < 2 ^ 32)) [(0x42, none, .run)] (fun st _ =>
    let r := st.inject src a0 a1
    (r.1, if r.2 = 0 then .ok else .err r.2 []))

def State.verbTime (s : State) (n : Nat) : State × Reply :=
  s.verb n true [(0, none, .look)] (fun st _ =>
    (st, .data [dataLine (tx "time.now") (dec st.now), dataLine (tx "time.bell") (dec (st.rd Rg.bellCount)),
      dataLine (tx "time.period") (dec (st.rd Rg.bellPeriodAct)), dataLine (tx "time.alarm") (dec (st.thotor.alarm.getD 0))]))

/-- time alarm: a tick, or off (R629). -/
def State.verbAlarm (s : State) (n : Nat) (tick : Option Nat) : State × Reply :=
  s.verb n (match tick with | some t => decide (s.now < t) && decide (t < 2 ^ 64) | none => true) [(0, none, .set)] (fun st _ =>
    ({ st with thotor := { st.thotor with alarm := tick } }, .ok))

/-! ### Resets, journal and test (Table Verbs.8) -/

/-- reset engine: the warm reset begins when the ok has left (R631). -/
def State.verbResetEngine (s : State) (n : Nat) : State × Reply :=
  s.verbT00 n true (fun st _ => ({ st with thotor := { st.thotor with resetAsked := some n } }, .ok))

def State.verbResetDomain (s : State) (n d : Nat) : State × Reply :=
  s.verb n (decide (d < 6)) [(5, none, .own)] (fun st _ =>
    if st.domainUp d || st.droppedNow d then (st.domainReset d, .ok) else (st, .err 404 []))

/-- The domain of a block. -/
def Block.domain : Block → Option Nat
  | .unit u => domainOfUnit u.val
  | .ring _ => some 3
  | .lane _ => none

def State.verbResetBlock (s : State) (n : Nat) (b : Option Block) : State × Reply :=
  s.verb n true [] (fun st t =>
    match b with
    | none => (st, .err 301 [])
    | some b =>
      match b.targets.find? (fun g => !st.holds t g none .own) with
      | some g => (st, .err 203 (Need.text (g, none, .own)))
      | none =>
      if (match b.domain with | some d => !st.domainServes d | none => false) then (st, .err 404 [])
      else (st.blockReset b, .ok))

/-- The reasons of refusals (Table Bell.4). -/
def reasonNames : List Text :=
  ["", "CAPACITY", "RATION", "STALL", "PAUSED", "PERIOD", "POWER", "LANE_POLICY"].map tx

/-- A job: its correspondent must not be free, must have a route, and must be seen by the tenant (R613, R614). -/
def State.verbJob (s : State) (n c code work : Nat) (args : List Nat) (good : Bool) (need : Need) : State × Reply :=
  s.verb n (good && decide (c < 4096)) [need, (0x30, some c, .look)] (fun st _ =>
    if st.corrFree c || (st.corr c).kind == 0 then (st, .err 401 [])
    else match st.doorJob n c code (work + 2) args with
      | (t, .accepted o) => (t, .job o)
      | (t, .turnedAway) => (t, .err 402 (tx "BILLET_LIMIT"))
      | (t, .refused r) => (t, if r = 4 then .err 403 [] else .err 402 (reasonNames.getD r [])))

/-- journal read: from a serial, or the last entries. -/
def State.verbJournalRead (s : State) (n : Nat) (serial : Option Nat) (count c : Nat) : State × Reply :=
  s.verbJob n c 1 0 [serial.getD 0, b2n serial.isNone, count] (decide (1 ≤ count) && decide (count ≤ 48)) (2, none, .look)

/-- test journal: its work allowance is 25 ms in Periods (Table Verbs.1). -/
def State.verbTestJournal (s : State) (n c : Nat) : State × Reply :=
  s.verbJob n c 2 (ceilDiv 6250000 (max 1 s.periodTicks)) [] true (0x42, none, .run)

/-- The preconditions of an erase: admission paused, no Billet open, and nothing held for any correspondent (R632). -/
def State.eraseOk (s : State) : Bool :=
  s.paused && s.billets.isEmpty && s.corrs.all (fun e => !s.holdsAny e.1)

def State.verbJournalErase (s : State) (n code : Nat) : State × Reply :=
  s.verbT00 n true (fun st _ =>
    if st.rd Rg.thCode 0 != code then (st, .err 202 [])
    else if !st.eraseOk then (st, .err 401 [])
    else ({ st with thotor := { st.thotor with resetAsked := some n, eraseAsked := true } }, .ok))

end Sys2Proof.Machine
end

