-- ==== Sys2Proof/Machine/Console.lean ====
section
/-! DEFINITION. How a Thotor session executes a command and answers it (R571, R573 to R577, R581, R583, R587, R601, R606, R634 to
R636), and the completion of the verbs that wait. -/
namespace Sys2Proof.Machine

/-! ### Answers -/

/-- The tag under which a line is answered; none for typed text. -/
def Form.tag : Form → Option Text
  | .typed => none
  | .machine t _ => some t

/-- One line of an answer, at most 255 characters with its tag and check: a longer detail is cut (R581). -/
def State.answerLine (s : State) (n : Nat) (tag : Option Text) (t : Text) : State :=
  match tag with
  | some g => s.emit n (machineLine g (t.take (248 - g.length)))
  | none => s.emit n (t.take 255 ++ crlf)

/-- The prompt, in typed mode (R571). -/
def State.prompt (s : State) (n : Nat) : State := if s.sesMachine n then s else s.emit n promptText

/-- A command failed. -/
def Reply.failed : Reply → Bool
  | .err _ _ => true
  | _ => false

/-- The lines of an answer: the data, and the status where the form calls for one (R576, R581, R612). -/
def Reply.lines (r : Reply) (tag : Option Text) : List Text :=
  match r, tag with
  | .later, _ => []
  | .data l, none => if l.isEmpty then [r.status] else l
  | .data l, some _ => l ++ [r.status]
  | .job o, some _ => [tx "job " ++ dec o, r.status]
  | .job o, none => [tx "job " ++ dec o]
  | _, _ => [r.status]

/-- Send an answer; a line answered with err counts (Table Thotor.4). -/
def State.respond (s : State) (n : Nat) (tag : Option Text) (r : Reply) : State :=
  if r = .later then s
  else
    let s1 := if r.failed && s.sesOpen n then s.bumpSat Rg.sesErrors n else s
    (s1.each (r.lines tag) (fun st t => st.answerLine n tag t)).prompt n

/-! ### The memory of machine requests (R577) -/

/-- The status that a session remembers of a request. -/
def State.recall (s : State) (n : Nat) (x : Form) : Option Text :=
  match x with
  | .typed => none
  | .machine t c => ((s.ses n).memory.find? (fun e => e.tag == t && sameWord e.check c)).map Remembered.status

/-- Remember a request and its status; error 501 is not stored (R577, R601). -/
def State.remember (s : State) (n : Nat) (x : Form) (r : Reply) : State :=
  match x, r with
  | .typed, _ => s
  | _, .later => s
  | .machine _ _, .err 501 _ => s
  | .machine t c, r =>
    if s.sesOpen n then s.modSes n (fun y => { y with memory := ({ tag := t, check := c, status := r.status } :: y.memory).take 8 })
    else s

/-! ### One command -/

/-- Answer a command, and remember it unless it is a query: get, help or the empty command. -/
def State.finish (s : State) (n : Nat) (x : Form) (query : Bool) (r : Reply) : State :=
  let s1 := s.respond n x.tag r
  if query then s1 else s1.remember n x r

/-- A command of session n: `early` ones may be used before login (R583). A request that repeats a remembered one is answered
with its status only (R577). -/
def State.command (s : State) (n : Nat) (x : Form) (query early : Bool) (k : State → State × Reply) : State :=
  match if query then none else s.recall n x with
  | some st => (s.answerLine n x.tag st).prompt n
  | none =>
    if !early && !s.on Rg.sesLogged n then s.finish n x query (.err 201 [])
    else
      let r := k (s.bumpSat Rg.sesLines n)
      r.1.finish n x query r.2

/-- A session reads no lines: it is closed, the engine is not ready or is updating its firmware, a verb waits, its output
buffer holds more than 6 KiB, or its reset is on the way (R587, R595, R598, R634, R772). -/
def State.sesReads (s : State) (n : Nat) : Bool :=
  s.sesOpen n && s.on Rg.bootReady && s.lit && s.powerFail == .off && !s.fw.running && (s.ses n).wait.isNone &&
  decide ((s.ses n).out.length ≤ 6144) && s.thotor.resetAsked != some n

/-- A command that has come as a whole line, in a form of its own, with no earlier line waiting. -/
def State.lineOf (s : State) (n : Nat) (x : Form) (query early : Bool) (k : State → State × Reply) : State :=
  if !s.sesReads n || !(s.ses n).lines.isEmpty then s
  else
    let s0 := s.modSes n (fun y => { y with lastLine := s.now })
    if x = .typed ∧ s.sesMachine n then s0.respond n (some ['?']) (.err 105 [])
    else s0.command n x query early k

/-- The common case: a command that needs login and is remembered. -/
def State.verbLine (s : State) (n : SessionId) (x : Form) (k : State → Nat → State × Reply) : State :=
  s.lineOf n.val x false false (fun st => k st n.val)

/-! ### Verbs that wait (R634 to R636) -/

/-- A waiting verb is answered, and its session goes on. -/
def State.waitOver (s : State) (n : Nat) (x : Form) (r : Reply) : State :=
  (s.modSes n (fun y => { y with wait := none })).finish n x false r

/-- The result of a transaction reaches the session that waits for it (R621). -/
def State.cciAnswer (s : State) (n status rdata : Nat) : State :=
  match (s.ses n).wait with
  | some (.cci c read db _, x) =>
    let name := fun (t : Text) => joinWith ['.'] [tx "cci", dec c, t]
    s.waitOver n x (.data (dataLine (name (tx "status")) (dec status) ::
      (if read then [dataLine (name (tx "data")) (hexW (8 * db) rdata)] else [])))
  | _ => s

/-- Every session that waits for the eviction of a correspondent is answered (R622). -/
def State.evictAnswer (s : State) (c serial last given : Nat) : State :=
  s.each (List.range 16) (fun st n => match (st.ses n).wait with
    | some (.evict d, x) =>
      if d = c then st.waitOver n x (.data [dataLine (tx "evict.serial") (dec serial), dataLine (tx "evict.last") (dec last),
        dataLine (tx "evict.given") (dec given)])
      else st
    | _ => st)

/-- Results that have come are handed to the sessions. -/
def State.tellSessions (s : State) : State :=
  let a := s.cciTold
  let b := s.thotor.evictTold
  let s1 := { s with cciTold := [], thotor := { s.thotor with evictTold := [] } }
  let s2 := s1.each a (fun st e => st.cciAnswer e.1 e.2.1 e.2.2)
  s2.each b.reverse (fun st e => st.evictAnswer e.1 e.2.1 e.2.2.1 e.2.2.2)

/-- CCI_VERB_TIMEOUT: 1,000 ms from the push, the result has not come and will be discarded (R621). -/
def State.cciTimeout (s : State) (n : Nat) : State :=
  match (s.ses n).wait with
  | some (.cci _ _ _ since, x) => ((s.reach (since + msTicks 1000)).cciForget n).waitOver n x (.err 402 (tx "PENDING"))
  | _ => s

/-- The bytes of a store write are in the entry (R624). -/
def State.storeApply (s : State) (name : Text) (off : Nat) (bs : List Byte) : State :=
  let old := match s.storeFind name with | some e => e.bytes | none => []
  { s with thotor := { s.thotor with store := storePut s.thotor.store name (overlay old off bs) } }

/-- STORE_WRITE_DONE: a store write of session n completes in the flash. -/
def State.storeDone (s : State) (n : Nat) : State :=
  match (s.ses n).wait with
  | some (.store name off bs _, x) => (s.storeApply name off bs).waitOver n x .ok
  | _ =>
    match s.thotor.storeLoose.find? (fun e => e.1 == n) with
    | some (_, name, off, bs) =>
      let s1 := s.storeApply name off bs
      { s1 with thotor := { s1.thotor with storeLoose := s1.thotor.storeLoose.filter (fun e => e.1 != n) } }
    | none => s

/-! ### The engine's output (R595, R606, R631) -/

/-- Bytes leave a session until `left` remain. Below 2 KiB, one line tells how many event lines were dropped. When the last
byte has left, a BAUD that waited for this answer takes effect. -/
def State.drain (s : State) (n left : Nat) : State :=
  let y := s.ses n
  if !s.sesOpen n || s.flowHeld n || y.out.length ≤ left then s
  else
    let k := y.out.length - left
    let s1 := s.modSes n (fun z => { z with out := z.out.drop k, gone := z.gone ++ z.out.take k })
    let s2 := if left < 2048 ∧ 0 < y.lost then
        (s1.modSes n (fun z => { z with lost := 0 })).unsolicited n (tx "!LOST " ++ dec y.lost)
      else s1
    if left = 0 then s2.baudApply n else s2

/-- The timebase alarm fires, once (R629). -/
def State.alarmFire (s : State) : State :=
  match s.thotor.alarm with
  | none => s
  | some t =>
    let s1 := s.reach t
    ({ s1 with thotor := { s1.thotor with alarm := none } }).wakeEvent 25

def doTimeAlarmFire (s : State) : State := s.alarmFire

/-! ### Jobs (R614 to R616, R632, R633) -/

/-- The kept log entries, oldest first, with their positions. -/
def State.logKept (s : State) : List (Nat × JCell) :=
  s.jnl.log.mergeSort (fun a b => decide (a.2.entry.serial ≤ b.2.entry.serial))

/-- The lines of test journal, and where a CRC fails, as E0130 says it: none when every line reads ok or empty (R633). -/
def State.journalTest (s : State) : List Text × List (Nat × Nat) :=
  let head := match s.jnl.header with | some h => h.crcOk | none => false
  let slot := fun (name : Text) (i : Nat) (x : Option Ckpt) => match x with
    | none => (name ++ tx " empty", [])
    | some k => if k.crcOk then (name ++ tx " ok serial=" ++ dec k.serial, []) else (name ++ tx " bad", [(i, 0)])
  let a := slot (tx "slot.A") 1 s.jnl.slotA
  let b := slot (tx "slot.B") 2 s.jnl.slotB
  let l := s.logKept
  let at_ := fun (e : Option (Nat × JCell)) => dec ((e.map (fun x => x.2.entry.serial)).getD 0)
  let log := match l.find? (fun e => !e.2.crcOk) with
    | some e => (tx "log bad at=" ++ dec e.2.entry.serial, [(3, e.1)])
    | none => (tx "log ok entries=" ++ dec l.length ++ tx " first=" ++ at_ l.head? ++ tx " last=" ++ at_ l.getLast?, [])
  ([if head then tx "header ok" else tx "header bad", a.1, b.1, log.1],
   (if head then [] else [(0, 0)]) ++ a.2 ++ b.2 ++ log.2)

/-- The 32 bytes of the entry with a serial, if it is kept. The content of an entry whose CRC fails is open. -/
def State.entryBytes (s : State) (serial : Nat) : State × Option (List Byte) :=
  match s.jnl.staging.find? (fun e => e.serial == serial) with
  | some e => (s, some e.bytes)
  | none => match s.jnl.log.find? (fun e => e.2.entry.serial == serial) with
    | some e => if e.2.crcOk then (s, some e.2.entry.bytes) else (let r := s.free 256; (r.1, some (leBytes 32 r.2)))
    | none => (s, none)

/-- The bytes of a text. -/
def textOut (t : Text) : List Byte := t.map (fun c => BitVec.ofNat 8 c.toNat)

/-- Payload lines, each ended by LF (Table Verbs.1). -/
def payloadLines (l : List Text) : List Byte := (l.map (fun t => textOut (t ++ [Char.ofNat 10]))).flatten

/-- The lines of journal read; none when an entry has been overwritten or is not yet written. -/
def State.journalRead : Nat → Nat → State → State × Option (List Text)
  | 0, _, s => (s, some [])
  | k + 1, serial, s =>
    match s.entryBytes serial with
    | (t, none) => (t, none)
    | (t, some bs) => match t.journalRead k (serial + 1) with
      | (u, none) => (u, none)
      | (u, some l) => (u, some ((bs.map (fun b => hexN 2 b.toNat)).flatten :: l))

/-- JOB_WORK_DONE: the Registrar completes a job's work, and its JOB record is committed. -/
def State.jobWork (s : State) (o : Nat) : State :=
  match s.billet? o with
  | none => s
  | some b => match b.job with
    | none => s
    | some j =>
      if s.fw.running then s
      else if j.code = 1 then
        let count := j.args.getD 2 0
        let first := if j.args.getD 1 0 = 1 then s.rd Rg.jnlSerial + 1 - count else j.args.getD 0 0
        match if j.args.getD 1 0 = 1 ∧ s.rd Rg.jnlSerial < count then (s, none) else s.journalRead count first with
        | (t, some l) => t.jobEnd b j 1 0 (payloadLines l)
        | (t, none) => t.jobEnd b j 1 301 []
      else
        let r := s.journalTest
        let s1 := s.each r.2 (fun st e => st.raise 130 e.1 e.2)
        s1.jobEnd b j 1 (if r.2.isEmpty then 0 else 401) (payloadLines r.1)

def doJobWorkDone (o : Nat) (s : State) : State := s.jobWork o

end Sys2Proof.Machine
end

