-- ==== Sys2Proof/Machine/Language.lean ====
section
/-! DEFINITION. The language of Thotor: from the text of a line to the verb it asks for (R572, R578, R579, R608, R617 to R630,
R734). -/
namespace Sys2Proof.Machine

/-! ### The elements of a command (Table Thotor.1) -/

def isLetter (c : Char) : Bool := 'a' ≤ lowerC c && lowerC c ≤ 'z'

def isDigit (c : Char) : Bool := '0' ≤ c && c ≤ '9'

def wordChar (c : Char) : Bool := isLetter c || isDigit c || c == '_'

/-- A word: letters, digits and "_", starting with a letter. -/
def isWord (t : Text) : Bool := (match t with | c :: _ => isLetter c | [] => false) && t.all wordChar

/-- Words and indices joined by ".". -/
def isPath (t : Text) : Bool := (splitAt' '.' t).all (fun w => !w.isEmpty && w.all wordChar)

/-- A text in double quotes. -/
def isQuoted (t : Text) : Bool := decide (2 ≤ t.length) && t.head? == some '"' && t.getLast? == some '"'

/-- An argument that stands alone. -/
def isBare (t : Text) : Bool := isPath t || (readInt t).isSome || isQuoted t

/-- A command in parts: its verb, what stands alone, and what has a name. -/
structure Command where
  verb : Text
  bare : List Text
  keys : List (Text × Text)
  deriving DecidableEq, Repr

/-- Sort the arguments of a command; error 101 for what Table Thotor.1 does not have. -/
def sortArgs : List Text → Except Nat (List Text × List (Text × Text))
  | [] => .ok ([], [])
  | w :: ws =>
    match sortArgs ws with
    | .error e => .error e
    | .ok r =>
      match if w.head? == some '"' then none else splitEq w with
      | some (a, b) => if isPath a && !b.isEmpty then .ok (r.1, (a, b) :: r.2) else .error 101
      | none => if isBare w then .ok (w :: r.1, r.2) else .error 101

def readCommand : List Text → Except Nat Command
  | [] => .error 101
  | v :: ws =>
    if !isWord v then .error 101
    else match sortArgs ws with
      | .error e => .error e
      | .ok r => .ok { verb := lower v, bare := r.1, keys := r.2 }

/-! ### Arguments -/

/-- A number (R579). -/
def numArg (t : Text) : Except Nat Nat := match readNat t with | some v => .ok v | none => .error 304

def intArg (t : Text) : Except Nat Int := match readInt t with | some v => .ok v | none => .error 304

/-- An object name (R5). -/
def objArg (letter : Char) (digits dim : Nat) (t : Text) : Except Nat Nat :=
  match readObj letter digits dim t with | some v => .ok v | none => .error 304

/-- One of some words, as its place among them. -/
def choiceArg (l : List String) (t : Text) : Except Nat Nat :=
  match nameIndex (l.map tx) t with | some v => .ok v | none => .error 304

/-- The value of a keyword argument. -/
def Command.key (c : Command) (k : String) : Option Text := (c.keys.find? (fun e => sameWord e.1 (tx k))).map Prod.snd

/-- A keyword argument that must stand, read by f. -/
def Command.need {α : Type} (c : Command) (k : String) (f : Text → Except Nat α) : Except Nat α :=
  match c.key k with | some t => f t | none => .error 101

/-- A keyword argument with a default. -/
def Command.opt {α : Type} (c : Command) (k : String) (d : α) (f : Text → Except Nat α) : Except Nat α :=
  match c.key k with | some t => f t | none => .ok d

/-- A keyword argument that may be absent. -/
def Command.maybe {α : Type} (c : Command) (k : String) (f : Text → Except Nat α) : Except Nat (Option α) :=
  match c.key k with
  | some t => (match f t with | .ok v => .ok (some v) | .error e => .error e)
  | none => .ok none

def sameKey (a b : Text × Text) : Bool := sameWord a.1 b.1

/-- Only the keyword arguments of a list stand, each at most once. -/
def Command.only (c : Command) (l : List String) : Except Nat Unit :=
  if c.keys.all (fun e => l.any (fun k => sameWord e.1 (tx k)) && decide ((c.keys.filter (sameKey e)).length ≤ 1)) then .ok ()
  else .error 101

/-- Read every text of a list. -/
def eachArg {α : Type} (f : Text → Except Nat α) : List Text → Except Nat (List α)
  | [] => .ok []
  | t :: ts => match f t, eachArg f ts with
    | .ok v, .ok vs => .ok (v :: vs)
    | .error e, _ => .error e
    | _, .error e => .error e

def laneArg : Text → Except Nat Nat := objArg 'L' 2 64
def corrArg : Text → Except Nat Nat := objArg 'C' 4 4096
def chanArg : Text → Except Nat Nat := objArg 'S' 2 24
def domainArg (t : Text) : Except Nat Nat := match nameIndex domainNames t with | some v => .ok v | none => .error 304

/-- Bytes of a hexadecimal value of an even number of digits, the most significant first (R624). -/
def pairBytes : Text → Option (List Byte)
  | [] => some []
  | a :: b :: l => match digitVal 16 a, digitVal 16 b, pairBytes l with
    | some x, some y, some r => some (BitVec.ofNat 8 (16 * x + y) :: r)
    | _, _, _ => none
  | _ => none

def bytesArg (t : Text) : Except Nat (List Byte) :=
  match readNat t, t with
  | some _, '0' :: x :: r =>
    (if lowerC x = 'x' then match pairBytes (r.filter (fun c => c != '_')) with | some l => .ok l | none => .error 304
     else .error 304)
  | _, _ => .error 304

/-- A block by its path prefix (Table Events.3, R734): none for a name that no block has. -/
def blockArg (t : Text) : Option Block :=
  let unit := fun (u lim : Nat) (w : Text) => match plainNat w with
    | some v => if h : v < lim ∧ u + v < 24 then some (Block.unit ⟨u + v, h.2⟩) else none
    | none => none
  match splitAt' '.' (lower t) with
  | [a] =>
    if a = tx "pipe" then some (.unit 8) else if a = tx "pcie" then some (.unit 19)
    else if a = tx "sfe" then some (.unit 22) else if a = tx "bellows" then some (.unit 23) else none
  | [a, b] =>
    if a = tx "anvil" then unit 0 8 b
    else if a = tx "port" then (match nameIndex portNames b with
      | some v => if h : 9 + v < 24 then some (.unit ⟨9 + v, h⟩) else none
      | none => none)
    else if a = tx "cci" then unit 15 4 b
    else if a = tx "eth" then unit 20 2 b
    else if a = tx "ring" then (match plainNat b with
      | some v => if h : v < 256 then some (.ring ⟨v, h⟩) else none
      | none => none)
    else if a = tx "lane" then (match readObj 'L' 2 64 b with
      | some v => if h : v < 64 then some (.lane ⟨v, h⟩) else none
      | none => none)
    else none
  | _ => none

/-! ### Help (R572) -/

/-- The syntax lines of the verbs (Tables Verbs.2 to Verbs.8), written in ASCII. -/
def syntaxLines : List (String × List String) :=
  [("login", ["login <Tnn> <code>"]), ("logout", ["logout"]), ("mode", ["mode typed|machine"]),
   ("help", ["help [<verb>|<path>]"]), ("get", ["get <path> ..."]), ("set", ["set <path>=<value> ..."]),
   ("lane", ["lane start|stop|reset <Lnn>"]),
   ("table", ["table read profile=<p> bank=<b> table=<t> at=<i> [count=<n>]",
              "table write profile=<p> bank=<b> table=<t> at=<i> <w> ...", "table commit profile=<p> bank=<b>"]),
   ("stats", ["stats <Lnn> [part=head|clip|hist|zones] [chan=<c>]"]),
   ("coef", ["coef read <Lnn> <k> phase=<phi>", "coef write <Lnn> <k> phase=<phi> <t0> ... <t7>", "coef reset <Lnn> <k>"]),
   ("cci", ["cci <c> write dev=<d> reg=<r> data=<v> [rb=<n>] [db=<n>] [trig=now|frame|bell] [lane=<Lnn>]",
            "cci <c> read dev=<d> reg=<r> [rb=<n>] [db=<n>] [trig=now|frame|bell] [lane=<Lnn>]"]),
   ("ack", ["ack <Cnnnn> <seq>"]), ("evict", ["evict <Cnnnn>"]), ("sfe", ["sfe <Sn>", "sfe <Sn> check"])] ++
  [("fir", ["fir read <Sn> bank=<b> at=<i> [count=<n>]", "fir write <Sn> bank=<b> at=<i> <h> ...",
            "fir commit <Sn> bank=<b> len=<L>"]),
   ("lin", ["lin read bank=<b> table=<t> kind=table|set at=<i> [count=<n>]",
            "lin write bank=<b> table=<t> kind=table|set at=<i> <w> ...", "lin commit bank=<b> [table=<t> np=<N>]",
            "lin load bank=<b> table=<t> file=<name>"]),
   ("store", ["store list", "store write <name> at=<o> <bytes>", "store erase <name>"]), ("led", ["led <n> clear"]),
   ("dout", ["dout <n> on|off", "dout <n> clear"]), ("enc", ["enc <e> pos=<v> [next=<v>] [pitch=<p>]"]),
   ("vote", ["vote <domain> up|down"]), ("temper", ["temper <n>"]), ("event", ["event peek [<n>]", "event pop [<n>]"]),
   ("inject", ["inject <Ennnn> [<a0> [<a1>]]"]), ("time", ["time", "time alarm <tick>|off"]),
   ("reset", ["reset engine", "reset domain <domain>", "reset block <block>"]),
   ("journal", ["journal read <serial>|last count=<n> to=<Cnnnn>", "journal erase <code>"]),
   ("test", ["test journal to=<Cnnnn>"])]

/-- Read the first words of a path; the answer is what is left of its pattern, and the indices. -/
def readPrefix (n : Nat × Nat) : List Seg → Nat × Nat → List Text → Option (List Seg × (Nat × Nat))
  | gs, x, [] => some (gs, x)
  | [], _, _ => none
  | g :: gs, x, ws => match g.read n x ws with
    | some (r, y) => readPrefix n gs y r
    | none => none

/-- The dimension that a word of a path is an index of. -/
def Seg.dim : Seg → Option Nat
  | .lit _ => none
  | .plain d _ => some d
  | .obj _ _ d => some d
  | .two d => some d
  | .port d _ => some d
  | .letter d => some d
  | .domain d => some d
  | .family d => some d
  | .target d => some d

/-- The elements of a field one level below some words. -/
def Fld.below (t : Nat) (f : Fld) (ws : List Text) : List Elem :=
  match if f.path.isEmpty then none else readPrefix (f.n1, f.n2) f.path (0, 0) ws with
  | some ([g], x) =>
    let xs := match g.dim with
      | some d => (upto (if d = 0 then f.n1 else f.n2)).map (setDim x d)
      | none => [x]
    (xs.map (fun y => ({ f := f, i := if f.bank = .tenant then t else y.1, j := y.2 } : Elem))).filter Elem.exists_
  | _ => []

/-- A path begins with some words. -/
def Fld.beginsWith (f : Fld) (ws : List Text) : Bool :=
  !f.path.isEmpty && (readPrefix (f.n1, f.n2) f.path (0, 0) ws).isSome

/-- The access code of a field (Table Scope.5). -/
def Acc.text : Acc → Text
  | .ro => tx "RO" | .rw => tx "RW" | .wo => tx "WO" | .w1c => tx "W1C" | .w1s => tx "W1S" | .rc => tx "RC" | .rs => tx "RS"

/-- The lines for the paths one level below some words: those that the session's tenant has the Look right to. -/
def State.pathsBelow (s : State) (m : Nat) (ws : List Text) : List Text :=
  match s.tenantOf m with
  | none => []
  | some t =>
    let es := (catalogue.flatMap (fun f => f.below t ws)).filter (fun e => s.elemRight m t [e] .look)
    (es.map (fun e => e.f.pathText e.i e.j ++ ' ' :: e.f.acc.text)).eraseDups

/-- help: the verbs, the syntax of a verb, or the paths below a path. -/
def State.verbHelp (s : State) (n : Nat) (topic : Text) : State × Reply :=
  if topic.isEmpty then (s, .data (syntaxLines.map (fun e => tx e.1)))
  else match syntaxLines.find? (fun e => sameWord (tx e.1) topic) with
    | some e => (s, .data (e.2.map tx))
    | none =>
      let ws := splitAt' '.' topic
      if catalogue.any (fun f => f.beginsWith ws) then (s, .data (s.pathsBelow (sesMaster n) ws))
      else (s, .err (if ws.length = 1 then 107 else 301) topic)

/-! ### From a command to its verb -/

/-- What a command does in a session, answered in a form. -/
abbrev Verb := Nat → Form → State → State × Reply

/-- The session verbs. -/
def Command.session (c : Command) : Option (Except Nat Verb) :=
  match String.ofList c.verb, c.bare with
  | "login", [a, b] => some do
    c.only []
    let t ← objArg 'T' 2 64 a
    let v ← numArg b
    return fun n _ s => s.verbLogin n t v
  | "logout", [] => some do
    c.only []
    return fun n _ s => s.verbLogout n
  | "mode", [a] => some do
    c.only []
    let k ← choiceArg ["typed", "machine"] a
    return fun n _ s => s.verbMode n (k == 1)
  | "help", l => some do
    c.only []
    if 1 < l.length then .error 101 else
    return fun n _ s => s.verbHelp n (l.headD [])
  | "get", l => some (if !c.keys.isEmpty || !l.all isPath then .error 101 else .ok fun n _ s => s.verbGet n l)
  | "set", l => some (if !l.isEmpty then .error 101 else .ok fun n _ s => s.verbSet n c.keys)
  | _, _ => none

/-- The lane, Pipe, statistics and camera control verbs. -/
def Command.pipe (c : Command) : Option (Except Nat Verb) :=
  match String.ofList c.verb, c.bare with
  | "lane", [a, b] => some do
    c.only []
    let k ← choiceArg ["start", "stop", "reset"] a
    let l ← laneArg b
    return fun n _ s => s.verbLane n k l
  | "table", a :: ws => some do
    let k ← choiceArg ["read", "write", "commit"] a
    let p ← c.need "profile" numArg
    let b ← c.need "bank" numArg
    if k = 2 then
      c.only ["profile", "bank"]
      if !ws.isEmpty then .error 101 else
      return fun n _ s => s.verbTableCommit n p b
    else
      c.only (["profile", "bank", "table", "at"] ++ if k = 0 then ["count"] else [])
      let t ← c.need "table" numArg
      let i ← c.need "at" numArg
      if k = 0 then
        let m ← c.opt "count" 1 numArg
        if !ws.isEmpty then .error 101 else
        return fun n _ s => s.verbTableRead n p b t i m
      else
        let l ← eachArg numArg ws
        if l.isEmpty then .error 101 else
        return fun n _ s => s.verbTableWrite n p b t i l
  | "stats", [a] => some do
    c.only ["part", "chan"]
    let l ← laneArg a
    let p ← c.opt "part" 0 (choiceArg ["head", "clip", "hist", "zones"])
    let ch ← c.opt "chan" 0 numArg
    return fun n _ s => s.verbStats n l p ch
  | "coef", a :: b :: d :: ws => some do
    let op ← choiceArg ["read", "write", "reset"] a
    let l ← laneArg b
    let k ← numArg d
    if op = 2 then
      c.only []
      if !ws.isEmpty then .error 101 else
      return fun n _ s => s.verbCoefReset n l k
    else
      c.only ["phase"]
      let ph ← c.need "phase" numArg
      if op = 0 then
        if !ws.isEmpty then .error 101 else
        return fun n _ s => s.verbCoefRead n l k ph
      else
        if ws.length != 8 then .error 101 else
        let v ← eachArg intArg ws
        return fun n _ s => s.verbCoefWrite n l k ph v
  | "cci", [a, b] => some do
    let m ← numArg a
    let op ← choiceArg ["write", "read"] b
    c.only (["dev", "reg", "rb", "db", "trig", "lane"] ++ if op = 0 then ["data"] else [])
    let dev ← c.need "dev" numArg
    let reg ← c.need "reg" numArg
    let data ← if op = 0 then c.need "data" numArg else .ok 0
    let rb ← c.opt "rb" 2 numArg
    let db ← c.opt "db" 1 numArg
    let trig ← c.opt "trig" 0 (choiceArg ["now", "frame", "bell"])
    let lane ← c.maybe "lane" laneArg
    return fun n x s => s.verbCci n m (op == 1) { dev := dev, reg := reg, data := data, rb := rb, db := db, trig := trig, lane := lane } x
  | _, _ => none

/-- The delivery, sensor front end and parameter store verbs. -/
def Command.sensor (c : Command) : Option (Except Nat Verb) :=
  match String.ofList c.verb, c.bare with
  | "ack", [a, b] => some do
    c.only []
    let k ← corrArg a
    let q ← numArg b
    return fun n _ s => s.verbAck n k q
  | "evict", [a] => some do
    c.only []
    let k ← corrArg a
    return fun n x s => s.verbEvict n k x
  | "sfe", [a] => some do
    c.only []
    let k ← chanArg a
    return fun n _ s => s.verbSfe n k
  | "sfe", [a, b] => some do
    c.only []
    let k ← chanArg a
    let _ ← choiceArg ["check"] b
    return fun n _ s => s.verbSfeCheck n k
  | "fir", a :: b :: ws => some do
    let op ← choiceArg ["read", "write", "commit"] a
    let k ← chanArg b
    let bank ← c.need "bank" numArg
    if op = 2 then
      c.only ["bank", "len"]
      let len ← c.need "len" numArg
      if !ws.isEmpty then .error 101 else
      return fun n _ s => s.verbFirCommit n k bank len
    else
      c.only (["bank", "at"] ++ if op = 0 then ["count"] else [])
      let i ← c.need "at" numArg
      if op = 0 then
        let m ← c.opt "count" 1 numArg
        if !ws.isEmpty then .error 101 else
        return fun n _ s => s.verbFirRead n k bank i m
      else
        let l ← eachArg intArg ws
        if l.isEmpty then .error 101 else
        return fun n _ s => s.verbFirWrite n k bank i l
  | "lin", a :: ws => some do
    let op ← choiceArg ["read", "write", "commit", "load"] a
    let bank ← c.need "bank" numArg
    if op = 2 then
      c.only ["bank", "table", "np"]
      let t ← c.maybe "table" numArg
      let np ← c.maybe "np" numArg
      if !ws.isEmpty || t.isSome != np.isSome then .error 101 else
      return fun n _ s => s.verbLinCommit n bank (match t, np with | some t, some k => some (t, k) | _, _ => none)
    else
      let t ← c.need "table" numArg
      if op = 3 then
        c.only ["bank", "table", "file"]
        let f ← c.need "file" (fun t => if isWord t then .ok t else .error 304)
        if !ws.isEmpty then .error 101 else
        return fun n _ s => s.verbLinLoad n bank t (lower f)
      else
        c.only (["bank", "table", "kind", "at"] ++ if op = 0 then ["count"] else [])
        let kind ← c.need "kind" (choiceArg ["table", "set"])
        let i ← c.need "at" numArg
        if op = 0 then
          let m ← c.opt "count" 1 numArg
          if !ws.isEmpty then .error 101 else
          return fun n _ s => s.verbLinRead n bank t kind i m
        else
          let l ← eachArg intArg ws
          if l.isEmpty then .error 101 else
          return fun n _ s => s.verbLinWrite n bank t kind i l
  | "store", a :: ws => some do
    let op ← choiceArg ["list", "write", "erase"] a
    match op, ws with
    | 0, [] => do
      c.only []
      return fun n _ s => s.verbStoreList n
    | 1, [name, bytes] => do
      c.only ["at"]
      let o ← c.need "at" numArg
      let bs ← bytesArg bytes
      return fun n x s => s.verbStoreWrite n name o bs x
    | 2, [name] => do
      c.only []
      return fun n _ s => s.verbStoreErase n name
    | _, _ => .error 101
  | _, _ => none

/-- The Bellows, power, event, injection and time verbs. -/
def Command.power (c : Command) : Option (Except Nat Verb) :=
  match String.ofList c.verb, c.bare with
  | "led", [a, b] => some do
    c.only []
    let k ← numArg a
    let _ ← choiceArg ["clear"] b
    return fun n _ s => s.verbLed n k
  | "dout", [a, b] => some do
    c.only []
    let k ← numArg a
    let op ← choiceArg ["off", "on", "clear"] b
    return fun n _ s => s.verbDout n k op
  | "enc", [a] => some do
    c.only ["pos", "next", "pitch"]
    let e ← numArg a
    let pos ← c.need "pos" numArg
    let next ← c.maybe "next" numArg
    let pitch ← c.maybe "pitch" numArg
    return fun n _ s => s.verbEnc n e pos next pitch
  | "vote", [a, b] => some do
    c.only []
    let d ← domainArg a
    let up ← choiceArg ["down", "up"] b
    return fun n _ s => s.verbVote n d (up == 1)
  | "temper", [a] => some do
    c.only []
    let v ← numArg a
    return fun n _ s => s.verbTemper n v
  | "event", a :: ws => some do
    c.only []
    let op ← choiceArg ["peek", "pop"] a
    if 1 < ws.length then .error 101 else
    let k ← match ws with | [t] => numArg t | _ => .ok 1
    return fun n _ s => if op = 0 then s.verbEventPeek n k else s.verbEventPop n k
  | "inject", a :: ws => some do
    c.only []
    let e ← objArg 'E' 4 1024 a
    if 2 < ws.length then .error 101 else
    let v ← eachArg numArg ws
    return fun n _ s => s.verbInject n e (v.getD 0 0) (v.getD 1 0)
  | "time", [] => some do
    c.only []
    return fun n _ s => s.verbTime n
  | "time", [a, b] => some do
    c.only []
    let _ ← choiceArg ["alarm"] a
    let t ← if sameWord b (tx "off") then .ok none else (do return some (← numArg b))
    return fun n _ s => s.verbAlarm n t
  | _, _ => none

/-- The reset, journal and test verbs. -/
def Command.engine (c : Command) : Option (Except Nat Verb) :=
  match String.ofList c.verb, c.bare with
  | "reset", a :: ws => some do
    c.only []
    let op ← choiceArg ["engine", "domain", "block"] a
    match op, ws with
    | 0, [] => return fun n _ s => s.verbResetEngine n
    | 1, [d] => do
      let k ← domainArg d
      return fun n _ s => s.verbResetDomain n k
    | 2, [b] => return fun n _ s => s.verbResetBlock n (blockArg b)
    | _, _ => .error 101
  | "journal", [a, b] => some do
    let op ← choiceArg ["read", "erase"] a
    if op = 0 then
      c.only ["count", "to"]
      let serial ← if sameWord b (tx "last") then .ok none else (do return some (← numArg b))
      let k ← c.need "count" numArg
      let dest ← c.need "to" corrArg
      return fun n _ s => s.verbJournalRead n serial k dest
    else
      c.only []
      let code ← numArg b
      return fun n _ s => s.verbJournalErase n code
  | "test", [a] => some do
    c.only ["to"]
    let _ ← choiceArg ["journal"] a
    let dest ← c.need "to" corrArg
    return fun n _ s => s.verbTestJournal n dest
  | _, _ => none

/-- The verb that a command asks for: 107 for one that does not exist, 101 for the wrong number of arguments. -/
def Command.meaning (c : Command) : Except Nat Verb :=
  match [c.session, c.pipe, c.sensor, c.power, c.engine].findSome? id with
  | some r => r
  | none => if syntaxLines.any (fun e => tx e.1 == c.verb) then .error 101 else .error 107

/-- Verbs that may be used before login (R583). -/
def earlyVerb (v : Text) : Bool := [tx "help", tx "mode", tx "login", tx "logout"].any (fun w => sameWord w v)

/-- Verbs that are executed again when a request is repeated (R577). -/
def queryVerb (v : Text) : Bool := [tx "help", tx "get"].any (fun w => sameWord w v)

/-- The empty command: ok in machine form, and the prompt only in typed mode (R617). -/
def State.emptyCommand (s : State) (n : Nat) (x : Form) : State :=
  if x = .typed then (s.bumpSat Rg.sesLines n).prompt n else s.command n x true true (fun st => (st, .ok))

/-- Run the text of a command in session n. -/
def State.runText (s : State) (n : Nat) (x : Form) (t : Text) : State :=
  match wordsOf t with
  | [] => s.emptyCommand n x
  | v :: ws =>
    s.command n x (queryVerb v) (earlyVerb v) (fun st =>
      match readCommand (v :: ws) with
      | .error e => (st, .err e [])
      | .ok c => match c.meaning with
        | .error e => (st, .err e [])
        | .ok f => f n x st)

end Sys2Proof.Machine
end

