-- ==== Sys2Proof/Machine/Typing.lean ====
section
/-! DEFINITION. What a session receives: characters, lines, and the order in which lines execute (R564, R567 to R577, R587, R594,
R598). -/
namespace Sys2Proof.Machine

/-! ### One line (R568, R573 to R576) -/

/-- A text without leading and trailing spaces. -/
def trimmed (t : Text) : Text := ((t.dropWhile (fun c => c == ' ')).reverse.dropWhile (fun c => c == ' ')).reverse

/-- A tag of 1 to 5 digits. -/
def isTag (t : Text) : Bool := !t.isEmpty && decide (t.length ≤ 5) && t.all isDigit

/-- The text between "#" and the first space or "*". -/
def tagOf : Text → Text
  | '#' :: t => t.takeWhile (fun c => c != ' ' && c != '*')
  | _ => []

/-- The tag under which a bad machine line is answered. -/
def answerTag (t : Text) : Text := if isTag (tagOf t) then tagOf t else ['?']

/-- A text is split at its last "*". -/
def atLastStar (t : Text) : Option (Text × Text) :=
  match t.reverse.span (fun c => c != '*') with
  | (_, []) => none
  | (a, _ :: b) => some (b.reverse, a.reverse)

/-- What a machine line says: its tag, its command and its check, if the check holds. -/
def readMachine (t : Text) : Option (Text × Text × Text) :=
  match atLastStar t with
  | none => none
  | some (body, chk) =>
    if chk.length = 4 ∧ readDigits 16 false false 0 chk = some (crc16 (textBytes body)) then
      some (tagOf body, trimmed (body.drop (1 + (tagOf body).length)), chk)
    else none

/-- A machine line is checked, and its command runs (R573, R575, R577). -/
def State.machineIn (s : State) (n : Nat) (t : Text) : State :=
  match readMachine t with
  | none => ((s.bumpSat Rg.sesCheckFail n).raiseCnt 64 773 n n).respond n (some (answerTag t)) (.err 104 [])
  | some (tag, cmd, chk) =>
    if isTag tag ∧ (plainNat tag).getD 65536 < 65536 then s.runText n (.machine tag (upper chk)) cmd
    else s.respond n (some ['?']) (.err 105 [])

/-- A line executes (R567, R568, R571 to R574). -/
def State.runLine (s : State) (n : Nat) (l : LineIn) : State :=
  let t := trimmed l.text
  let machine := t.head? == some '#'
  let tag : Option Text := if machine then some (answerTag t) else if s.sesMachine n then some ['?'] else none
  if l.badChar then s.respond n tag (.err 103 [])
  else if l.tooLong then s.respond n tag (.err 102 [])
  else if t.head? == some ';' then s.prompt n
  else
    let s1 := s.modSes n (fun y => { y with prev := if t.isEmpty then y.prev else l.text })
    if machine then s1.machineIn n t
    else if s.sesMachine n then s.respond n (some ['?']) (.err 105 [])
    else if t.getLast? == some '?' then
      s1.command n .typed true true (fun st => st.verbHelp n (trimmed t.dropLast))
    else s1.runText n .typed t

/-! ### The order of lines (R587) -/

/-- The session whose line comes next: the earliest terminator, and of those on one tick the lowest session. -/
def State.nextLine (s : State) : Option (Nat × LineIn) :=
  (List.range 16).foldl (fun best n =>
    if !s.sesReads n then best
    else match (s.ses n).lines with
      | [] => best
      | l :: _ => match best with
        | none => some (n, l)
        | some b => if l.at_ < b.2.at_ then some (n, l) else best) none

/-- Execute waiting lines, one at a time. -/
def State.linePump : Nat → State → State
  | 0, s => s
  | k + 1, s =>
    match s.nextLine with
    | none => s
    | some (n, l) =>
      State.linePump k (((s.modSes n (fun y => { y with lines := y.lines.drop 1 })).flowCheck n).runLine n l)

/-- The lines that wait. -/
def State.linesHeld (s : State) : Nat := ((List.range 16).map (fun n => (s.ses n).lines.length)).sum

/-- Every line that may execute does. -/
def State.runLines (s : State) : State := s.linePump s.linesHeld

/-! ### Characters (R567 to R570) -/

/-- Echo, in typed mode with echo on, once the engine may send. -/
def State.echo (s : State) (n : Nat) (t : Text) : State :=
  if s.on Rg.sesEcho n && !s.sesMachine n && s.on Rg.bootReady then s.emit n t else s

/-- The bytes of a session reach the engine: its connection is open, and the UART's supply is good. -/
def State.sesHears (s : State) (n : Nat) : Bool :=
  s.sesOpen n && s.lit && s.powerFail == .off && (!isUart n || s.on Rg.supplyVioHOk)

/-- A terminator ends the line being received (R567); "%%%" and CR within 1 s is the wake pattern (R596). -/
def State.lineEnd (s : State) (n : Nat) (cr : Bool) : State :=
  let y := s.ses n
  if !cr && y.lastCr then s.modSes n (fun z => { z with lastCr := false })
  else if cr && isUart n && y.line.text == ['%', '%', '%'] && !y.line.badChar && !y.line.tooLong &&
      decide (s.now ≤ y.pctAt + msTicks 1000) then s.wakePattern n
  else
    let s1 := (s.echo n crlf).modSes n (fun z =>
      { z with lines := z.lines ++ [{ z.line with at_ := s.now }], line := { text := [] }, esc := 0, lastCr := cr, lastLine := s.now })
    (s1.flowCheck n).runLines

/-- A printable character is appended; beyond the 255th it is discarded (R568). -/
def State.lineChar (s : State) (n : Nat) (c : Char) : State :=
  let y := s.ses n
  if 255 ≤ y.line.text.length then s.modSes n (fun z => { z with line := { z.line with tooLong := true } })
  else
    ((s.modSes n (fun z => { z with line := { z.line with text := z.line.text ++ [c] },
                                    pctAt := if z.line.text.isEmpty then s.now else z.pctAt })).echo n [c]).flowCheck n

/-- A control character edits the line in typed mode (R569); every other one is dropped (R570). -/
def State.lineEdit (s : State) (n b : Nat) : State :=
  let y := s.ses n
  let bs := Char.ofNat 8
  let cr := Char.ofNat 13
  if b = 8 ∨ b = 0x7F then
    if y.line.text.isEmpty then s
    else (s.modSes n (fun z => { z with line := { z.line with text := z.line.text.dropLast } })).echo n [bs, ' ', bs]
  else if b = 0x15 then (s.modSes n (fun z => { z with line := { text := [] } })).echo n (cr :: promptText)
  else if b = 3 then (s.modSes n (fun z => { z with line := { text := [] } })).echo n (tx "^C" ++ crlf ++ promptText)
  else if b = 0x10 then (s.modSes n (fun z => { z with line := { text := z.prev } })).echo n (cr :: promptText ++ y.prev)
  else if b = 0x1B then s.modSes n (fun z => { z with esc := 1 })
  else s

/-- A byte that is no terminator and no flow control. -/
def State.lineByte (s : State) (n b : Nat) : State :=
  let y := s.ses n
  let mark : State → State := fun st => st.modSes n (fun z => { z with line := { z.line with badChar := true } })
  if y.esc = 1 then s.modSes n (fun z => { z with esc := if b = 0x5B then 2 else 0 })
  else if y.esc = 2 then s.modSes n (fun z => { z with esc := if 0x40 ≤ b ∧ b ≤ 0x7E then 0 else 2 })
  else if 0x20 ≤ b ∧ b ≤ 0x7E then s.lineChar n (Char.ofNat b)
  else if (b < 0x20 ∨ b = 0x7F) ∧ !s.sesMachine n then (s.lineEdit n b).flowCheck n
  else mark s

/-- TYPED_CHARACTER: a byte arrives. -/
def State.typedByte (s : State) (n b : Nat) : State :=
  let y := s.ses n
  if !s.sesHears n then s
  else if 0 < y.skip then s.modSes n (fun z => { z with skip := z.skip - 1 })
  else if !isUart n && b = 0xFF then s.modSes n (fun z => { z with skip := 2, lastCr := false })
  else if b = 0x11 ∨ b = 0x13 then (if s.flowOf n = 2 then s.flowStop n (b == 0x13) else s)
  else if 1024 ≤ y.held then
    (if isUart n then s.modSes n (fun z => { z with line := { z.line with badChar := true }, lastCr := false }) else s)
  else if y.esc = 0 ∧ (b = 13 ∨ b = 10) then s.lineEnd n (b == 13)
  else (s.modSes n (fun z => { z with lastCr := false })).lineByte n b

def doTypedCharacter (n : SessionId) (b : Byte) (s : State) : State := s.typedByte n.val b.toNat

/-- LINE_COMPLETE: a carriage return, or a line feed, arrives. -/
def doLineComplete (n : SessionId) (lf : Bool) (s : State) : State := s.typedByte n.val (if lf then 10 else 13)

/-- OUTPUT_DRAIN: the session's output has left but for some bytes, and waiting lines are read again (R595). -/
def doOutputDrain (n : SessionId) (left : Nat) (s : State) : State := (s.drain n.val left).runLines

/-- CCI_VERB_TIMEOUT. -/
def doCciVerbTimeout (n : SessionId) (s : State) : State := (s.cciTimeout n.val).runLines

/-- STORE_WRITE_DONE. -/
def doStoreWriteDone (n : SessionId) (s : State) : State := (s.storeDone n.val).runLines

/-! ### Commands that come as whole lines -/

/-- EMPTY_COMMAND: an empty line in typed form, or a machine line without a command. -/
def doEmptyCommand (n : SessionId) (x : Form) (s : State) : State :=
  if !s.sesReads n.val || !(s.ses n.val).lines.isEmpty then s
  else
    let s0 := s.modSes n.val (fun y => { y with lastLine := s.now })
    if x = .typed ∧ s.sesMachine n.val then s0.respond n.val (some ['?']) (.err 105 []) else s0.emptyCommand n.val x

/-- LOGIN (R584). -/
def doLogin (n : SessionId) (x : Form) (t : TenantId) (code : Word) (s : State) : State :=
  s.lineOf n.val x false true (fun st => st.verbLogin n.val t.val code.toNat)

/-- LOGOUT (R586). -/
def doLogout (n : SessionId) (x : Form) (s : State) : State := s.lineOf n.val x false true (fun st => st.verbLogout n.val)

/-- MODE (R574). -/
def doMode (n : SessionId) (x : Form) (machine : Bool) (s : State) : State :=
  s.lineOf n.val x false true (fun st => st.verbMode n.val machine)

/-- HELP (R572). -/
def doHelp (n : SessionId) (x : Form) (topic : Text) (s : State) : State :=
  s.lineOf n.val x true true (fun st => st.verbHelp n.val topic)

/-- GET (R588). -/
def doGet (n : SessionId) (x : Form) (paths : List Text) (s : State) : State :=
  s.lineOf n.val x true false (fun st => st.verbGet n.val paths)

/-- SET (R589). -/
def doSet (n : SessionId) (x : Form) (asg : List (Text × Text)) (s : State) : State :=
  s.verbLine n x (fun st k => st.verbSet k asg)

def doTableRead (n : SessionId) (x : Form) (p b t at_ count : Nat) (s : State) : State :=
  s.verbLine n x (fun st k => st.verbTableRead k p b t at_ count)

def doTableWrite (n : SessionId) (x : Form) (p b t at_ : Nat) (ws : List Nat) (s : State) : State :=
  s.verbLine n x (fun st k => st.verbTableWrite k p b t at_ ws)

/-- STATS: part 0 head, 1 clip, 2 hist, 3 zones (R620). -/
def doStats (n : SessionId) (x : Form) (l : LaneId) (part : Fin 4) (chan : Fin 4) (s : State) : State :=
  s.verbLine n x (fun st k => st.verbStats k l.val part.val chan.val)

def doCoefRead (n : SessionId) (x : Form) (l : LaneId) (k ph : Nat) (s : State) : State :=
  s.verbLine n x (fun st m => st.verbCoefRead m l.val k ph)

def doCoefWrite (n : SessionId) (x : Form) (l : LaneId) (k ph : Nat) (taps : List Int) (s : State) : State :=
  s.verbLine n x (fun st m => st.verbCoefWrite m l.val k ph taps)

def doCoefReset (n : SessionId) (x : Form) (l : LaneId) (k : Nat) (s : State) : State :=
  s.verbLine n x (fun st m => st.verbCoefReset m l.val k)

def doCciWrite (n : SessionId) (x : Form) (c : CciId) (a : CciArgs) (s : State) : State :=
  s.verbLine n x (fun st k => st.verbCci k c.val false a x)

def doCciRead (n : SessionId) (x : Form) (c : CciId) (a : CciArgs) (s : State) : State :=
  s.verbLine n x (fun st k => st.verbCci k c.val true a x)

/-- ACK (R545, R549). -/
def doAck (n : SessionId) (x : Form) (c : CorrId) (q : Nat) (s : State) : State :=
  s.verbLine n x (fun st k => st.verbAck k c.val q)

def doSfeRead (n : SessionId) (x : Form) (c : ChanId) (s : State) : State := s.verbLine n x (fun st k => st.verbSfe k c.val)

def doFirRead (n : SessionId) (x : Form) (c : ChanId) (b at_ count : Nat) (s : State) : State :=
  s.verbLine n x (fun st k => st.verbFirRead k c.val b at_ count)

def doFirWrite (n : SessionId) (x : Form) (c : ChanId) (b at_ : Nat) (hs : List Int) (s : State) : State :=
  s.verbLine n x (fun st k => st.verbFirWrite k c.val b at_ hs)

/-- LIN_READ: kind 0 table, 1 set. -/
def doLinRead (n : SessionId) (x : Form) (b t kind at_ count : Nat) (s : State) : State :=
  s.verbLine n x (fun st k => st.verbLinRead k b t kind at_ count)

def doLinWrite (n : SessionId) (x : Form) (b t kind at_ : Nat) (ws : List Int) (s : State) : State :=
  s.verbLine n x (fun st k => st.verbLinWrite k b t kind at_ ws)

/-- LIN_LOAD (R625). -/
def doLinLoad (n : SessionId) (x : Form) (b t : Nat) (file : Text) (s : State) : State :=
  s.verbLine n x (fun st k => st.verbLinLoad k b t (lower file))

def doStoreList (n : SessionId) (x : Form) (s : State) : State := s.verbLine n x (fun st k => st.verbStoreList k)

/-- STORE_WRITE (R624). -/
def doStoreWrite (n : SessionId) (x : Form) (name : Text) (off : Nat) (bs : List Byte) (s : State) : State :=
  s.verbLine n x (fun st k => st.verbStoreWrite k name off bs x)

def doStoreErase (n : SessionId) (x : Form) (name : Text) (s : State) : State :=
  s.verbLine n x (fun st k => st.verbStoreErase k name)

/-- EVENT_PEEK (R628). -/
def doEventPeek (n : SessionId) (x : Form) (count : Nat) (s : State) : State :=
  s.verbLine n x (fun st k => st.verbEventPeek k count)

def doEventPop (n : SessionId) (x : Form) (count : Nat) (s : State) : State :=
  s.verbLine n x (fun st k => st.verbEventPop k count)

def doTime (n : SessionId) (x : Form) (s : State) : State := s.verbLine n x (fun st k => st.verbTime k)

/-- TIME_ALARM: a tick, or off (R629). -/
def doTimeAlarm (n : SessionId) (x : Form) (tick : Option Nat) (s : State) : State :=
  s.verbLine n x (fun st k => st.verbAlarm k tick)

/-- RESET_ENGINE (R631). -/
def doResetEngine (n : SessionId) (x : Form) (s : State) : State := s.verbLine n x (fun st k => st.verbResetEngine k)

/-- JOURNAL_READ: from a serial, or the last entries. -/
def doJournalRead (n : SessionId) (x : Form) (serial : Option Nat) (count : Nat) (c : CorrId) (s : State) : State :=
  s.verbLine n x (fun st k => st.verbJournalRead k serial count c.val)

/-- JOURNAL_ERASE (R632). -/
def doJournalErase (n : SessionId) (x : Form) (code : Word) (s : State) : State :=
  s.verbLine n x (fun st k => st.verbJournalErase k code.toNat)

/-- TEST_JOURNAL (R633). -/
def doTestJournal (n : SessionId) (x : Form) (c : CorrId) (s : State) : State :=
  s.verbLine n x (fun st k => st.verbTestJournal k c.val)

end Sys2Proof.Machine
end

