-- ==== Sys2Proof/Machine/Settle.lean ====
section
/-! DEFINITION. What follows every command: what other units do as soon as they can, the outputs that follow the state, and
the conditions under which a command acts at all. -/
namespace Sys2Proof.Machine

/-! ### What follows a command -/

/-- A reset that a session asked for begins when the last byte of its ok has left, and no eviction is in progress (R631, R636). -/
def State.resetDue (s : State) : Bool :=
  match s.thotor.resetAsked with
  | none => false
  | some n => (!s.sesOpen n || (s.ses n).out.isEmpty) &&
      (List.range 16).all (fun k => match (s.ses k).wait with | some (.evict _, _) => false | _ => true)

/-- What runs on by itself in a working engine: verbs whose result has come (R634), lines that may execute (R587), a start-up
phase that has ended (R756), domains that follow their votes (R673, R680), records for Thotor routes (R549), a reset that is
due (R631), and event lines (R591). -/
def State.pumps (s : State) : State :=
  if s.lit && s.powerFail == .off then
    let s1 := if s.cciTold.isEmpty && s.thotor.evictTold.isEmpty then s else s.tellSessions
    let s2 := s1.runLines.startPump.rollPump.thotorPump
    (if s2.resetDue then s2.askedReset else s2).eventPump.eventPump
  else s

/-- The outputs that follow the state at every instant: GB_OPEN (Table Accepted.8), STAGED (R88) and the EVT pins (R720). -/
def State.outputs (s : State) : State :=
  let s1 := (s.wr Rg.jnlGbOpen s.billets.length).wr Rg.jnlStaged s.jnl.staging.length
  { s1 with evt := { s1.evt with pins := s1.evtLevels } }

/-- What follows a command. -/
def State.settle (s : State) : State := s.pumps.outputs

/-! ### When a command acts -/

/-- The engine is powered, and runs. -/
def State.awake (s : State) : Bool := s.lit && s.powerFail == .off

/-- The engine is ready, and runs (R772). -/
def State.live (s : State) : Bool := s.awake && s.on Rg.bootReady

/-- A command that acts in a ready engine only. -/
def State.effect (s : State) (f : State → State) : State := if s.live then (f s).settle else s

/-- A command that acts before READY too. -/
def State.effectAwake (s : State) (f : State → State) : State := if s.awake then (f s).settle else s

/-- A command that acts while a failing engine drains as well (R116). -/
def State.effectDrain (s : State) (f : State → State) : State :=
  if s.lit && s.powerFail != .sealed then (f s).settle else s

/-- A command that acts in a stopped or unpowered engine too. -/
def State.effectDark (s : State) (f : State → State) : State := (f s).settle

end Sys2Proof.Machine
end

