-- ==== Sys2Proof/Machine/Exec.lean ====
section
/-! DEFINITION. The meanings: one for each command. Each runs the effect its family file gives (`do…`) and then settles the
outputs that follow the state. A command that the present state leaves without effect answers that state. -/
namespace Sys2Proof.Machine

/-- BELL (R15), in Bell.lean. -/
def execBell (s : State) : Host.Outcome State Fault Refusal := .next (s.effectAwake (doBell))

/-- BELL_IN_EDGE (R19), in Bell.lean. -/
def execBellInEdge (s : State) : Host.Outcome State Fault Refusal := .next (s.effectAwake (doBellInEdge))

/-- HOLDOVER_ENTRY (R21), in Bell.lean. -/
def execHoldoverEntry (s : State) : Host.Outcome State Fault Refusal := .next (s.effectAwake (doHoldoverEntry))

/-- BELL_SOURCE_CHANGE (R25), in Bell.lean. -/
def execBellSourceChange (m : MasterId) (v : Fin 4) (s : State) : Host.Outcome State Fault Refusal := .next
  (s.effectAwake (doBellSourceChange m v))

/-- PERIOD_WRITE (R26), in Bell.lean. -/
def execPeriodWrite (m : MasterId) (v : BitVec 23) (s : State) : Host.Outcome State Fault Refusal := .next
  (s.effectAwake (doPeriodWrite m v))

/-- TEMPER_CHANGE_COMPLETE (R695), in Timetable.lean. -/
def execTemperChangeComplete (s : State) : Host.Outcome State Fault Refusal := .next (s.effectAwake
  (doTemperChangeComplete))

/-- COST_OVERRUN (R51), in Bell.lean. -/
def execCostOverrun (ty : JobType) (unit : Fin 20) (past : Overrun) (s : State) :
  Host.Outcome State Fault Refusal := .next (s.effect (doCostOverrun ty unit past))

/-- FRAME_START (R150), in Frame.lean. -/
def execFrameStart (p : PortId) (chan : Fin 16) (fn : Fin 65536) (ecc : Bool) (s : State) : Host.Outcome State Fault
  Refusal := .next (s.effect (doFrameStart p chan fn ecc))

/-- JOURNAL_APPEND (R89), in Append.lean. -/
def execJournalAppend (s : State) : Host.Outcome State Fault Refusal := .next (s.effectDrain (doJournalAppend))

/-- JOURNAL_WRITEBACK (R89), in Journal.lean. -/
def execJournalWriteback (s : State) : Host.Outcome State Fault Refusal := .next (s.effectDrain (doJournalWriteback))

/-- CHECKPOINT_START (R94), in Journal.lean. -/
def execCheckpointStart (s : State) : Host.Outcome State Fault Refusal := .next (s.effectAwake (doCheckpointStart))

/-- CHECKPOINT_DONE (R94), in Journal.lean. -/
def execCheckpointDone (s : State) : Host.Outcome State Fault Refusal := .next (s.effectAwake (doCheckpointDone))

/-- FORCE_CKPT (R123), in Journal.lean. -/
def execForceCkpt (m : MasterId) (s : State) : Host.Outcome State Fault Refusal := .next (s.effectAwake (doForceCkpt
  m))

/-- DELIVER_BATCH (R101), in Ring.lean. -/
def execDeliverBatch (r : RingId) (s : State) : Host.Outcome State Fault Refusal := .next (s.effect (doDeliverBatch
  r))

/-- FLUSH_READ_COMPLETE (R102), in Ring.lean. -/
def execFlushReadComplete (r : RingId) (pages : List Nat) (s : State) : Host.Outcome State Fault Refusal := .next
  (s.effectDrain (doFlushReadComplete r pages))

/-- EVICT (R86), in Append.lean. -/
def execEvict (m : MasterId) (c : CorrId) (s : State) : Host.Outcome State Fault Refusal := .next (s.effect (doEvict m
  c))

/-- PWR_FAIL (R116), in PowerFail.lean. -/
def execPwrFail (s : State) : Host.Outcome State Fault Refusal := .next (s.effectDrain (doPwrFail))

/-- PWR_FAIL_ARM (R114), in PowerFail.lean. -/
def execPwrFailArm (s : State) : Host.Outcome State Fault Refusal := .next (s.effectAwake (doPwrFailArm))

/-- SEAL_WRITTEN (R117), in PowerFail.lean. -/
def execSealWritten (s : State) : Host.Outcome State Fault Refusal := .next (s.effectDrain (doSealWritten))

/-- REPLAY_END (R105), in Replay.lean. -/
def execReplayEnd (prods : List (RingId × Word)) (s : State) : Host.Outcome State Fault Refusal := .next
  (s.effectAwake (doReplayEnd prods))

/-- PORT_ENABLE (R127), in Capture.lean. -/
def execPortEnable (m : MasterId) (p : PortId) (s : State) : Host.Outcome State Fault Refusal := .next (s.effect
  (doPortEnable m p))

/-- PORT_DISABLE (R129), in Capture.lean. -/
def execPortDisable (m : MasterId) (p : PortId) (s : State) : Host.Outcome State Fault Refusal := .next (s.effect
  (doPortDisable m p))

/-- FRAME_END (R155), in Frame.lean. -/
def execFrameEnd (p : PortId) (vc : Fin 16) (ecc : Bool) (s : State) : Host.Outcome State Fault Refusal := .next
  (s.effect (doFrameEnd p vc ecc))

/-- PIXEL_LINE (R154), in Frame.lean. -/
def execPixelLine (p : PortId) (chan : Fin 16) (dt : Fin 64) (px : List (BitVec 16)) (crcOk ecc : Bool) (s : State) :
  Host.Outcome State Fault Refusal := .next (s.effect (doPixelLine p chan dt px crcOk ecc))

/-- EMBEDDED_DATA (R133), in Capture.lean. -/
def execEmbeddedData (p : PortId) (vc : Fin 16) (ecc crcOk : Bool) (bytes : List Byte) (s : State) : Host.Outcome
  State Fault Refusal := .next (s.effect (doEmbeddedData p vc ecc crcOk bytes))

/-- USER_DEFINED_PACKET (R264), in Frame.lean. -/
def execUserDefinedPacket (p : PortId) (vc : Fin 16) (t : Fin 8) (crcOk ecc : Bool) (bytes : List Byte) (s : State) :
  Host.Outcome State Fault Refusal := .next (s.effect (doUserDefinedPacket p vc t crcOk ecc bytes))

/-- SHORT_PACKET (R133), in Capture.lean. -/
def execShortPacket (p : PortId) (vc : Fin 16) (ecc : Bool) (s : State) : Host.Outcome State Fault Refusal := .next
  (s.effect (doShortPacket p vc ecc))

/-- DT_MISMATCH (R133), in Capture.lean. -/
def execDtMismatch (p : PortId) (vc : Fin 16) (ecc crcOk : Bool) (s : State) : Host.Outcome State Fault Refusal :=
  .next (s.effect (doDtMismatch p vc ecc crcOk))

/-- UNBOUND_PACKET (R133), in Capture.lean. -/
def execUnboundPacket (p : PortId) (vc : Fin 16) (s : State) : Host.Outcome State Fault Refusal := .next (s.effect
  (doUnboundPacket p vc))

/-- HEADER_UNCORRECTABLE (R131), in Capture.lean. -/
def execHeaderUncorrectable (p : PortId) (s : State) : Host.Outcome State Fault Refusal := .next (s.effect
  (doHeaderUncorrectable p))

/-- LINK_TIMEOUT (R134), in Capture.lean. -/
def execLinkTimeout (p : PortId) (s : State) : Host.Outcome State Fault Refusal := .next (s.effect (doLinkTimeout p))

/-- DESKEW (R134), in Capture.lean. -/
def execDeskew (p : PortId) (ok : Bool) (s : State) : Host.Outcome State Fault Refusal := .next (s.effect (doDeskew p
  ok))

/-- ESCAPE_ENTRY (R135), in Frame.lean. -/
def execEscapeEntry (p : Fin 4) (s : State) : Host.Outcome State Fault Refusal := .next (s.effect (doEscapeEntry p))

/-- TIMING_CODE (R138), in Capture.lean. -/
def execTimingCode (p : PortId) (xy : Fin 256) (s : State) : Host.Outcome State Fault Refusal := .next (s.effect
  (doTimingCode p xy))

/-- PCLK_LOST (R141), in Capture.lean. -/
def execPclkLost (p : PortId) (s : State) : Host.Outcome State Fault Refusal := .next (s.effect (doPclkLost p))

/-- TRAILER (R145), in Capture.lean. -/
def execTrailer (p : PortId) (words t : List Nat) (s : State) : Host.Outcome State Fault Refusal := .next (s.effect
  (doTrailer p words t))

/-- NO_FRAME_END (R155), in Capture.lean. -/
def execNoFrameEnd (n : LaneId) (s : State) : Host.Outcome State Fault Refusal := .next (s.effect (doNoFrameEnd n))

/-- PORT_OVERFLOW (R178), in Capture.lean. -/
def execPortOverflow (p : PortId) (n : LaneId) (lines : Nat) (s : State) : Host.Outcome State Fault Refusal := .next
  (s.effect (doPortOverflow p n lines))

/-- BINDING_WRITE (R826), in Capture.lean. -/
def execBindingWrite (m : MasterId) (n : LaneId) (k : Fin 32) (v : Word) (s : State) : Host.Outcome State Fault
  Refusal := .next (s.effect (doBindingWrite m n k v))

/-- LANE_START (R167), in Capture.lean. -/
def execLaneStart (m : MasterId) (n : LaneId) (s : State) : Host.Outcome State Fault Refusal := .next (s.effect
  (doLaneStart m n))

/-- LANE_STOP (R168), in Capture.lean. -/
def execLaneStop (m : MasterId) (n : LaneId) (s : State) : Host.Outcome State Fault Refusal := .next (s.effect
  (doLaneStop m n))

/-- LANE_RESET (R168), in Capture.lean. -/
def execLaneReset (m : MasterId) (n : LaneId) (s : State) : Host.Outcome State Fault Refusal := .next (s.effect
  (doLaneReset m n))

/-- CCI_PUSH (R170), in Cci.lean. -/
def execCciPush (m : MasterId) (c : CciId) (data : Word) (s : State) : Host.Outcome State Fault Refusal := .next
  (s.effect (doCciPush m c data))

/-- CCI_ISSUE (R170), in Cci.lean. -/
def execCciIssue (c : CciId) (stuck : Bool) (s : State) : Host.Outcome State Fault Refusal := .next (s.effect
  (doCciIssue c stuck))

/-- CCI_TRANSACTION_DONE (R172), in Cci.lean. -/
def execCciTransactionDone (c : CciId) (status : Fin 3) (rdata : Word) (s : State) : Host.Outcome State Fault Refusal
  := .next (s.effect (doCciTransactionDone c status rdata))

/-- CCI_STRETCH_TIMEOUT (R172), in Cci.lean. -/
def execCciStretchTimeout (c : CciId) (s : State) : Host.Outcome State Fault Refusal := .next (s.effect
  (doCciStretchTimeout c))

/-- CCI_RESULT_READ (R174), in Cci.lean. -/
def execCciResultRead (m : MasterId) (c : CciId) (s : State) : Host.Outcome State Fault Refusal := .next (s.effect
  (doCciResultRead m c))

/-- CCI_DISABLE (R172), in Cci.lean. -/
def execCciDisable (m : MasterId) (c : CciId) (s : State) : Host.Outcome State Fault Refusal := .next (s.effect
  (doCciDisable m c))

/-- PIPE_STRIPE_START (R189), in Pipe.lean. -/
def execPipeStripeStart (parity lost : Bool) (s : State) : Host.Outcome State Fault Refusal := .next (s.effect
  (doPipeStripeStart parity lost))

/-- PIPE_STRIPE_DONE (R192), in Pipe.lean. -/
def execPipeStripeDone (s : State) : Host.Outcome State Fault Refusal := .next (s.effect (doPipeStripeDone))

/-- TBL_DATA_ACCESS (R239), in PipeTables.lean. -/
def execTblDataAccess (m : MasterId) (v : Option Word) (s : State) : Host.Outcome State Fault Refusal := .next
  (s.effect (doTblDataAccess m v))

/-- TABLE_COMMIT (R225), in PipeTables.lean. -/
def execTableCommit (m : MasterId) (s : State) : Host.Outcome State Fault Refusal := .next (s.effect (doTableCommit
  m))

/-- REF_FILL (R220), in PipeTables.lean. -/
def execRefFill (m : MasterId) (n : LaneId) (s : State) : Host.Outcome State Fault Refusal := .next (s.effect
  (doRefFill m n))

/-- REF_CLEAR (R239), in PipeTables.lean. -/
def execRefClear (m : MasterId) (k : Fin 32) (s : State) : Host.Outcome State Fault Refusal := .next (s.effect
  (doRefClear m k))

/-- PARTNER_MISSING (R229), in Pipe.lean. -/
def execPartnerMissing (n : LaneId) (second : Bool) (s : State) : Host.Outcome State Fault Refusal := .next (s.effect
  (doPartnerMissing n second))

/-- STREAM_ENABLE (R257), in Streams.lean. -/
def execStreamEnable (m : MasterId) (n : LaneId) (k : Fin 4) (v : Bool) (s : State) : Host.Outcome State Fault Refusal
  := .next (s.effect (doStreamEnable m n k v))

/-- COEF_DATA_WRITE (R272), in Streams.lean. -/
def execCoefDataWrite (m : MasterId) (k : Fin 4) (v : Word) (s : State) : Host.Outcome State Fault Refusal := .next
  (s.effect (doCoefDataWrite m k v))

/-- FINDER_JOB_START (R278), in Finder.lean. -/
def execFinderJobStart (a : Fin 8) (s : State) : Host.Outcome State Fault Refusal := .next (s.effect (doFinderJobStart
  a))

/-- FINDER_JOB_DONE (R286), in Finder.lean. -/
def execFinderJobDone (a : Fin 8) (epoch cycles : Nat) (tracks : OpenTracks) (found : List Found) (s : State) : Host.Outcome State
  Fault Refusal := .next (s.effect (doFinderJobDone a epoch cycles tracks found))

/-- CANDIDATE_DISPATCH (R279), in Decoding.lean. -/
def execCandidateDispatch (s : State) : Host.Outcome State Fault Refusal := .next (s.effect (doCandidateDispatch))

/-- DECODE_DONE (R290), in Decoding.lean. -/
def execDecodeDone (a : Fin 8) (core : Fin 4) (epoch : Nat) (out : DecodeOut) (g : GradeOut) (s : State) :
  Host.Outcome State Fault Refusal := .next (s.effect (doDecodeDone a core epoch out g))

/-- DECODE_TIMEOUT (R280), in Decoding.lean. -/
def execDecodeTimeout (a : Fin 8) (core : Fin 4) (s : State) : Host.Outcome State Fault Refusal := .next (s.effect
  (doDecodeTimeout a core))

/-- SRAM_CORRECTED (R308), in Finder.lean. -/
def execSramCorrected (a : Fin 8) (s : State) : Host.Outcome State Fault Refusal := .next (s.effectAwake
  (doSramCorrected a))

/-- LATENCY_MARK_EXPIRY (R343), in Slate.lean. -/
def execLatencyMarkExpiry (u : Fin 4) (s : State) : Host.Outcome State Fault Refusal := .next (s.effect
  (doLatencyMarkExpiry u))

/-- LATENCY_CLEAR (R351), in Slate.lean. -/
def execLatencyClear (m : MasterId) (u : Fin 4) (s : State) : Host.Outcome State Fault Refusal := .next (s.effect
  (doLatencyClear m u))

/-- LATENCY_UNIT_WRITE (R347), in Slate.lean. -/
def execLatencyUnitWrite (m : MasterId) (u : Fin 4) (which : Fin 3) (v : Fin 64) (s : State) : Host.Outcome State
  Fault Refusal := .next (s.effect (doLatencyUnitWrite m u which v))

/-- CONTINUITY_RESET (R347), in Slate.lean. -/
def execContinuityReset (m : MasterId) (n : LaneId) (win : Bool) (v : Fin 64) (s : State) : Host.Outcome State Fault
  Refusal := .next (s.effect (doContinuityReset m n win v))

/-- FIELD_LOST (R354), in Bellows.lean. -/
def execFieldLost (v : Nat) (s : State) : Host.Outcome State Fault Refusal := .next (s.effectAwake (doFieldLost v))

/-- FIELD_OK (R354), in Bellows.lean. -/
def execFieldOk (v : Nat) (s : State) : Host.Outcome State Fault Refusal := .next (s.effectAwake (doFieldOk v))

/-- FIELD_OV (R354), in Bellows.lean. -/
def execFieldOv (v : Nat) (s : State) : Host.Outcome State Fault Refusal := .next (s.effectAwake (doFieldOv v))

/-- PULSE_START (R357), in Strobe.lean. -/
def execPulseStart (n : LedId) (s : State) : Host.Outcome State Fault Refusal := .next (s.effect (doPulseStart n))

/-- PULSE_END (R364), in Strobe.lean. -/
def execPulseEnd (n : LedId) (iMeas vSink : Nat) (s : State) : Host.Outcome State Fault Refusal := .next (s.effect
  (doPulseEnd n iMeas vSink))

/-- STROBE_ENABLE (R358), in Strobe.lean. -/
def execStrobeEnable (m : MasterId) (n : LedId) (en : Bool) (width : BitVec 22) (maxPulses : BitVec 4) (trimEn : Bool)
 (s : State) : Host.Outcome State Fault Refusal := .next (s.effect (doStrobeEnable m n en width maxPulses trimEn))

/-- SINK_SHORT (R378), in Strobe.lean. -/
def execSinkShort (n : LedId) (s : State) : Host.Outcome State Fault Refusal := .next (s.effect (doSinkShort n))

/-- RETRY_WAIT_END (R379), in Strobe.lean. -/
def execRetryWaitEnd (dout : Bool) (n : LedId) (s : State) : Host.Outcome State Fault Refusal := .next (s.effect
  (doRetryWaitEnd dout n))

/-- LED_CLEAR (R626), in Bellows.lean. -/
def execLedClear (m : MasterId) (n : LedId) (s : State) : Host.Outcome State Fault Refusal := .next (s.effect
  (doLedClear m n))

/-- DOUT_OUT_WRITE (R366), in Bellows.lean. -/
def execDoutOutWrite (m : MasterId) (n : LedId) (v : Bool) (s : State) : Host.Outcome State Fault Refusal := .next
  (s.effect (doDoutOutWrite m n v))

/-- DOUT_CLEAR (R626), in Bellows.lean. -/
def execDoutClear (m : MasterId) (n : LedId) (s : State) : Host.Outcome State Fault Refusal := .next (s.effect
  (doDoutClear m n))

/-- DOUT_PULSE_START (R366), in Bellows.lean. -/
def execDoutPulseStart (n : LedId) (s : State) : Host.Outcome State Fault Refusal := .next (s.effect (doDoutPulseStart
  n))

/-- DOUT_PULSE_END (R366), in Bellows.lean. -/
def execDoutPulseEnd (n : LedId) (s : State) : Host.Outcome State Fault Refusal := .next (s.effect (doDoutPulseEnd n))

/-- DOUT_OVERLOAD (R367), in Bellows.lean. -/
def execDoutOverload (n : LedId) (s : State) : Host.Outcome State Fault Refusal := .next (s.effect (doDoutOverload n))

/-- DOUT_SAMPLE (R368), in Bellows.lean. -/
def execDoutSample (readback reverse : BitVec 8) (mA : List Nat) (s : State) : Host.Outcome State Fault Refusal :=
  .next (s.effect (doDoutSample readback reverse mA))

/-- TIE_PROBE_STEP (R381), in Bellows.lean. -/
def execTieProbeStep (r1 r4 : Bool) (s : State) : Host.Outcome State Fault Refusal := .next (s.effect (doTieProbeStep
  r1 r4))

/-- DIN_EDGE (R370), in Bellows.lean. -/
def execDinEdge (levels : BitVec 8) (s : State) : Host.Outcome State Fault Refusal := .next (s.effectAwake (doDinEdge
  levels))

/-- ENC_POS_WRITE (R374), in Bellows.lean. -/
def execEncPosWrite (m : MasterId) (e : Fin 4) (pos : Word) (next : Option Word) (pitch : Option (BitVec 24)) (s :
  State) : Host.Outcome State Fault Refusal := .next (s.effect (doEncPosWrite m e pos next pitch))

/-- QUENCH_TIMEOUT (R377), in Bellows.lean. -/
def execQuenchTimeout (n : LedId) (s : State) : Host.Outcome State Fault Refusal := .next (s.effect (doQuenchTimeout
  n))

/-- TRIM_FLASH_START (R495), in Bellows.lean. -/
def execTrimFlashStart (n : LedId) (s : State) : Host.Outcome State Fault Refusal := .next (s.effect (doTrimFlashStart
  n))

/-- TRIM_FLASH_END (R496), in Bellows.lean. -/
def execTrimFlashEnd (n : LedId) (s : State) : Host.Outcome State Fault Refusal := .next (s.effect (doTrimFlashEnd n))

/-- TRIM_CAPTURE (R498), in Bellows.lean. -/
def execTrimCapture (m : MasterId) (n : LedId) (s : State) : Host.Outcome State Fault Refusal := .next (s.effect
  (doTrimCapture m n))

/-- SFE_CHANNEL_ENABLE (R395), in Rotation.lean. -/
def execSfeChannelEnable (m : MasterId) (n : ChanId) (s : State) : Host.Outcome State Fault Refusal := .next (s.effect
  (doSfeChannelEnable m n))

/-- SFE_CHANNEL_DISABLE (R471), in Rotation.lean. -/
def execSfeChannelDisable (m : MasterId) (n : ChanId) (s : State) : Host.Outcome State Fault Refusal := .next
  (s.effect (doSfeChannelDisable m n))

/-- SFE_ROUTING_WRITE (R400), in Sfe.lean. -/
def execSfeRoutingWrite (m : MasterId) (l : List (RouteFld × Word)) (s : State) : Host.Outcome State Fault Refusal :=
  .next (s.effect (doSfeRoutingWrite m l))

/-- SFE_SLOT_HALF (R393), in SfeChain.lean. -/
def execSfeSlotHalf (xs : List HalfIn) (beyond : BitVec 24) (failing : BitVec 4) (s : State) : Host.Outcome State
  Fault Refusal := .next (s.effect (doSfeSlotHalf xs beyond failing))

/-- SFE_SAMPLE (R461), in SfeChain.lean. -/
def execSfeSample (n : ChanId) (s : State) : Host.Outcome State Fault Refusal := .next (s.effect (doSfeSample n))

/-- EXC_LIMIT (R407), in Sfe.lean. -/
def execExcLimit (x : Fin 4) (s : State) : Host.Outcome State Fault Refusal := .next (s.effect (doExcLimit x))

/-- EXC_LIMIT_CLEAR (R407), in Sfe.lean. -/
def execExcLimitClear (m : MasterId) (x : Fin 4) (s : State) : Host.Outcome State Fault Refusal := .next (s.effect
  (doExcLimitClear m x))

/-- BIAS_LIMIT (R402), in Sfe.lean. -/
def execBiasLimit (p : Fin 16) (s : State) : Host.Outcome State Fault Refusal := .next (s.effect (doBiasLimit p))

/-- GUARD_LIMIT (R408), in Sfe.lean. -/
def execGuardLimit (g : Fin 4) (s : State) : Host.Outcome State Fault Refusal := .next (s.effect (doGuardLimit g))

/-- CHECK_START (R415), in Sfe.lean. -/
def execCheckStart (n : ChanId) (s : State) : Host.Outcome State Fault Refusal := .next (s.effect (doCheckStart n))

/-- CHECK_END (R418), in Rotation.lean. -/
def execCheckEnd (n : ChanId) (z : Word) (iDiff : Word) (s : State) : Host.Outcome State Fault Refusal := .next
  (s.effect (doCheckEnd n z iDiff))

/-- CHECK_NOW (R415), in Sfe.lean. -/
def execCheckNow (m : MasterId) (n : ChanId) (s : State) : Host.Outcome State Fault Refusal := .next (s.effect
  (doCheckNow m n))

/-- FIR_SWAP (R449), in SfeBanks.lean. -/
def execFirSwap (m : MasterId) (n : ChanId) (which : Fin 3) (v : Bool) (s : State) : Host.Outcome State Fault Refusal
  := .next (s.effect (doFirSwap m n which v))

/-- LIN_SWAP (R459), in SfeBanks.lean. -/
def execLinSwap (m : MasterId) (n : ChanId) (s : State) : Host.Outcome State Fault Refusal := .next (s.effect
  (doLinSwap m n))

/-- FIR_DATA_ACCESS (R477), in SfeBanks.lean. -/
def execFirDataAccess (m : MasterId) (v : Option (BitVec 24)) (s : State) : Host.Outcome State Fault Refusal := .next
  (s.effect (doFirDataAccess m v))

/-- FIR_COMMIT (R448), in SfeBanks.lean. -/
def execFirCommit (m : MasterId) (len : BitVec 8) (s : State) : Host.Outcome State Fault Refusal := .next (s.effect
  (doFirCommit m len))

/-- LIN_DATA_ACCESS (R477), in SfeBanks.lean. -/
def execLinDataAccess (m : MasterId) (v : Option Word) (s : State) : Host.Outcome State Fault Refusal := .next
  (s.effect (doLinDataAccess m v))

/-- LIN_COMMIT (R459), in SfeBanks.lean. -/
def execLinCommit (m : MasterId) (np : BitVec 7) (s : State) : Host.Outcome State Fault Refusal := .next (s.effect
  (doLinCommit m np))

/-- RESULT_0_READ (R465), in SfeChain.lean. -/
def execResult0Read (m : MasterId) (n : ChanId) (s : State) : Host.Outcome State Fault Refusal := .next (s.effect
  (doResult0Read m n))

/-- RESULT_WORD_READ (R465), in SfeChain.lean. -/
def execResultWordRead (m : MasterId) (n : ChanId) (w : Fin 3) (s : State) : Host.Outcome State Fault Refusal := .next
  (s.effect (doResultWordRead m n w))

/-- ROTATION_BEGIN (R483), in Rotation.lean. -/
def execRotationBegin (s : State) : Host.Outcome State Fault Refusal := .next (s.effect (doRotationBegin))

/-- CAL_NOW (R483), in Rotation.lean. -/
def execCalNow (m : MasterId) (s : State) : Host.Outcome State Fault Refusal := .next (s.effect (doCalNow m))

/-- CAL_STEP (R480), in Rotation.lean. -/
def execCalStep (p q : BitVec 18) (s : State) : Host.Outcome State Fault Refusal := .next (s.effect (doCalStep p q))

/-- FLK_EN_WRITE (R499), in Flicker.lean. -/
def execFlkEnWrite (m : MasterId) (v : Bool) (s : State) : Host.Outcome State Fault Refusal := .next (s.effect
  (doFlkEnWrite m v))

/-- APPLY (R516), in Append.lean. -/
def execApply (m : MasterId) (c : CorrId) (s : State) : Host.Outcome State Fault Refusal := .next (s.effect (doApply m
  c))

/-- CORR_SETTINGS_WRITE (R110), in Append.lean. -/
def execCorrSettingsWrite (m : MasterId) (c : CorrId) (f : CorrSetting) (v : Word) (s : State) : Host.Outcome State
  Fault Refusal := .next (s.effect (doCorrSettingsWrite m c f v))

/-- STALL_TIMEOUT (R524), in Append.lean. -/
def execStallTimeout (c : CorrId) (s : State) : Host.Outcome State Fault Refusal := .next (s.effect (doStallTimeout
  c))

/-- RING_CONS_WRITE (R529), in Ring.lean. -/
def execRingConsWrite (m : MasterId) (r : RingId) (v : Word) (s : State) : Host.Outcome State Fault Refusal := .next
  (s.effect (doRingConsWrite m r v))

/-- RING_ARM (R530), in Ring.lean. -/
def execRingArm (m : MasterId) (r : RingId) (pages : List Nat) (s : State) : Host.Outcome State Fault Refusal := .next
  (s.effect (doRingArm m r pages))

/-- RING_DISARM (R530), in Ring.lean. -/
def execRingDisarm (m : MasterId) (r : RingId) (s : State) : Host.Outcome State Fault Refusal := .next (s.effect
  (doRingDisarm m r))

/-- COALESCE_TIMEOUT (R534), in Ring.lean. -/
def execCoalesceTimeout (r : RingId) (s : State) : Host.Outcome State Fault Refusal := .next (s.effect
  (doCoalesceTimeout r))

/-- MSIX_PENDING_SEND (R717), in Ring.lean. -/
def execMsixPendingSend (v : Fin 64) (enabled unmasked : Bool) (s : State) : Host.Outcome State Fault Refusal := .next
  (s.effect (doMsixPendingSend v enabled unmasked))

/-- PCIE_LINK_DOWN (R550), in Ring.lean. -/
def execPcieLinkDown (s : State) : Host.Outcome State Fault Refusal := .next (s.effectDrain (doPcieLinkDown))

/-- PCIE_LINK_UP (R550), in Ring.lean. -/
def execPcieLinkUp (width speed : Nat) (s : State) : Host.Outcome State Fault Refusal := .next (s.effectAwake
  (doPcieLinkUp width speed))

/-- FUNCTION_LEVEL_RESET (R550), in Ring.lean. -/
def execFunctionLevelReset (fn : Option (Fin 16)) (s : State) : Host.Outcome State Fault Refusal := .next
  (s.effectAwake (doFunctionLevelReset fn))

/-- PERST (R782), in Resets.lean. -/
def execPerst (s : State) : Host.Outcome State Fault Refusal := .next (s.effectAwake (doPerst))

/-- ETH_LINK_DOWN (R555), in Ether.lean. -/
def execEthLinkDown (p : Fin 2) (s : State) : Host.Outcome State Fault Refusal := .next (s.effectAwake (doEthLinkDown
  p))

/-- ETH_LINK_UP (R555), in Ether.lean. -/
def execEthLinkUp (p : Fin 2) (s : State) : Host.Outcome State Fault Refusal := .next (s.effectAwake (doEthLinkUp p))

/-- PTP_SYNC (R539), in Ether.lean. -/
def execPtpSync (p : Fin 2) (master : Int) (s : State) : Host.Outcome State Fault Refusal := .next (s.effect
  (doPtpSync p master))

/-- JX_HELLO (R542), in Jexnus.lean. -/
def execJxHello (p : Fin 2) (ip udp : Nat) (bs : List Byte) (s : State) : Host.Outcome State Fault Refusal := .next
  (s.effect (doJxHello p ip udp bs))

/-- JX_ACK (R545), in Jexnus.lean. -/
def execJxAck (p : Fin 2) (ip udp : Nat) (bs : List Byte) (s : State) : Host.Outcome State Fault Refusal := .next
  (s.effect (doJxAck p ip udp bs))

/-- JX_BYE (R547), in Jexnus.lean. -/
def execJxBye (p : Fin 2) (ip udp : Nat) (bs : List Byte) (s : State) : Host.Outcome State Fault Refusal := .next
  (s.effect (doJxBye p ip udp bs))

/-- BAD_DGRAM (R541), in Jexnus.lean. -/
def execBadDgram (p : Fin 2) (ip udp : Nat) (bs : List Byte) (s : State) : Host.Outcome State Fault Refusal := .next
  (s.effect (doBadDgram p ip udp bs))

/-- JX_DATA (R543), in Jexnus.lean. -/
def execJxData (x : CtxId) (s : State) : Host.Outcome State Fault Refusal := .next (s.effect (doJxData x))

/-- JX_RETRANSMIT_TIMEOUT (R546), in Jexnus.lean. -/
def execJxRetransmitTimeout (x : CtxId) (s : State) : Host.Outcome State Fault Refusal := .next (s.effect
  (doJxRetransmitTimeout x))

/-- JX_KEEPALIVE (R547), in Jexnus.lean. -/
def execJxKeepalive (x : CtxId) (s : State) : Host.Outcome State Fault Refusal := .next (s.effect (doJxKeepalive x))

/-- JX_SESSION_TIMEOUT (R547), in Jexnus.lean. -/
def execJxSessionTimeout (x : CtxId) (s : State) : Host.Outcome State Fault Refusal := .next (s.effect
  (doJxSessionTimeout x))

/-- JX_CLOSE (R559), in Jexnus.lean. -/
def execJxClose (m : MasterId) (x : CtxId) (s : State) : Host.Outcome State Fault Refusal := .next (s.effect
  (doJxClose m x))

/-- TYPED_CHARACTER (R569), in Typing.lean. -/
def execTypedCharacter (n : SessionId) (b : Byte) (s : State) : Host.Outcome State Fault Refusal := .next
  (s.effectAwake (doTypedCharacter n b))

/-- LINE_COMPLETE (R567), in Typing.lean. -/
def execLineComplete (n : SessionId) (lf : Bool) (s : State) : Host.Outcome State Fault Refusal := .next
  (s.effectAwake (doLineComplete n lf))

/-- EMPTY_COMMAND (R617), in Typing.lean. -/
def execEmptyCommand (n : SessionId) (x : Form) (s : State) : Host.Outcome State Fault Refusal := .next (s.effect
  (doEmptyCommand n x))

/-- LOGIN (R584), in Typing.lean. -/
def execLogin (n : SessionId) (x : Form) (t : TenantId) (code : Word) (s : State) : Host.Outcome State Fault Refusal
  := .next (s.effect (doLogin n x t code))

/-- LOGOUT (R586), in Typing.lean. -/
def execLogout (n : SessionId) (x : Form) (s : State) : Host.Outcome State Fault Refusal := .next (s.effect (doLogout
  n x))

/-- MODE (R617), in Typing.lean. -/
def execMode (n : SessionId) (x : Form) (machine : Bool) (s : State) : Host.Outcome State Fault Refusal := .next
  (s.effect (doMode n x machine))

/-- HELP (R572), in Typing.lean. -/
def execHelp (n : SessionId) (x : Form) (topic : Text) (s : State) : Host.Outcome State Fault Refusal := .next
  (s.effect (doHelp n x topic))

/-- GET (R588), in Typing.lean. -/
def execGet (n : SessionId) (x : Form) (paths : List Text) (s : State) : Host.Outcome State Fault Refusal := .next
  (s.effect (doGet n x paths))

/-- SET (R589), in Typing.lean. -/
def execSet (n : SessionId) (x : Form) (asg : List (Text × Text)) (s : State) : Host.Outcome State Fault Refusal :=
  .next (s.effect (doSet n x asg))

/-- TABLE_READ (R619), in Typing.lean. -/
def execTableRead (n : SessionId) (x : Form) (p b t at_ count : Nat) (s : State) : Host.Outcome State Fault Refusal :=
  .next (s.effect (doTableRead n x p b t at_ count))

/-- TABLE_WRITE (R618), in Typing.lean. -/
def execTableWrite (n : SessionId) (x : Form) (p b t at_ : Nat) (ws : List Nat) (s : State) : Host.Outcome State Fault
  Refusal := .next (s.effect (doTableWrite n x p b t at_ ws))

/-- STATS (R620), in Typing.lean. -/
def execStats (n : SessionId) (x : Form) (l : LaneId) (part : Fin 4) (chan : Fin 4) (s : State) : Host.Outcome State
  Fault Refusal := .next (s.effect (doStats n x l part chan))

/-- COEF_READ (R618), in Typing.lean. -/
def execCoefRead (n : SessionId) (x : Form) (l : LaneId) (k ph : Nat) (s : State) : Host.Outcome State Fault Refusal
  := .next (s.effect (doCoefRead n x l k ph))

/-- COEF_WRITE (R618), in Typing.lean. -/
def execCoefWrite (n : SessionId) (x : Form) (l : LaneId) (k ph : Nat) (taps : List Int) (s : State) : Host.Outcome
  State Fault Refusal := .next (s.effect (doCoefWrite n x l k ph taps))

/-- COEF_RESET (R618), in Typing.lean. -/
def execCoefReset (n : SessionId) (x : Form) (l : LaneId) (k : Nat) (s : State) : Host.Outcome State Fault Refusal :=
  .next (s.effect (doCoefReset n x l k))

/-- CCI_WRITE (R621), in Typing.lean. -/
def execCciWrite (n : SessionId) (x : Form) (c : CciId) (a : CciArgs) (s : State) : Host.Outcome State Fault Refusal
  := .next (s.effect (doCciWrite n x c a))

/-- CCI_READ (R621), in Typing.lean. -/
def execCciRead (n : SessionId) (x : Form) (c : CciId) (a : CciArgs) (s : State) : Host.Outcome State Fault Refusal :=
  .next (s.effect (doCciRead n x c a))

/-- CCI_VERB_TIMEOUT (R621), in Typing.lean. -/
def execCciVerbTimeout (n : SessionId) (s : State) : Host.Outcome State Fault Refusal := .next (s.effect
  (doCciVerbTimeout n))

/-- ACK (R622), in Typing.lean. -/
def execAck (n : SessionId) (x : Form) (c : CorrId) (q : Nat) (s : State) : Host.Outcome State Fault Refusal := .next
  (s.effect (doAck n x c q))

/-- SFE_READ (R623), in Typing.lean. -/
def execSfeRead (n : SessionId) (x : Form) (c : ChanId) (s : State) : Host.Outcome State Fault Refusal := .next
  (s.effect (doSfeRead n x c))

/-- FIR_READ (R623), in Typing.lean. -/
def execFirRead (n : SessionId) (x : Form) (c : ChanId) (b at_ count : Nat) (s : State) : Host.Outcome State Fault
  Refusal := .next (s.effect (doFirRead n x c b at_ count))

/-- FIR_WRITE (R623), in Typing.lean. -/
def execFirWrite (n : SessionId) (x : Form) (c : ChanId) (b at_ : Nat) (hs : List Int) (s : State) : Host.Outcome
  State Fault Refusal := .next (s.effect (doFirWrite n x c b at_ hs))

/-- LIN_READ (R623), in Typing.lean. -/
def execLinRead (n : SessionId) (x : Form) (b t kind at_ count : Nat) (s : State) : Host.Outcome State Fault Refusal
  := .next (s.effect (doLinRead n x b t kind at_ count))

/-- LIN_WRITE (R623), in Typing.lean. -/
def execLinWrite (n : SessionId) (x : Form) (b t kind at_ : Nat) (ws : List Int) (s : State) : Host.Outcome State
  Fault Refusal := .next (s.effect (doLinWrite n x b t kind at_ ws))

/-- LIN_LOAD (R625), in Typing.lean. -/
def execLinLoad (n : SessionId) (x : Form) (b t : Nat) (file : Text) (s : State) : Host.Outcome State Fault Refusal :=
  .next (s.effect (doLinLoad n x b t file))

/-- STORE_LIST (R623), in Typing.lean. -/
def execStoreList (n : SessionId) (x : Form) (s : State) : Host.Outcome State Fault Refusal := .next (s.effect
  (doStoreList n x))

/-- STORE_WRITE (R624), in Typing.lean. -/
def execStoreWrite (n : SessionId) (x : Form) (name : Text) (off : Nat) (bs : List Byte) (s : State) : Host.Outcome
  State Fault Refusal := .next (s.effect (doStoreWrite n x name off bs))

/-- STORE_WRITE_DONE (R624), in Typing.lean. -/
def execStoreWriteDone (n : SessionId) (s : State) : Host.Outcome State Fault Refusal := .next (s.effectAwake
  (doStoreWriteDone n))

/-- STORE_ERASE (R623), in Typing.lean. -/
def execStoreErase (n : SessionId) (x : Form) (name : Text) (s : State) : Host.Outcome State Fault Refusal := .next
  (s.effect (doStoreErase n x name))

/-- EVENT_PEEK (R628), in Typing.lean. -/
def execEventPeek (n : SessionId) (x : Form) (count : Nat) (s : State) : Host.Outcome State Fault Refusal := .next
  (s.effect (doEventPeek n x count))

/-- EVENT_POP (R628), in Typing.lean. -/
def execEventPop (n : SessionId) (x : Form) (count : Nat) (s : State) : Host.Outcome State Fault Refusal := .next
  (s.effect (doEventPop n x count))

/-- TIME (R627), in Typing.lean. -/
def execTime (n : SessionId) (x : Form) (s : State) : Host.Outcome State Fault Refusal := .next (s.effect (doTime n
  x))

/-- TIME_ALARM (R629), in Typing.lean. -/
def execTimeAlarm (n : SessionId) (x : Form) (tick : Option Nat) (s : State) : Host.Outcome State Fault Refusal :=
  .next (s.effect (doTimeAlarm n x tick))

/-- TIME_ALARM_FIRE (R629), in Console.lean. -/
def execTimeAlarmFire (s : State) : Host.Outcome State Fault Refusal := .next (s.effectAwake (doTimeAlarmFire))

/-- RESET_ENGINE (R631), in Typing.lean. -/
def execResetEngine (n : SessionId) (x : Form) (s : State) : Host.Outcome State Fault Refusal := .next (s.effect
  (doResetEngine n x))

/-- JOURNAL_READ (R615), in Typing.lean. -/
def execJournalRead (n : SessionId) (x : Form) (serial : Option Nat) (count : Nat) (c : CorrId) (s : State) :
  Host.Outcome State Fault Refusal := .next (s.effect (doJournalRead n x serial count c))

/-- JOURNAL_ERASE (R632), in Typing.lean. -/
def execJournalErase (n : SessionId) (x : Form) (code : Word) (s : State) : Host.Outcome State Fault Refusal := .next
  (s.effect (doJournalErase n x code))

/-- TEST_JOURNAL (R633), in Typing.lean. -/
def execTestJournal (n : SessionId) (x : Form) (c : CorrId) (s : State) : Host.Outcome State Fault Refusal := .next
  (s.effect (doTestJournal n x c))

/-- JOB_WORK_DONE (R616), in Console.lean. -/
def execJobWorkDone (o : Nat) (s : State) : Host.Outcome State Fault Refusal := .next (s.effect (doJobWorkDone o))

/-- TCP_CONNECT (R564), in Sessions.lean. -/
def execTcpConnect (p : Fin 2) (ip : Word) (port : Fin 65536) (s : State) : Host.Outcome State Fault Refusal := .next
  (s.effect (doTcpConnect p ip port))

/-- TCP_CLOSE (R564), in Sessions.lean. -/
def execTcpClose (n : SessionId) (s : State) : Host.Outcome State Fault Refusal := .next (s.effectAwake (doTcpClose
  n))

/-- SESSION_CLOSE (R605), in Sessions.lean. -/
def execSessionClose (m : MasterId) (n : SessionId) (s : State) : Host.Outcome State Fault Refusal := .next (s.effect
  (doSessionClose m n))

/-- SESSION_IDLE_TIMEOUT (R566), in Sessions.lean. -/
def execSessionIdleTimeout (n : SessionId) (s : State) : Host.Outcome State Fault Refusal := .next (s.effect
  (doSessionIdleTimeout n))

/-- LOGIN_LOCK_EXPIRY (R584), in Sessions.lean. -/
def execLoginLockExpiry (n : SessionId) (s : State) : Host.Outcome State Fault Refusal := .next (s.effectAwake
  (doLoginLockExpiry n))

/-- BREAK (R596), in Sessions.lean. -/
def execBreak (n : Fin 2) (s : State) : Host.Outcome State Fault Refusal := .next (s.effectAwake (doBreak n))

/-- WAKE_PATTERN (R596), in Sessions.lean. -/
def execWakePattern (n : Fin 2) (s : State) : Host.Outcome State Fault Refusal := .next (s.effectAwake (doWakePattern
  n))

/-- XON_XOFF (R594), in Sessions.lean. -/
def execXonXoff (n : SessionId) (xon : Bool) (s : State) : Host.Outcome State Fault Refusal := .next (s.effectAwake
  (doXonXoff n xon))

/-- CTS_CHANGE (R594), in Sessions.lean. -/
def execCtsChange (n : Fin 2) (asserted : Bool) (s : State) : Host.Outcome State Fault Refusal := .next (s.effectAwake
  (doCtsChange n asserted))

/-- OUTPUT_DRAIN (R595), in Typing.lean. -/
def execOutputDrain (n : SessionId) (left : Nat) (s : State) : Host.Outcome State Fault Refusal := .next
  (s.effectAwake (doOutputDrain n left))

/-- SNAP_LOW_READ (R658), in RegWords.lean. -/
def execSnapLowRead (m : MasterId) (w : RegWord) (s : State) : Host.Outcome State Fault Refusal := .next
  (s.effectAwake (doSnapLowRead m w))

/-- SNAP_HIGH_READ (R658), in RegWords.lean. -/
def execSnapHighRead (m : MasterId) (w : RegWord) (s : State) : Host.Outcome State Fault Refusal := .next
  (s.effectAwake (doSnapHighRead m w))

/-- RC_READ (R9), in RegWords.lean. -/
def execRcRead (m : MasterId) (w : RegWord) (s : State) : Host.Outcome State Fault Refusal := .next (s.effectAwake
  (doRcRead m w))

/-- MBIND_WRITE (R669), in RegWrite.lean. -/
def execMbindWrite (m : MasterId) (n : MasterId) (t : TenantId) (s : State) : Host.Outcome State Fault Refusal :=
  .next (s.effectAwake (doMbindWrite m n t))

/-- MASTER_UNBIND (R669), in RegWrite.lean. -/
def execMasterUnbind (m : MasterId) (n : MasterId) (s : State) : Host.Outcome State Fault Refusal := .next
  (s.effectAwake (doMasterUnbind m n))

/-- ACCESS_TABLE_WRITE (R649), in RegWrite.lean. -/
def execAccessTableWrite (m : MasterId) (w : RegWord) (v : Word) (s : State) : Host.Outcome State Fault Refusal :=
  .next (s.effectAwake (doAccessTableWrite m w v))

/-- VOTE_UP (R673), in Power.lean. -/
def execVoteUp (m : MasterId) (mask : BitVec 6) (s : State) : Host.Outcome State Fault Refusal := .next (s.effectAwake
  (doVoteUp m mask))

/-- VOTE_DOWN (R673), in Power.lean. -/
def execVoteDown (m : MasterId) (mask : BitVec 6) (s : State) : Host.Outcome State Fault Refusal := .next
  (s.effectAwake (doVoteDown m mask))

/-- TEMPER_REQUEST (R693), in Power.lean. -/
def execTemperRequest (m : MasterId) (v : Fin 16) (s : State) : Host.Outcome State Fault Refusal := .next
  (s.effectAwake (doTemperRequest m v))

/-- DOMAIN_QUIESCED (R677), in Power.lean. -/
def execDomainQuiesced (d : DomainId) (s : State) : Host.Outcome State Fault Refusal := .next (s.effectAwake
  (doDomainQuiesced d))

/-- DOMAIN_SAVE_DONE (R683), in Power.lean. -/
def execDomainSaveDone (d : DomainId) (s : State) : Host.Outcome State Fault Refusal := .next (s.effectAwake
  (doDomainSaveDone d))

/-- DOMAIN_RISE_DONE (R684), in Power.lean. -/
def execDomainRiseDone (d : DomainId) (crcOk : Bool) (s : State) : Host.Outcome State Fault Refusal := .next
  (s.effectAwake (doDomainRiseDone d crcOk))

/-- PAD_RELEASE (R685), in Power.lean. -/
def execPadRelease (m : MasterId) (mask : BitVec 5) (s : State) : Host.Outcome State Fault Refusal := .next
  (s.effectAwake (doPadRelease m mask))

/-- WAKE_EVENT (R691), in Power.lean. -/
def execWakeEvent (c : Fin 26) (s : State) : Host.Outcome State Fault Refusal := .next (s.effectAwake (doWakeEvent c))

/-- WAKE_HOLD_EXPIRY (R691), in Power.lean. -/
def execWakeHoldExpiry (s : State) : Host.Outcome State Fault Refusal := .next (s.effectAwake (doWakeHoldExpiry))

/-- WAKE_DATAGRAM (R689), in Power.lean. -/
def execWakeDatagram (p : Fin 2) (ip : Word) (udp : BitVec 16) (bs : List Byte) (s : State) : Host.Outcome State Fault
  Refusal := .next (s.effectAwake (doWakeDatagram p ip udp bs))

/-- WAKE_RELEASE (R690), in Power.lean. -/
def execWakeRelease (s : State) : Host.Outcome State Fault Refusal := .next (s.effectAwake (doWakeRelease))

/-- THERMAL_SAMPLE (R696), in Thermal.lean. -/
def execThermalSample (readings : List Int) (s : State) : Host.Outcome State Fault Refusal := .next (s.effectAwake
  (doThermalSample readings))

/-- PEND_CLEAR (R720), in RegWrite.lean. -/
def execPendClear (m : MasterId) (g : Fin 32) (mask : Word) (s : State) : Host.Outcome State Fault Refusal := .next
  (s.effectAwake (doPendClear m g mask))

/-- EVENT_POP_READ (R719), in RegWords.lean. -/
def execEventPopRead (m : MasterId) (t : TenantId) (s : State) : Host.Outcome State Fault Refusal := .next
  (s.effectAwake (doEventPopRead m t))

/-- INJECT (R724), in Inject.lean. -/
def execInject (m : MasterId) (src : Fin 1024) (a0 a1 : Word) (s : State) : Host.Outcome State Fault Refusal := .next
  (s.effectAwake (doInject m src a0 a1))

/-- ANVIL_FAULT (R729), in Fence.lean. -/
def execAnvilFault (a : Fin 8) (cause : Fin 3) (s : State) : Host.Outcome State Fault Refusal := .next (s.effectAwake
  (doAnvilFault a cause))

/-- ANVIL_TEST_DONE (R729), in Fence.lean. -/
def execAnvilTestDone (a : Fin 8) (pass : Bool) (s : State) : Host.Outcome State Fault Refusal := .next (s.effectAwake
  (doAnvilTestDone a pass))

/-- UNIT_WATCHDOG (R730), in Resets.lean. -/
def execUnitWatchdog (u : Fin 24) (s : State) : Host.Outcome State Fault Refusal := .next (s.effectAwake
  (doUnitWatchdog u))

/-- REGISTRAR_WATCHDOG (R732), in Update.lean. -/
def execRegistrarWatchdog (s : State) : Host.Outcome State Fault Refusal := .next (s.effectAwake
  (doRegistrarWatchdog))

/-- DRAM_UNCORRECTABLE (R731), in Resets.lean. -/
def execDramUncorrectable (page : BitVec 20) (hit : DramHit) (s : State) : Host.Outcome State Fault Refusal := .next
  (s.effectAwake (doDramUncorrectable page hit))

/-- DRAM_CORRECTED (R731), in Resets.lean. -/
def execDramCorrected (s : State) : Host.Outcome State Fault Refusal := .next (s.effectAwake (doDramCorrected))

/-- DOMAIN_RESET (R733), in Resets.lean. -/
def execDomainReset (m : MasterId) (d : DomainId) (s : State) : Host.Outcome State Fault Refusal := .next
  (s.effectAwake (doDomainReset m d))

/-- BLOCK_RESET (R734), in Resets.lean. -/
def execBlockReset (m : MasterId) (b : Block) (s : State) : Host.Outcome State Fault Refusal := .next (s.effectAwake
  (doBlockReset m b))

/-- FW_START (R737), in Update.lean. -/
def execFwStart (m : MasterId) (s : State) : Host.Outcome State Fault Refusal := .next (s.effectAwake (doFwStart m))

/-- FW_CHECK_DONE (R737), in Update.lean. -/
def execFwCheckDone (x : ImageSeen) (s : State) : Host.Outcome State Fault Refusal := .next (s.effectAwake
  (doFwCheckDone x))

/-- FW_UPDATE_BEGIN (R738), in Update.lean. -/
def execFwUpdateBegin (s : State) : Host.Outcome State Fault Refusal := .next (s.effectAwake (doFwUpdateBegin))

/-- FW_READY (R738), in Update.lean. -/
def execFwReady (s : State) : Host.Outcome State Fault Refusal := .next (s.effectAwake (doFwReady))

/-- FW_READY_TIMEOUT (R739), in Update.lean. -/
def execFwReadyTimeout (s : State) : Host.Outcome State Fault Refusal := .next (s.effectAwake (doFwReadyTimeout))

/-- VIN_VALID (R789), in Startup.lean. -/
def execVinValid (s : State) : Host.Outcome State Fault Refusal := .next (s.effectDark (doVinValid))

/-- VIN_INVALID (R789), in Startup.lean. -/
def execVinInvalid (s : State) : Host.Outcome State Fault Refusal := .next (s.effectDark (doVinInvalid))

/-- RESET_N (R752), in Startup.lean. -/
def execResetN (s : State) : Host.Outcome State Fault Refusal := .next (s.effectDark (doResetN))

/-- RESET_N_RELEASE (R752), in Startup.lean. -/
def execResetNRelease (s : State) : Host.Outcome State Fault Refusal := .next (s.effectDark (doResetNRelease))

/-- POWER_ON_RESET_END (R760), in Startup.lean. -/
def execPowerOnResetEnd (straps : Fin 4) (s : State) : Host.Outcome State Fault Refusal := .next (s.effectDark
  (doPowerOnResetEnd straps))

/-- HEADER_READ_DONE (R755), in Startup.lean. -/
def execHeaderReadDone (s : State) : Host.Outcome State Fault Refusal := .next (s.effectAwake (doHeaderReadDone))

/-- DRAM_TRAINING_DONE (R755), in Startup.lean. -/
def execDramTrainingDone (s : State) : Host.Outcome State Fault Refusal := .next (s.effectAwake (doDramTrainingDone))

/-- IMAGE_LOAD_DONE (R755), in Startup.lean. -/
def execImageLoadDone (prefer : Fin 2) (s : State) : Host.Outcome State Fault Refusal := .next (s.effectAwake
  (doImageLoadDone prefer))

/-- IMAGE_CHECK_DONE (R765), in Startup.lean. -/
def execImageCheckDone (x : ImageSeen) (s : State) : Host.Outcome State Fault Refusal := .next (s.effectAwake
  (doImageCheckDone x))

/-- PUSH_GO (R769), in Startup.lean. -/
def execPushGo (m : MasterId) (s : State) : Host.Outcome State Fault Refusal := .next (s.effectAwake (doPushGo m))

/-- MEMORY_SELF_TEST_DONE (R770), in Startup.lean. -/
def execMemorySelfTestDone (x : SelfTest) (s : State) : Host.Outcome State Fault Refusal := .next (s.effectAwake
  (doMemorySelfTestDone x))

/-- READY (R772), in Startup.lean. -/
def execReady (s : State) : Host.Outcome State Fault Refusal := .next (s.effectAwake (doReady))

/-- BOOT_HOLD_EXPIRY (R759), in Startup.lean. -/
def execBootHoldExpiry (s : State) : Host.Outcome State Fault Refusal := .next (s.effectAwake (doBootHoldExpiry))

/-- JTAG_INSTRUCTION (R774), in TestPort.lean. -/
def execJtagInstruction (code : BitVec 8) (s : State) : Host.Outcome State Fault Refusal := .next (s.effectDark
  (doJtagInstruction code))

/-- JTAG_REG_ACCESS (R774), in RegWrite.lean. -/
def execJtagRegAccess (dr : BitVec 64) (s : State) : Host.Outcome State Fault Refusal := .next (s.effectAwake
  (doJtagRegAccess dr))

/-- JTAG_MBIST (R774), in TestPort.lean. -/
def execJtagMbist (s : State) : Host.Outcome State Fault Refusal := .next (s.effectAwake (doJtagMbist))

/-- FLASH_ADDR_WRITE (R785), in TestPort.lean. -/
def execFlashAddrWrite (m : MasterId) (v : Word) (s : State) : Host.Outcome State Fault Refusal := .next
  (s.effectAwake (doFlashAddrWrite m v))

/-- FLASH_DATA_ACCESS (R785), in TestPort.lean. -/
def execFlashDataAccess (m : MasterId) (v : Option Word) (s : State) : Host.Outcome State Fault Refusal := .next
  (s.effectAwake (doFlashDataAccess m v))

/-- FLASH_READ_PAGE (R785), in TestPort.lean. -/
def execFlashReadPage (m : MasterId) (s : State) : Host.Outcome State Fault Refusal := .next (s.effectAwake
  (doFlashReadPage m))

/-- FLASH_PROGRAM_PAGE (R785), in TestPort.lean. -/
def execFlashProgramPage (m : MasterId) (s : State) : Host.Outcome State Fault Refusal := .next (s.effectAwake
  (doFlashProgramPage m))

/-- FLASH_ERASE_SECTOR (R785), in TestPort.lean. -/
def execFlashEraseSector (m : MasterId) (s : State) : Host.Outcome State Fault Refusal := .next (s.effectAwake
  (doFlashEraseSector m))

/-- FLASH_OP_DONE (R785), in TestPort.lean. -/
def execFlashOpDone (ok : Bool) (words : List Word) (s : State) : Host.Outcome State Fault Refusal := .next
  (s.effectAwake (doFlashOpDone ok words))

/-- BURN_SVN (R784), in TestPort.lean. -/
def execBurnSvn (m : MasterId) (v : Fin 64) (s : State) : Host.Outcome State Fault Refusal := .next (s.effectAwake
  (doBurnSvn m v))

/-- REVOKE (R784), in TestPort.lean. -/
def execRevoke (m : MasterId) (mask : BitVec 2) (s : State) : Host.Outcome State Fault Refusal := .next (s.effectAwake
  (doRevoke m mask))

/-- MBIST_RUN (R777), in TestPort.lean. -/
def execMbistRun (m : MasterId) (s : State) : Host.Outcome State Fault Refusal := .next (s.effectAwake (doMbistRun m))

/-- TEST_HOLD (R773), in TestPort.lean. -/
def execTestHold (m : MasterId) (v : Bool) (s : State) : Host.Outcome State Fault Refusal := .next (s.effectAwake
  (doTestHold m v))

/-- PRBS_ERROR (R777), in TestPort.lean. -/
def execPrbsError (lane : Fin 6) (s : State) : Host.Outcome State Fault Refusal := .next (s.effect (doPrbsError lane))

/-- CONSOLE_AUTO_WRITE (R825), in TestPort.lean. -/
def execConsoleAutoWrite (m : MasterId) (v : Bool) (s : State) : Host.Outcome State Fault Refusal := .next
  (s.effectAwake (doConsoleAutoWrite m v))

/-- REGISTER_WRITE (R823), in RegWrite.lean. -/
def execRegisterWrite (m : MasterId) (w : RegWord) (v : Word) (s : State) : Host.Outcome State Fault Refusal := .next
  (s.effectAwake (doRegisterWrite m w v))

/-- PTP_SYNC_TIMEOUT (R539), in Ether.lean. -/
def execPtpSyncTimeout (p : Fin 2) (s : State) : Host.Outcome State Fault Refusal := .next (s.effect (doPtpSyncTimeout
  p))

/-- BUS_FRAME_START (R137), in Capture.lean. -/
def execBusFrameStart (p : PortId) (s : State) : Host.Outcome State Fault Refusal := .next (s.effect (doBusFrameStart
  p))

/-- VIO_OUT_OF_RANGE (R792), in TestPort.lean. -/
def execVioOutOfRange (par : Bool) (s : State) : Host.Outcome State Fault Refusal := .next (s.effectDark
  (doVioOutOfRange par))

/-- VIO_IN_RANGE (R792), in TestPort.lean. -/
def execVioInRange (par high : Bool) (s : State) : Host.Outcome State Fault Refusal := .next (s.effectDark
  (doVioInRange par high))

/-- TEST_LOGIC_RESET (R774), in TestPort.lean. -/
def execTestLogicReset (s : State) : Host.Outcome State Fault Refusal := .next (s.effectDark (doTestLogicReset))

/-- ICMP_ECHO_REQUEST (R538), in Ether.lean. -/
def execIcmpEchoRequest (p : Fin 2) (src dst : Word) (fragmented : Bool) (req : List Byte) (s : State) : Host.Outcome
  State Fault Refusal := .next (s.effect (doIcmpEchoRequest p src dst fragmented req))

/-- ARP_REQUEST (R538), in Ether.lean. -/
def execArpRequest (p : Fin 2) (reply : Bool) (peerIp : Word) (peerMac : BitVec 48) (target : Word) (s : State) :
  Host.Outcome State Fault Refusal := .next (s.effect (doArpRequest p reply peerIp peerMac target))

/-- PAUSE_FRAME (R538), in Ether.lean. -/
def execPauseFrame (p : Fin 2) (quanta : BitVec 16) (s : State) : Host.Outcome State Fault Refusal := .next (s.effect
  (doPauseFrame p quanta))

end Sys2Proof.Machine
end

