-- ==== Sys2Proof/Machine/Dispatch.lean ====
section
/-! DEFINITION. The dispatch: one arm for each command. -/
namespace Sys2Proof.Machine

def exec (i : Instr) (s : State) : Host.Outcome State Fault Refusal :=
  match i with
  | .bell => Sys2Proof.Machine.execBell s
  | .bellInEdge => Sys2Proof.Machine.execBellInEdge s
  | .holdoverEntry => Sys2Proof.Machine.execHoldoverEntry s
  | .bellSourceChange m v => Sys2Proof.Machine.execBellSourceChange m v s
  | .periodWrite m v => Sys2Proof.Machine.execPeriodWrite m v s
  | .temperChangeComplete => Sys2Proof.Machine.execTemperChangeComplete s
  | .costOverrun ty unit past => Sys2Proof.Machine.execCostOverrun ty unit past s
  | .frameStart p chan fn ecc => Sys2Proof.Machine.execFrameStart p chan fn ecc s
  | .journalAppend => Sys2Proof.Machine.execJournalAppend s
  | .journalWriteback => Sys2Proof.Machine.execJournalWriteback s
  | .checkpointStart => Sys2Proof.Machine.execCheckpointStart s
  | .checkpointDone => Sys2Proof.Machine.execCheckpointDone s
  | .forceCkpt m => Sys2Proof.Machine.execForceCkpt m s
  | .deliverBatch r => Sys2Proof.Machine.execDeliverBatch r s
  | .flushReadComplete r pages => Sys2Proof.Machine.execFlushReadComplete r pages s
  | .evict m c => Sys2Proof.Machine.execEvict m c s
  | .pwrFail => Sys2Proof.Machine.execPwrFail s
  | .pwrFailArm => Sys2Proof.Machine.execPwrFailArm s
  | .sealWritten => Sys2Proof.Machine.execSealWritten s
  | .replayEnd prods => Sys2Proof.Machine.execReplayEnd prods s
  | .portEnable m p => Sys2Proof.Machine.execPortEnable m p s
  | .portDisable m p => Sys2Proof.Machine.execPortDisable m p s
  | .frameEnd p vc ecc => Sys2Proof.Machine.execFrameEnd p vc ecc s
  | .pixelLine p chan dt px crcOk ecc => Sys2Proof.Machine.execPixelLine p chan dt px crcOk ecc s
  | .embeddedData p vc ecc crcOk bytes => Sys2Proof.Machine.execEmbeddedData p vc ecc crcOk bytes s
  | .userDefinedPacket p vc t crcOk ecc bytes => Sys2Proof.Machine.execUserDefinedPacket p vc t crcOk ecc bytes s
  | .shortPacket p vc ecc => Sys2Proof.Machine.execShortPacket p vc ecc s
  | .dtMismatch p vc ecc crcOk => Sys2Proof.Machine.execDtMismatch p vc ecc crcOk s
  | .unboundPacket p vc => Sys2Proof.Machine.execUnboundPacket p vc s
  | .headerUncorrectable p => Sys2Proof.Machine.execHeaderUncorrectable p s
  | .linkTimeout p => Sys2Proof.Machine.execLinkTimeout p s
  | .deskew p ok => Sys2Proof.Machine.execDeskew p ok s
  | .escapeEntry p => Sys2Proof.Machine.execEscapeEntry p s
  | .timingCode p xy => Sys2Proof.Machine.execTimingCode p xy s
  | .pclkLost p => Sys2Proof.Machine.execPclkLost p s
  | .trailer p words t => Sys2Proof.Machine.execTrailer p words t s
  | .noFrameEnd n => Sys2Proof.Machine.execNoFrameEnd n s
  | .portOverflow p n lines => Sys2Proof.Machine.execPortOverflow p n lines s
  | .bindingWrite m n k v => Sys2Proof.Machine.execBindingWrite m n k v s
  | .laneStart m n => Sys2Proof.Machine.execLaneStart m n s
  | .laneStop m n => Sys2Proof.Machine.execLaneStop m n s
  | .laneReset m n => Sys2Proof.Machine.execLaneReset m n s
  | .cciPush m c data => Sys2Proof.Machine.execCciPush m c data s
  | .cciIssue c stuck => Sys2Proof.Machine.execCciIssue c stuck s
  | .cciTransactionDone c status rdata => Sys2Proof.Machine.execCciTransactionDone c status rdata s
  | .cciStretchTimeout c => Sys2Proof.Machine.execCciStretchTimeout c s
  | .cciResultRead m c => Sys2Proof.Machine.execCciResultRead m c s
  | .cciDisable m c => Sys2Proof.Machine.execCciDisable m c s
  | .pipeStripeStart parity lost => Sys2Proof.Machine.execPipeStripeStart parity lost s
  | .pipeStripeDone => Sys2Proof.Machine.execPipeStripeDone s
  | .tblDataAccess m v => Sys2Proof.Machine.execTblDataAccess m v s
  | .tableCommit m => Sys2Proof.Machine.execTableCommit m s
  | .refFill m n => Sys2Proof.Machine.execRefFill m n s
  | .refClear m k => Sys2Proof.Machine.execRefClear m k s
  | .partnerMissing n second => Sys2Proof.Machine.execPartnerMissing n second s
  | .streamEnable m n k v => Sys2Proof.Machine.execStreamEnable m n k v s
  | .coefDataWrite m k v => Sys2Proof.Machine.execCoefDataWrite m k v s
  | .finderJobStart a => Sys2Proof.Machine.execFinderJobStart a s
  | .finderJobDone a epoch cycles tracks found => Sys2Proof.Machine.execFinderJobDone a epoch cycles tracks found s
  | .candidateDispatch => Sys2Proof.Machine.execCandidateDispatch s
  | .decodeDone a core epoch out g => Sys2Proof.Machine.execDecodeDone a core epoch out g s
  | .decodeTimeout a core => Sys2Proof.Machine.execDecodeTimeout a core s
  | .sramCorrected a => Sys2Proof.Machine.execSramCorrected a s
  | .latencyMarkExpiry u => Sys2Proof.Machine.execLatencyMarkExpiry u s
  | .latencyClear m u => Sys2Proof.Machine.execLatencyClear m u s
  | .latencyUnitWrite m u which v => Sys2Proof.Machine.execLatencyUnitWrite m u which v s
  | .continuityReset m n win v => Sys2Proof.Machine.execContinuityReset m n win v s
  | .fieldLost v => Sys2Proof.Machine.execFieldLost v s
  | .fieldOk v => Sys2Proof.Machine.execFieldOk v s
  | .fieldOv v => Sys2Proof.Machine.execFieldOv v s
  | .pulseStart n => Sys2Proof.Machine.execPulseStart n s
  | .pulseEnd n iMeas vSink => Sys2Proof.Machine.execPulseEnd n iMeas vSink s
  | .strobeEnable m n en width maxPulses trimEn => Sys2Proof.Machine.execStrobeEnable m n en width maxPulses trimEn s
  | .sinkShort n => Sys2Proof.Machine.execSinkShort n s
  | .retryWaitEnd dout n => Sys2Proof.Machine.execRetryWaitEnd dout n s
  | .ledClear m n => Sys2Proof.Machine.execLedClear m n s
  | .doutOutWrite m n v => Sys2Proof.Machine.execDoutOutWrite m n v s
  | .doutClear m n => Sys2Proof.Machine.execDoutClear m n s
  | .doutPulseStart n => Sys2Proof.Machine.execDoutPulseStart n s
  | .doutPulseEnd n => Sys2Proof.Machine.execDoutPulseEnd n s
  | .doutOverload n => Sys2Proof.Machine.execDoutOverload n s
  | .doutSample readback reverse mA => Sys2Proof.Machine.execDoutSample readback reverse mA s
  | .tieProbeStep r1 r4 => Sys2Proof.Machine.execTieProbeStep r1 r4 s
  | .dinEdge levels => Sys2Proof.Machine.execDinEdge levels s
  | .encPosWrite m e pos next pitch => Sys2Proof.Machine.execEncPosWrite m e pos next pitch s
  | .quenchTimeout n => Sys2Proof.Machine.execQuenchTimeout n s
  | .trimFlashStart n => Sys2Proof.Machine.execTrimFlashStart n s
  | .trimFlashEnd n => Sys2Proof.Machine.execTrimFlashEnd n s
  | .trimCapture m n => Sys2Proof.Machine.execTrimCapture m n s
  | .sfeChannelEnable m n => Sys2Proof.Machine.execSfeChannelEnable m n s
  | .sfeChannelDisable m n => Sys2Proof.Machine.execSfeChannelDisable m n s
  | .sfeRoutingWrite m l => Sys2Proof.Machine.execSfeRoutingWrite m l s
  | .sfeSlotHalf xs beyond failing => Sys2Proof.Machine.execSfeSlotHalf xs beyond failing s
  | .sfeSample n => Sys2Proof.Machine.execSfeSample n s
  | .excLimit x => Sys2Proof.Machine.execExcLimit x s
  | .excLimitClear m x => Sys2Proof.Machine.execExcLimitClear m x s
  | .biasLimit p => Sys2Proof.Machine.execBiasLimit p s
  | .guardLimit g => Sys2Proof.Machine.execGuardLimit g s
  | .checkStart n => Sys2Proof.Machine.execCheckStart n s
  | .checkEnd n z iDiff => Sys2Proof.Machine.execCheckEnd n z iDiff s
  | .checkNow m n => Sys2Proof.Machine.execCheckNow m n s
  | .firSwap m n which v => Sys2Proof.Machine.execFirSwap m n which v s
  | .linSwap m n => Sys2Proof.Machine.execLinSwap m n s
  | .firDataAccess m v => Sys2Proof.Machine.execFirDataAccess m v s
  | .firCommit m len => Sys2Proof.Machine.execFirCommit m len s
  | .linDataAccess m v => Sys2Proof.Machine.execLinDataAccess m v s
  | .linCommit m np => Sys2Proof.Machine.execLinCommit m np s
  | .result0Read m n => Sys2Proof.Machine.execResult0Read m n s
  | .resultWordRead m n w => Sys2Proof.Machine.execResultWordRead m n w s
  | .rotationBegin => Sys2Proof.Machine.execRotationBegin s
  | .calNow m => Sys2Proof.Machine.execCalNow m s
  | .calStep p q => Sys2Proof.Machine.execCalStep p q s
  | .flkEnWrite m v => Sys2Proof.Machine.execFlkEnWrite m v s
  | .apply m c => Sys2Proof.Machine.execApply m c s
  | .corrSettingsWrite m c f v => Sys2Proof.Machine.execCorrSettingsWrite m c f v s
  | .stallTimeout c => Sys2Proof.Machine.execStallTimeout c s
  | .ringConsWrite m r v => Sys2Proof.Machine.execRingConsWrite m r v s
  | .ringArm m r pages => Sys2Proof.Machine.execRingArm m r pages s
  | .ringDisarm m r => Sys2Proof.Machine.execRingDisarm m r s
  | .coalesceTimeout r => Sys2Proof.Machine.execCoalesceTimeout r s
  | .msixPendingSend v enabled unmasked => Sys2Proof.Machine.execMsixPendingSend v enabled unmasked s
  | .pcieLinkDown => Sys2Proof.Machine.execPcieLinkDown s
  | .pcieLinkUp width speed => Sys2Proof.Machine.execPcieLinkUp width speed s
  | .functionLevelReset fn => Sys2Proof.Machine.execFunctionLevelReset fn s
  | .perst => Sys2Proof.Machine.execPerst s
  | .ethLinkDown p => Sys2Proof.Machine.execEthLinkDown p s
  | .ethLinkUp p => Sys2Proof.Machine.execEthLinkUp p s
  | .ptpSync p master => Sys2Proof.Machine.execPtpSync p master s
  | .jxHello p ip udp bs => Sys2Proof.Machine.execJxHello p ip udp bs s
  | .jxAck p ip udp bs => Sys2Proof.Machine.execJxAck p ip udp bs s
  | .jxBye p ip udp bs => Sys2Proof.Machine.execJxBye p ip udp bs s
  | .badDgram p ip udp bs => Sys2Proof.Machine.execBadDgram p ip udp bs s
  | .jxData x => Sys2Proof.Machine.execJxData x s
  | .jxRetransmitTimeout x => Sys2Proof.Machine.execJxRetransmitTimeout x s
  | .jxKeepalive x => Sys2Proof.Machine.execJxKeepalive x s
  | .jxSessionTimeout x => Sys2Proof.Machine.execJxSessionTimeout x s
  | .jxClose m x => Sys2Proof.Machine.execJxClose m x s
  | .typedCharacter n b => Sys2Proof.Machine.execTypedCharacter n b s
  | .lineComplete n lf => Sys2Proof.Machine.execLineComplete n lf s
  | .emptyCommand n x => Sys2Proof.Machine.execEmptyCommand n x s
  | .login n x t code => Sys2Proof.Machine.execLogin n x t code s
  | .logout n x => Sys2Proof.Machine.execLogout n x s
  | .modeVerb n x machine => Sys2Proof.Machine.execMode n x machine s
  | .helpVerb n x topic => Sys2Proof.Machine.execHelp n x topic s
  | .getVerb n x paths => Sys2Proof.Machine.execGet n x paths s
  | .setVerb n x asg => Sys2Proof.Machine.execSet n x asg s
  | .tableRead n x p b t at_ count => Sys2Proof.Machine.execTableRead n x p b t at_ count s
  | .tableWrite n x p b t at_ ws => Sys2Proof.Machine.execTableWrite n x p b t at_ ws s
  | .stats n x l part chan => Sys2Proof.Machine.execStats n x l part chan s
  | .coefRead n x l k ph => Sys2Proof.Machine.execCoefRead n x l k ph s
  | .coefWrite n x l k ph taps => Sys2Proof.Machine.execCoefWrite n x l k ph taps s
  | .coefReset n x l k => Sys2Proof.Machine.execCoefReset n x l k s
  | .cciWrite n x c a => Sys2Proof.Machine.execCciWrite n x c a s
  | .cciRead n x c a => Sys2Proof.Machine.execCciRead n x c a s
  | .cciVerbTimeout n => Sys2Proof.Machine.execCciVerbTimeout n s
  | .ack n x c q => Sys2Proof.Machine.execAck n x c q s
  | .sfeRead n x c => Sys2Proof.Machine.execSfeRead n x c s
  | .firRead n x c b at_ count => Sys2Proof.Machine.execFirRead n x c b at_ count s
  | .firWrite n x c b at_ hs => Sys2Proof.Machine.execFirWrite n x c b at_ hs s
  | .linRead n x b t kind at_ count => Sys2Proof.Machine.execLinRead n x b t kind at_ count s
  | .linWrite n x b t kind at_ ws => Sys2Proof.Machine.execLinWrite n x b t kind at_ ws s
  | .linLoad n x b t file => Sys2Proof.Machine.execLinLoad n x b t file s
  | .storeList n x => Sys2Proof.Machine.execStoreList n x s
  | .storeWrite n x name off bs => Sys2Proof.Machine.execStoreWrite n x name off bs s
  | .storeWriteDone n => Sys2Proof.Machine.execStoreWriteDone n s
  | .storeErase n x name => Sys2Proof.Machine.execStoreErase n x name s
  | .eventPeek n x count => Sys2Proof.Machine.execEventPeek n x count s
  | .eventPop n x count => Sys2Proof.Machine.execEventPop n x count s
  | .timeVerb n x => Sys2Proof.Machine.execTime n x s
  | .timeAlarm n x tick => Sys2Proof.Machine.execTimeAlarm n x tick s
  | .timeAlarmFire => Sys2Proof.Machine.execTimeAlarmFire s
  | .resetEngine n x => Sys2Proof.Machine.execResetEngine n x s
  | .journalRead n x serial count c => Sys2Proof.Machine.execJournalRead n x serial count c s
  | .journalErase n x code => Sys2Proof.Machine.execJournalErase n x code s
  | .testJournal n x c => Sys2Proof.Machine.execTestJournal n x c s
  | .jobWorkDone o => Sys2Proof.Machine.execJobWorkDone o s
  | .tcpConnect p ip port => Sys2Proof.Machine.execTcpConnect p ip port s
  | .tcpClose n => Sys2Proof.Machine.execTcpClose n s
  | .sessionClose m n => Sys2Proof.Machine.execSessionClose m n s
  | .sessionIdleTimeout n => Sys2Proof.Machine.execSessionIdleTimeout n s
  | .loginLockExpiry n => Sys2Proof.Machine.execLoginLockExpiry n s
  | .break n => Sys2Proof.Machine.execBreak n s
  | .wakePattern n => Sys2Proof.Machine.execWakePattern n s
  | .xonXoff n xon => Sys2Proof.Machine.execXonXoff n xon s
  | .ctsChange n asserted => Sys2Proof.Machine.execCtsChange n asserted s
  | .outputDrain n left => Sys2Proof.Machine.execOutputDrain n left s
  | .snapLowRead m w => Sys2Proof.Machine.execSnapLowRead m w s
  | .snapHighRead m w => Sys2Proof.Machine.execSnapHighRead m w s
  | .rcRead m w => Sys2Proof.Machine.execRcRead m w s
  | .mbindWrite m n t => Sys2Proof.Machine.execMbindWrite m n t s
  | .masterUnbind m n => Sys2Proof.Machine.execMasterUnbind m n s
  | .accessTableWrite m w v => Sys2Proof.Machine.execAccessTableWrite m w v s
  | .voteUp m mask => Sys2Proof.Machine.execVoteUp m mask s
  | .voteDown m mask => Sys2Proof.Machine.execVoteDown m mask s
  | .temperRequest m v => Sys2Proof.Machine.execTemperRequest m v s
  | .domainQuiesced d => Sys2Proof.Machine.execDomainQuiesced d s
  | .domainSaveDone d => Sys2Proof.Machine.execDomainSaveDone d s
  | .domainRiseDone d crcOk => Sys2Proof.Machine.execDomainRiseDone d crcOk s
  | .padRelease m mask => Sys2Proof.Machine.execPadRelease m mask s
  | .wakeEvent c => Sys2Proof.Machine.execWakeEvent c s
  | .wakeHoldExpiry => Sys2Proof.Machine.execWakeHoldExpiry s
  | .wakeDatagram p ip udp bs => Sys2Proof.Machine.execWakeDatagram p ip udp bs s
  | .wakeRelease => Sys2Proof.Machine.execWakeRelease s
  | .thermalSample readings => Sys2Proof.Machine.execThermalSample readings s
  | .pendClear m g mask => Sys2Proof.Machine.execPendClear m g mask s
  | .eventPopRead m t => Sys2Proof.Machine.execEventPopRead m t s
  | .inject m src a0 a1 => Sys2Proof.Machine.execInject m src a0 a1 s
  | .anvilFault a cause => Sys2Proof.Machine.execAnvilFault a cause s
  | .anvilTestDone a pass => Sys2Proof.Machine.execAnvilTestDone a pass s
  | .unitWatchdog u => Sys2Proof.Machine.execUnitWatchdog u s
  | .registrarWatchdog => Sys2Proof.Machine.execRegistrarWatchdog s
  | .dramUncorrectable page hit => Sys2Proof.Machine.execDramUncorrectable page hit s
  | .dramCorrected => Sys2Proof.Machine.execDramCorrected s
  | .domainReset m d => Sys2Proof.Machine.execDomainReset m d s
  | .blockReset m b => Sys2Proof.Machine.execBlockReset m b s
  | .fwStart m => Sys2Proof.Machine.execFwStart m s
  | .fwCheckDone x => Sys2Proof.Machine.execFwCheckDone x s
  | .fwUpdateBegin => Sys2Proof.Machine.execFwUpdateBegin s
  | .fwReady => Sys2Proof.Machine.execFwReady s
  | .fwReadyTimeout => Sys2Proof.Machine.execFwReadyTimeout s
  | .vinValid => Sys2Proof.Machine.execVinValid s
  | .vinInvalid => Sys2Proof.Machine.execVinInvalid s
  | .resetN => Sys2Proof.Machine.execResetN s
  | .resetNRelease => Sys2Proof.Machine.execResetNRelease s
  | .powerOnResetEnd straps => Sys2Proof.Machine.execPowerOnResetEnd straps s
  | .headerReadDone => Sys2Proof.Machine.execHeaderReadDone s
  | .dramTrainingDone => Sys2Proof.Machine.execDramTrainingDone s
  | .imageLoadDone prefer => Sys2Proof.Machine.execImageLoadDone prefer s
  | .imageCheckDone x => Sys2Proof.Machine.execImageCheckDone x s
  | .pushGo m => Sys2Proof.Machine.execPushGo m s
  | .memorySelfTestDone x => Sys2Proof.Machine.execMemorySelfTestDone x s
  | .ready => Sys2Proof.Machine.execReady s
  | .bootHoldExpiry => Sys2Proof.Machine.execBootHoldExpiry s
  | .jtagInstruction code => Sys2Proof.Machine.execJtagInstruction code s
  | .jtagRegAccess dr => Sys2Proof.Machine.execJtagRegAccess dr s
  | .jtagMbist => Sys2Proof.Machine.execJtagMbist s
  | .flashAddrWrite m v => Sys2Proof.Machine.execFlashAddrWrite m v s
  | .flashDataAccess m v => Sys2Proof.Machine.execFlashDataAccess m v s
  | .flashReadPage m => Sys2Proof.Machine.execFlashReadPage m s
  | .flashProgramPage m => Sys2Proof.Machine.execFlashProgramPage m s
  | .flashEraseSector m => Sys2Proof.Machine.execFlashEraseSector m s
  | .flashOpDone ok words => Sys2Proof.Machine.execFlashOpDone ok words s
  | .burnSvn m v => Sys2Proof.Machine.execBurnSvn m v s
  | .revoke m mask => Sys2Proof.Machine.execRevoke m mask s
  | .mbistRun m => Sys2Proof.Machine.execMbistRun m s
  | .testHold m v => Sys2Proof.Machine.execTestHold m v s
  | .prbsError lane => Sys2Proof.Machine.execPrbsError lane s
  | .consoleAutoWrite m v => Sys2Proof.Machine.execConsoleAutoWrite m v s
  | .registerWrite m w v => Sys2Proof.Machine.execRegisterWrite m w v s
  | .ptpSyncTimeout p => Sys2Proof.Machine.execPtpSyncTimeout p s
  | .busFrameStart p => Sys2Proof.Machine.execBusFrameStart p s
  | .vioOutOfRange par => Sys2Proof.Machine.execVioOutOfRange par s
  | .vioInRange par high => Sys2Proof.Machine.execVioInRange par high s
  | .testLogicReset => Sys2Proof.Machine.execTestLogicReset s
  | .icmpEchoRequest p src dst fragmented req => Sys2Proof.Machine.execIcmpEchoRequest p src dst fragmented req s
  | .arpRequest p reply peerIp peerMac target => Sys2Proof.Machine.execArpRequest p reply peerIp peerMac target s
  | .pauseFrame p quanta => Sys2Proof.Machine.execPauseFrame p quanta s

end Sys2Proof.Machine
end

