-- ==== Sys2Proof/Machine/Step.lean ====
section
/-! DEFINITION. One step: the command at the front of the queue, or an idle tick. -/
namespace Sys2Proof.Machine

/-- The idle step: one tick of the timebase passes (notes/assumptions/1.md). -/
def State.idle (s : State) : State := { s with now := (s.now + 1) % 2 ^ 64 }

/-- Take the command at the front of the queue and run it with the rest of the queue; with no command, idle. -/
def step (s : State) : Host.Outcome State Fault Refusal :=
  match s.pending with
  | [] => .next s.idle
  | c :: rest => exec c { s with pending := rest }

/-- The state with the command that a word spells at the front of its queue: the opcode table gives no row bits, so no
word spells one. -/
def State.withFetchWord (s : State) (nbits w : Nat) : State :=
  match decodeTableWord nbits w with
  | some c => { s with pending := c :: s.pending }
  | none => s

end Sys2Proof.Machine
end

