-- ==== Sys2Proof/Safety.lean ====
section
/-! DEFINITION. What counts as a safe state, and the conditions in which statements speak of a command: access granted, and a
session whose turn it is. -/
namespace Sys2Proof.Machine

/-- The outputs that follow the state show it: GB_OPEN counts the open Billets (Table Accepted.8), STAGED the entries of the
staging buffer (R88), both in the bits that their fields have, and the EVT pins follow PEND, EN, PINS and PIN_POL (R720). -/
def State.settled (s : State) : Prop :=
  s.rd Rg.jnlGbOpen = s.billets.length % 2 ^ Rg.jnlGbOpen.width ∧
  s.rd Rg.jnlStaged = s.jnl.staging.length % 2 ^ Rg.jnlStaged.width ∧
  s.evt.pins = s.evtLevels

/-- Address a answers, and the tenant of master m holds right r there (R649, R652, R681, R772). -/
def State.granted (s : State) (m a : Nat) (r : Right) : Prop := s.gateAt a = .pass ∧ s.rightAt m a r = true

/-- Master m is bound to T00, and address a answers. -/
def State.proctorAt (s : State) (m a : Nat) : Prop := s.gateAt a = .pass ∧ s.isProctor m = true

/-- Session n of a ready engine can execute a line in form x now: none waits before it (R587), a typed line comes in typed
mode (R574), and a machine request is none that the session remembers (R577). -/
def State.turn (s : State) (n : Nat) (x : Form) : Prop :=
  s.live = true ∧ s.sesReads n = true ∧ (s.ses n).lines = [] ∧ (x = .typed → s.sesMachine n = false) ∧
  (s.modSes n (fun y => { y with lastLine := s.now })).recall n x = none

/-- The state in which a command of session n executes: its line is noted (R566) and counted (Table Thotor.4). -/
def State.taken (s : State) (n : Nat) : State := (s.modSes n (fun y => { y with lastLine := s.now })).bumpSat Rg.sesLines n

/-- Session n is logged in to tenant t, and may execute a line in form x now. -/
def State.turnOf (s : State) (n : Nat) (x : Form) (t : Nat) : Prop :=
  s.turn n x ∧ (s.modSes n (fun y => { y with lastLine := s.now })).on Rg.sesLogged n = true ∧
  (s.taken n).tenantOf (sesMaster n) = some t

/-- Tenant t holds what a verb needs, and the domains of its targets serve (R609, R610). -/
def State.allowed (s : State) (t : Nat) (needs : List Need) : Prop :=
  needs.all (fun x => s.holds t x.1 x.2.1 x.2.2) = true ∧ needs.any (fun x => s.targetAway x.1) = false

end Sys2Proof.Machine
end

