-- ==== Sys2Proof/Certificates/Slice0/Obligations.lean ====
section
/-! DEFINITION. The statements for the provers, by the chapters of spec/. -/
open Sys2Proof Sys2Proof.Machine

/-- A step runs the command at the front of the queue with the queue's rest. -/
def Obligations.StepRunsFront : Prop :=
  ∀ (c : Instr) (rest : List Instr) (s : State),
    step { s with pending := c :: rest } = exec c { s with pending := rest }

/-- With no command waiting, the block idles for one tick of its timebase: the model's choice, log entry 1. -/
def Obligations.IdleStep : Prop :=
  ∀ s : State, s.pending = [] → step s = .next { s with now := (s.now + 1) % 2 ^ 64 }

/-- What reset leaves: every register field holds the reset value that its register table gives, nothing is open, queued or
stored, the timebase reads 0 and READY is low. -/
def Obligations.ResetState : Prop :=
  (∀ (f : Fld) (i j : Nat), State.reset.rd f i j = f.reset i j) ∧
  State.reset.now = 0 ∧ State.reset.pending = [] ∧ State.reset.billets = [] ∧ State.reset.jnl.staging = [] ∧
  State.reset.jnl.log = [] ∧ State.reset.evt.queues = [] ∧ State.reset.powerFail = .off ∧ State.reset.rd Rg.bootReady = 0

/-- The outputs that follow the state show it right after reset. -/
def Obligations.OutputsAtReset : Prop := State.reset.settled

/-- Whatever the state and the command, a step from a state whose outputs show it leaves one whose outputs show it. -/
def Obligations.OutputsFollow : Prop :=
  ∀ s t : State, s.settled → step s = .next t → t.settled

/-- No step stops: whatever the state and the commands that wait, the block answers a next state. -/
def Obligations.EveryStepAnswers : Prop := ∀ s : State, ∃ t : State, step s = .next t

/-- What follows every command: when nothing runs on by itself, only GB_OPEN, STAGED and the EVT pins change. -/
def Obligations.QuietSettle : Prop :=
  ∀ s : State, s.pumps = s →
    (∀ (f : Fld) (i j : Nat), f.key i j ≠ Rg.jnlGbOpen.key 0 0 → f.key i j ≠ Rg.jnlStaged.key 0 0 →
      s.settle.rd f i j = s.rd f i j) ∧
    s.settle.now = s.now ∧ s.settle.billets = s.billets ∧ s.settle.jnl = s.jnl ∧ s.settle.lanes = s.lanes ∧
    s.settle.corrs = s.corrs ∧ s.settle.thotor = s.thotor ∧ s.settle.blw = s.blw ∧ s.settle.sfe = s.sfe ∧
    s.settle.pending = s.pending ∧ s.settle.evt.queues = s.evt.queues

/-- A command that its unit cannot hear leaves the state as it is: the engine is not ready, or it has stopped. -/
def Obligations.SilentWhenStopped : Prop :=
  (∀ (m : MasterId) (n : LaneId) (s : State), s.live = false → exec (.laneStart m n) s = .next s) ∧
  (∀ (m : MasterId) (n : LedId) (s : State), s.live = false → exec (.ledClear m n) s = .next s) ∧
  (∀ s : State, s.awake = false → exec .bell s = .next s) ∧
  (∀ (m : MasterId) (w : RegWord) (v : Word) (s : State), s.awake = false → exec (.registerWrite m w v) s = .next s)

/-- A write without the right that its address asks for is refused whole: it is counted and reported (R655, R656), and nothing
else of it happens. -/
def Obligations.DeniedWrite : Prop :=
  ∀ (m : MasterId) (n : LaneId) (s : State), s.live = true →
    (s.gateAt (laneAddr n.val 0x18) = .pass → s.rightAt m.val (laneAddr n.val 0x18) .run = false →
      exec (.laneStart m n) s = .next (s.deny m.val (laneAddr n.val 0x18) true).settle ∧
      exec (.laneStop m n) s = .next (s.deny m.val (laneAddr n.val 0x18) true).settle ∧
      exec (.laneReset m n) s = .next (s.deny m.val (laneAddr n.val 0x18) true).settle) ∧
    (s.gateAt 0x10004 = .pass → s.rightAt m.val 0x10004 .set = false →
      ∀ v : BitVec 23, exec (.periodWrite m v) s = .next (s.deny m.val 0x10004 true).settle)

/-- What a denial leaves: DENIED_READS or DENIED_WRITES of the target's table counts one more and saturates, and LAST_DENIED
holds the direction, the master, its tenant (0 when it is unbound), and the byte offset in the target divided by 4, modulo
65,536 (R655, R656); the other counter, and the rights that the table gives, stay as they were. -/
def Obligations.DenialRecord : Prop :=
  ∀ (m : MasterId) (a g base : Nat) (write : Bool) (s : State), targetOf a = some g →
    base = (if g = 0x10 then 0x100000 else g * 0x10000) →
    let t := s.deny m.val a write
    t.rd Rg.accDeniedWrites g = (if write then min (s.rd Rg.accDeniedWrites g + 1) (2 ^ 32 - 1) else s.rd Rg.accDeniedWrites g) ∧
    t.rd Rg.accDeniedReads g = (if write then s.rd Rg.accDeniedReads g else min (s.rd Rg.accDeniedReads g + 1) (2 ^ 32 - 1)) ∧
    t.rd Rg.accLastWrite g = b2n write ∧ t.rd Rg.accLastMaster g = m.val ∧
    t.rd Rg.accLastTenant g = (s.tenantOf m.val).getD 0 % 64 ∧ t.rd Rg.accLastWord g = (a - base) / 4 % 65536 ∧
    (∀ k : TenantId, t.trights g k.val = s.trights g k.val)

/-- The Proctor, T00, holds all four rights on every target and on every object, whatever the access tables hold. -/
def Obligations.ProctorHoldsAll : Prop := ∀ (s : State) (g : Nat) (o : Option Nat) (r : Right), s.holds 0 g o r = true

/-- Each source has EN, a queue mask, VEC_EN with VECTOR, and PINS. After a cold reset every source has EN = 1, its queue mask
holds T00 alone, VEC_EN is 0 and PINS is 0. A raise of a source with EN = 1 is counted in RAISED and sets the source's PEND
bit; one of a source with EN = 0 is counted and delivered nowhere: no PEND word, no queue and no MSI-X message changes
(R716). -/
def Obligations.EventRaised : Prop :=
  (∀ (cause : Nat) (vin held : Bool) (e : Fin 1024) (s : State),
    (s.coldBegin cause vin held).rd Rg.srcEn e.val = 1 ∧ (s.coldBegin cause vin held).rd Rg.srcQmask e.val = 1 ∧
    (s.coldBegin cause vin held).rd Rg.srcVecEn e.val = 0 ∧ (s.coldBegin cause vin held).rd Rg.srcPins e.val = 0) ∧
  (∀ (e : Fin 1024) (a0 a1 : Nat) (s : State),
    (s.raise e.val a0 a1).rd Rg.srcRaised e.val = min (s.rd Rg.srcRaised e.val + 1) (2 ^ 32 - 1) ∧
    (s.rd Rg.srcEn e.val = 1 → ((s.raise e.val a0 a1).rd Rg.evtPend (e.val / 32)).testBit (e.val % 32) = true) ∧
    (s.rd Rg.srcEn e.val = 0 → (∀ g : Fin 32, (s.raise e.val a0 a1).rd Rg.evtPend g.val = s.rd Rg.evtPend g.val) ∧
      (s.raise e.val a0 a1).evt.queues = s.evt.queues ∧ (s.raise e.val a0 a1).evt.msixSent = s.evt.msixSent ∧
      (s.raise e.val a0 a1).evt.msixPending = s.evt.msixPending))

/-- Every journal entry has 32 bytes: TYPE, FLAGS, six bytes of SERIAL, 20 bytes of BODY, and the CRC-32 of those 28 bytes, all
little-endian (R91). -/
def Obligations.JournalEntryBytes : Prop :=
  ∀ e : JEntry, e.bytes.length = 32 ∧ e.body.parts.2.2.length = 20 ∧
    e.bytes.take 28 = leBytes 1 e.body.parts.1 ++ leBytes 1 e.body.parts.2.1 ++ leBytes 6 e.serial ++ e.body.parts.2.2 ∧
    e.bytes.drop 28 = leBytes 4 (crc32 (e.bytes.take 28))

/-- What a cold start keeps of the registers: the fields that the fuses, the supplies and WAKE_TRIP hold, and, but for CAUSE and
PAD_HELD, every other field is at its reset value. The journal's log, its header and its checkpoints stay as they were. -/
def Obligations.ColdStartKeeps : Prop :=
  ∀ (cause : Nat) (vin held : Bool) (s : State),
    (∀ (f : Fld) (i j : Nat), f.key i j ≠ Rg.bootCause.key 0 0 → f.key i j ≠ Rg.pwPadHeld.key 0 0 →
      (s.coldBegin cause vin held).rd f i j =
        if coldKept.any (fun g => g.hasKey (f.key i j)) then s.rd f i j else f.reset i j) ∧
    (s.coldBegin cause vin held).rd Rg.bootCause = cause % 2 ^ Rg.bootCause.width ∧
    (s.coldBegin cause vin held).rd Rg.pwPadHeld = 31 ∧
    (s.coldBegin cause vin held).jnl.log = s.jnl.log ∧ (s.coldBegin cause vin held).jnl.header = s.jnl.header ∧
    (s.coldBegin cause vin held).jnl.slotA = s.jnl.slotA ∧ (s.coldBegin cause vin held).jnl.slotB = s.jnl.slotB ∧
    (s.coldBegin cause vin held).billets = [] ∧ (s.coldBegin cause vin held).now = 0

/-- A machine line that the engine would write for a tag and a command is read back as that tag and that command (R573). -/
def Obligations.MachineLineRoundTrip : Prop :=
  ∀ tag cmd : Text, isTag tag = true → trimmed cmd = cmd →
    readMachine (checked ('#' :: tag ++ ' ' :: cmd)) =
      some (tag, cmd, hexN 4 (crc16 (textBytes ('#' :: tag ++ ' ' :: cmd))))

/-- The engine reads back every number that it writes: in decimal up to 25 digits, and in hexadecimal for a field of any width,
with its underscores. -/
def Obligations.NumbersRoundTrip : Prop :=
  (∀ x : Nat, x < 10 ^ 25 → readNat (dec x) = some x) ∧
  (∀ w x : Nat, 0 < w → x < 2 ^ w → readNat (hexW w x) = some x)

/-- With the internal source, outside holdover and with no change pending, the next Bell follows the last by exactly the nominal
Period. -/
def Obligations.InternalBell : Prop :=
  ∀ s : State, s.awake = true → s.bell.srcPend = none → s.rd Rg.bellHoldover = 0 → s.rd Rg.bellSrcAct = 0 →
    s.nextBell = some (s.lastBell + s.periodTicks, true) ∧
    exec .bell s = .next (((s.modBell (fun b => { b with held := b.held.drop 1, holdFirst := none })).soundBell
      (s.lastBell + s.periodTicks) true).settle)

/-- The nominal Period: it is 125,000 ticks after reset; a write from 12,500 to 5,000,000 ticks of a value other than the one in
force becomes pending and pauses admission, and any other value is ignored. -/
def Obligations.NominalPeriod : Prop :=
  State.reset.rd Rg.bellPeriod = 125000 ∧ State.reset.periodTicks = 125000 ∧
  ∀ (m : MasterId) (v : BitVec 23) (s : State), s.awake = true → s.granted m.val 0x10004 .set →
    (v.toNat < 12500 ∨ 5000000 < v.toNat → exec (.periodWrite m v) s = .next s.settle) ∧
    (12500 ≤ v.toNat → v.toNat ≤ 5000000 → v.toNat ≠ s.periodTicks →
      exec (.periodWrite m v) s = .next ((((s.wr Rg.bellPeriod v.toNat).wr Rg.bellPendPeriod 1).modBell
        (fun b => { b with periodPend := some v.toNat, resumeNext := false })).settle) ∧
      (((s.wr Rg.bellPeriod v.toNat).wr Rg.bellPendPeriod 1).modBell
        (fun b => { b with periodPend := some v.toNat, resumeNext := false })).periodHeld = true)

/-- With BELL_IN, outside holdover and catch-up, an edge earlier than 15/16 of the nominal Period after the last Bell is ignored,
counted and reported; any other makes the Bell on its own tick. Without an edge by 17/16 of the nominal Period, holdover
begins with E0064 and its first Bell. A write of the Bell's source outside holdover waits for the first event of the new
source, and the old source makes no Bell meanwhile. A write of the source in force changes nothing. A running job past its
cost charges its excess cycles to its row's free capacity and then to the reserve, and raises E0073; and a Temper change that
has ended reports the level in force with E0025. Whatever their operands, these commands complete wherever they are heard:
BELL_IN_EDGE, HOLDOVER_ENTRY, BELL_SOURCE_CHANGE, COST_OVERRUN, TEMPER_CHANGE_COMPLETE, BELL, PERIOD_WRITE. Each answers a
next state, that of its own effect, and the outputs follow it. -/
def Obligations.BellEvents : Prop :=
  (∀ s : State, s.awake = true → s.bell.srcPend = none → s.rd Rg.bellHoldover = 0 → s.rd Rg.bellSrcAct = 1 →
      s.bell.catchUp = false →
      (16 * (s.now - s.lastBell) < 15 * s.periodTicks →
        exec .bellInEdge s = .next ((((s.bumpSat Rg.bellEarly).raise 66 0 (s.rd Rg.bellEarly + 1)).modBell
          (fun b => { b with lastEdge := some s.now })).settle)) ∧
      (15 * s.periodTicks ≤ 16 * (s.now - s.lastBell) →
        exec .bellInEdge s = .next (((s.modBell (fun b => { b with lastEdge := some s.now, lastValid := some s.now })).soundBell
          s.now false).settle)) ∧
      exec .holdoverEntry s = .next ((((((s.wr Rg.bellHoldover 1).wr Rg.bellSrcAct 1).modBell (fun b =>
        { b with lastEdge := none, inRow := 0, held := [], catchUp := false, srcPend := none, holdFirst := none })).reach
          (s.sixteenths s.lastBell 17)).raise 64 0 s.period).soundBell (s.sixteenths s.lastBell 17) false).settle) ∧
  (∀ (m : MasterId) (v : Fin 4) (s : State), s.awake = true → s.granted m.val 0x10000 .set →
      (v.val = s.rd Rg.bellSrc → exec (.bellSourceChange m v) s = .next s.settle) ∧
      (v.val ≠ s.rd Rg.bellSrc → (s.wr Rg.bellSrc v.val).rd Rg.bellHoldover = 0 →
        exec (.bellSourceChange m v) s = .next (((s.wr Rg.bellSrc v.val).modBell
          (fun b => { b with held := [], catchUp := false, srcPend := some (v.val, s.lastBell) })).settle))) ∧
  ((∀ (ty : JobType) (u : Fin 20) (n : LaneId) (e : Word) (s : State), s.live = true →
      exec (.costOverrun ty u ⟨some n, e⟩) s =
        .next ((s.chargeExcess ty u.val e.toNat).raise 73 n.val (256 * ty.code + u.val)).settle ∧
      exec (.costOverrun ty u ⟨none, e⟩) s =
        .next ((s.chargeExcess ty u.val e.toNat).raise 73 0xFF (256 * ty.code + u.val)).settle) ∧
    (∀ s : State, s.awake = true → s.rd Rg.pwRamping = 1 →
      let t := s.rd Rg.bellStamp + usTicks (absDiff (s.rd Rg.pwVcore) (levelMv (s.rd Rg.pwActive)) / 10 + 1)
      exec .temperChangeComplete s = .next
        ((((s.reach t).wr Rg.pwRamping 0).wr Rg.pwVcore (levelMv (s.rd Rg.pwActive))).raise 25 0 (s.rd Rg.pwActive)).settle)) ∧
  (∀ s : State,
      (s.live = true →
        (∀ (ty : JobType) (unit : Fin 20) (past : Overrun),
          exec (.costOverrun ty unit past) s = .next (doCostOverrun ty unit past s).settle)) ∧
      (s.awake = true →
        (exec .bellInEdge s = .next (doBellInEdge s).settle) ∧
        (exec .holdoverEntry s = .next (doHoldoverEntry s).settle) ∧
        (∀ (m : MasterId) (v : Fin 4), exec (.bellSourceChange m v) s = .next (doBellSourceChange m v s).settle) ∧
        (exec .temperChangeComplete s = .next (doTemperChangeComplete s).settle) ∧
        (exec .bell s = .next (doBell s).settle) ∧
        (∀ (m : MasterId) (v : BitVec 23), exec (.periodWrite m v) s = .next (doPeriodWrite m v s).settle)))

/-- A write of EN = 1 enables a port that fits in the budget of 40,000 Mbit/s, and only raises E0364 for one that does not
(R127); a write of EN = 0 closes the port's captures and disables it (R129). What takes a port's link down: its silence, a
lost pixel clock, a deskew that fails; a deskew that succeeds is noted (R128, R129). Lines that a port's front end drops are
counted by the port and reported; the lane of a MIPI port that they belong to counts them too, is marked with OVERFLOW, and
truncates if its binding asks for it; on a parallel bus each line keeps its number, and every running lane whose sub-window
includes it counts and marks it. Whatever their operands, these commands complete wherever they are heard: PORT_ENABLE,
PORT_DISABLE, LINK_TIMEOUT, PCLK_LOST, DESKEW, PORT_OVERFLOW. Each answers a next state, that of its own effect, and the
outputs follow it. -/
def Obligations.Ports : Prop :=
  (∀ (m : MasterId) (p : PortId) (s : State), s.live = true → s.granted m.val (portAddr p.val) .set →
      (s.rd Rg.portEn p.val = 0 → s.budget + s.portRate p.val ≤ 40000 →
        exec (.portEnable m p) s = .next
          (let t := (s.wr Rg.portEn 1 p.val).syncBudget
           { t with ports := kvMod {} t.ports p.val (fun x => { x with lastSeen := s.now }) }).settle) ∧
      (s.rd Rg.portEn p.val = 0 → 40000 < s.budget + s.portRate p.val →
        exec (.portEnable m p) s = .next (s.raise 364 p.val 0).settle) ∧
      (s.rd Rg.portEn p.val = 1 →
        exec (.portDisable m p) s = .next (((s.loseLink p.val).wr Rg.portEn 0 p.val).syncBudget).settle)) ∧
  (∀ (p : PortId) (s : State), s.live = true →
      (s.rd Rg.portLink p.val = 1 →
        exec (.linkTimeout p) s = .next
          ((s.reach ((kvGet {} s.ports p.val).lastSeen + s.linkTimeout p.val)).loseLink p.val).settle) ∧
      (4 ≤ p.val → s.rd Rg.portLink p.val = 1 → exec (.pclkLost p) s = .next (s.loseLink p.val).settle) ∧
      (p.val < 4 → s.portLive p.val = true →
        exec (.deskew p true) s = .next (s.wr Rg.portDeskewed 1 p.val).settle ∧
        exec (.deskew p false) s = .next (s.loseLink p.val).settle)) ∧
  (∀ (p : PortId) (n : LaneId) (k : Nat) (s : State), s.live = true → s.portLive p.val = true → 0 < k →
      let t := (s.addSat Rg.portOverflow k p.val).raise (344 + p.val) p.val k
      (p.val < 4 → t.isBound n.val = false → exec (.portOverflow p n k) s = .next t.settle) ∧
      (4 ≤ p.val → exec (.portOverflow p n k) s = .next
        (t.each (List.range k) (fun st _ => st.busLine p.val (fun u i => u.laneOverflow i 1))).settle) ∧
      (p.val < 4 → t.isBound n.val = true → t.bnd n.val Rg.lnPort = p.val → exec (.portOverflow p n k) s = .next
        (((t.addSat Rg.lnOverflow k n.val).markLane n.val mkOverflow).truncateOnError n.val).settle)) ∧
  (∀ s : State,
      (s.live = true →
        (∀ (m : MasterId) (p : PortId), exec (.portEnable m p) s = .next (doPortEnable m p s).settle) ∧
        (∀ (m : MasterId) (p : PortId), exec (.portDisable m p) s = .next (doPortDisable m p s).settle) ∧
        (∀ (p : PortId), exec (.linkTimeout p) s = .next (doLinkTimeout p s).settle) ∧
        (∀ (p : PortId), exec (.pclkLost p) s = .next (doPclkLost p s).settle) ∧
        (∀ (p : PortId) (ok : Bool), exec (.deskew p ok) s = .next (doDeskew p ok s).settle) ∧
        (∀ (p : PortId) (n : LaneId) (lines : Nat),
          exec (.portOverflow p n lines) s = .next (doPortOverflow p n lines s).settle)))

/-- A header that arrives on a live port keeps its link up; each lane bound to its channel counts a corrected header, and a
packet that no running lane takes is counted as unbound. A wrong payload CRC and a data type that is not the binding's are
counted by each lane that takes the packet. A header that cannot be corrected is counted by the port, reported, and marked in
every open capture of the port. What the parallel ports take: a frame strobe begins a bus frame at line 0; a timing code with
H = 1 only notes its F and V bits; a trailer whose first byte is not 0xC3 is an error of every lane on the line, and a good
one only notes its counter. Whatever their operands, these commands complete wherever they are heard: SHORT_PACKET,
UNBOUND_PACKET, DT_MISMATCH, EMBEDDED_DATA, HEADER_UNCORRECTABLE, BUS_FRAME_START, TIMING_CODE, TRAILER. Each answers a next
state, that of its own effect, and the outputs follow it. -/
def Obligations.PortInputs : Prop :=
  (∀ (p : PortId) (c : Fin 16) (ecc : Bool) (s : State), s.live = true → s.portLive p.val = true →
      (((s.seeLink p.val).holders p.val c.val).filter (fun h => (s.seeLink p.val).isRunning h.1) = [] →
        exec (.shortPacket p c ecc) s = .next ((if ecc then (s.seeLink p.val).each ((s.seeLink p.val).holders p.val c.val)
          (fun st h => st.markCount h.1 mkEccFixed Rg.lnEccFixed) else s.seeLink p.val).bumpSat Rg.portUnbound p.val).settle ∧
        (s.takers p.val c.val = [] →
          exec (.unboundPacket p c) s = .next ((s.seeLink p.val).bumpSat Rg.portUnbound p.val).settle)) ∧
      (∀ n : Nat, (s.seeLink p.val).holders p.val c.val = [(n, 0)] → (s.seeLink p.val).isRunning n = true →
        exec (.shortPacket p c true) s = .next (((s.seeLink p.val).markCount n mkEccFixed Rg.lnEccFixed)).settle ∧
        exec (.shortPacket p c false) s = .next (s.seeLink p.val).settle ∧
        exec (.dtMismatch p c false true) s = .next ((s.seeLink p.val).markCount n mkDtMismatch Rg.lnDtMismatch).settle ∧
        (p.val < 4 → ∀ bytes : List Byte,
          exec (.embeddedData p c false true bytes) s = .next ((s.seeLink p.val).modLane n (fun l =>
            { l with capture := l.capture.map (fun x =>
              { x with embedded := if x.embedded.length < 4 then x.embedded ++ [bytes.take 4096] else x.embedded }) })).settle)) ∧
      (p.val < 4 → exec (.headerUncorrectable p) s = .next
        (let t := (s.bumpSat Rg.portHdrUncorr p.val).raiseCnt 64 (336 + p.val) p.val p.val
         t.each ((t.lanesOf p.val).filter (fun n => (t.lane n).capture.isSome)) (fun st n =>
           st.markCount n mkHdrLost Rg.lnHdrLost)).settle)) ∧
  (∀ (p : PortId) (s : State), s.live = true → 4 ≤ p.val → s.portLive p.val = true →
      (s.rd Rg.parSync (p.val - 4) = 0 → exec (.busFrameStart p) s = .next
        (State.seeLink { s with ports := kvMod {} s.ports p.val (fun x =>
          { x with busLine := 0, vLine := 0, blank := false, lastTrailer := none, started := [] }) } p.val).settle) ∧
      (∀ (xy : Fin 256) (f v : Bool), s.rd Rg.parSync (p.val - 4) = 1 → s.rd Rg.parFieldMode (p.val - 4) = 0 →
        xyDecode xy.val = some ((f, v, true), false) → exec (.timingCode p xy) s = .next
          ({ s with ports := kvMod {} s.ports p.val (fun y =>
            { y with lastF := some (b2n f), blank := v || y.blank, active := false }) } : State).settle) ∧
      (∀ (words t : List Nat), s.rd Rg.parTrailEn (p.val - 4) = 1 →
        (t.getD 0 0 ≠ 0xC3 → exec (.trailer p words t) s = .next
          (s.each (s.lanesAtLine p.val ((kvGet {} s.ports p.val).busLine - 1)) (fun st n =>
            st.markCount n mkTrailer Rg.lnTrailer)).settle) ∧
        (t.getD 0 0 = 0xC3 → t.getD 2 0 * 256 + t.getD 3 0 = trailerCrc words (t.getD 1 0) →
          (kvGet {} s.ports p.val).lastTrailer = none → exec (.trailer p words t) s = .next
            ({ s with ports := kvMod {} s.ports p.val (fun y => { y with lastTrailer := some (t.getD 1 0) }) } : State).settle))) ∧
  (∀ s : State,
      (s.live = true →
        (∀ (p : PortId) (vc : Fin 16) (ecc : Bool),
          exec (.shortPacket p vc ecc) s = .next (doShortPacket p vc ecc s).settle) ∧
        (∀ (p : PortId) (vc : Fin 16), exec (.unboundPacket p vc) s = .next (doUnboundPacket p vc s).settle) ∧
        (∀ (p : PortId) (vc : Fin 16) (ecc crcOk : Bool),
          exec (.dtMismatch p vc ecc crcOk) s = .next (doDtMismatch p vc ecc crcOk s).settle) ∧
        (∀ (p : PortId) (vc : Fin 16) (ecc crcOk : Bool) (bytes : List Byte),
          exec (.embeddedData p vc ecc crcOk bytes) s = .next (doEmbeddedData p vc ecc crcOk bytes s).settle) ∧
        (∀ (p : PortId), exec (.headerUncorrectable p) s = .next (doHeaderUncorrectable p s).settle) ∧
        (∀ (p : PortId), exec (.busFrameStart p) s = .next (doBusFrameStart p s).settle) ∧
        (∀ (p : PortId) (xy : Fin 256), exec (.timingCode p xy) s = .next (doTimingCode p xy s).settle) ∧
        (∀ (p : PortId) (words t : List Nat), exec (.trailer p words t) s = .next (doTrailer p words t s).settle)))

/-- START takes a stopped lane whose binding stands to RUN, or to LINK_DOWN without a link; STOP takes a lane without an open
capture to STOPPED and waits for an open capture to close; RESET closes the capture and stops the lane. No lane that is OFF
answers any of them (Table Capture.5). A binding is written in OFF and STOPPED, and then tested again; in any other state the
write is ignored (R180). The 29 binding fields have the numbers 0 to 28; a write of another number changes nothing. A capture
that has all its rows and no frame end is closed with NO_FE four times LINE_MAX after its last row; one that still misses
rows waits. Whatever their operands, these commands complete wherever they are heard: LANE_START, LANE_STOP, LANE_RESET,
BINDING_WRITE, NO_FRAME_END. Each answers a next state, that of its own effect, and the outputs follow it. -/
def Obligations.Lanes : Prop :=
  (∀ (m : MasterId) (n : LaneId) (s : State), s.live = true → s.granted m.val (laneAddr n.val 0x18) .run →
      (s.laneMayStart n.val = true →
        exec (.laneStart m n) s = .next
          (s.wr Rg.lnState (if s.rd Rg.portLink (s.bnd n.val Rg.lnPort) = 1 then 2 else 4) n.val).settle) ∧
      (2 ≤ s.rd Rg.lnState n.val → (s.lane n.val).capture = none → exec (.laneStop m n) s = .next
        ((s.laneTo n.val 1).modLane n.val (fun l =>
          { l with probClean := 0, deaf := false, stoppedAt := some (s.now, s.rd Rg.lnState n.val) })).settle) ∧
      (2 ≤ s.rd Rg.lnState n.val → (s.lane n.val).capture.isSome = true → exec (.laneStop m n) s = .next
        (s.modLane n.val (fun l => { l with stopPending := true })).settle) ∧
      (1 ≤ s.rd Rg.lnState n.val → (s.lane n.val).capture = none → exec (.laneReset m n) s = .next
        ((((s.contReset n.val).partnersEnd n.val mkLaneReset).laneTo n.val 1).modLane n.val (fun l =>
          { l with probClean := 0, stopPending := false, deaf := false,
                   partners := l.partners.filter (fun q => q.ordinal.isSome) })).settle) ∧
      (s.rd Rg.lnState n.val = 0 → exec (.laneStart m n) s = .next s.settle ∧
        exec (.laneStop m n) s = .next s.settle ∧ exec (.laneReset m n) s = .next s.settle)) ∧
  (∀ (m : MasterId) (n : LaneId) (k : Fin 32) (v : Word) (s : State), s.live = true →
      (bindingFields[k.val]? = none → exec (.bindingWrite m n k v) s = .next s.settle) ∧
      (∀ f : Fld, bindingFields[k.val]? = some f → s.granted m.val (f.base + 0x1000 * n.val) .set →
        (s.rd Rg.lnState n.val ≤ 1 →
          exec (.bindingWrite m n k v) s = .next ((s.wr f v.toNat n.val).bindRetest n.val).settle) ∧
        (2 ≤ s.rd Rg.lnState n.val → exec (.bindingWrite m n k v) s = .next s.settle))) ∧
  (∀ (n : LaneId) (c : Capture) (s : State), s.live = true → (s.lane n.val).capture = some c →
      s.bnd n.val Rg.lnPort < 4 →
      (s.bnd n.val Rg.lnHeight ≤ c.rows → exec (.noFrameEnd n) s = .next
        (((s.reach (c.lastRow + 4 * s.bnd n.val Rg.lnLineMax)).bumpSat Rg.lnNoFe n.val).closeCapture n.val mkNoFrameEnd).settle) ∧
      (c.rows < s.bnd n.val Rg.lnHeight → (s.lane n.val).partners = [] → exec (.noFrameEnd n) s = .next s.settle)) ∧
  (∀ s : State,
      (s.live = true →
        (∀ (m : MasterId) (n : LaneId), exec (.laneStart m n) s = .next (doLaneStart m n s).settle) ∧
        (∀ (m : MasterId) (n : LaneId), exec (.laneStop m n) s = .next (doLaneStop m n s).settle) ∧
        (∀ (m : MasterId) (n : LaneId), exec (.laneReset m n) s = .next (doLaneReset m n s).settle) ∧
        (∀ (m : MasterId) (n : LaneId) (k : Fin 32) (v : Word),
          exec (.bindingWrite m n k v) s = .next (doBindingWrite m n k v s).settle) ∧
        (∀ (n : LaneId), exec (.noFrameEnd n) s = .next (doNoFrameEnd n s).settle)))

/-- Frames on a MIPI port whose channel one lane holds, for each of its exposures, with corrected headers and wrong payload CRCs
as they come: the start packet begins a frame of exposure 0, or one of a partner exposure of a running lane; in a running
lane a line of the binding's data type brings a row, a line of another data type is a mismatch, the first four embedded-data
packets are kept, and the end packet closes the capture; a user-defined packet is passed on to the lane's open Billet. Lines
of a parallel bus: an active line takes its number, begins the frames of the lanes whose sub-window begins at it, and brings
a row to every running lane whose sub-window includes it; a line outside the active ones only passes. A frame start given to
the port begins the frames of the lanes that hold it and have not begun theirs. Whatever their operands, these commands
complete wherever they are heard: FRAME_START, FRAME_END, PIXEL_LINE, USER_DEFINED_PACKET. Each answers a next state, that of
its own effect, and the outputs follow it. -/
def Obligations.Frames : Prop :=
  (∀ (p : PortId) (c : Fin 16) (n : LaneId) (ecc : Bool) (s : State), s.live = true → p.val < 4 → s.portLive p.val = true →
      let g := s.header p.val c.val false
      (∀ fn : Fin 65536,
        (g.holders p.val c.val = [(n.val, 0)] → exec (.frameStart p c fn ecc) s = .next
          ((if ecc then g.bumpSat Rg.lnEccFixed n.val else g).frameStart n.val fn.val ecc).settle) ∧
        (∀ e : Nat, 0 < e → g.holders p.val c.val = [(n.val, e)] →
          let q := if ecc then g.markCount n.val mkEccFixed Rg.lnEccFixed else g
          q.isRunning n.val = true → exec (.frameStart p c fn ecc) s = .next (q.partnerStart n.val e fn.val).settle)) ∧
      (let h := s.header p.val c.val ecc
       ∀ e : Nat, h.holders p.val c.val = [(n.val, e)] → h.isRunning n.val = true →
        exec (.frameEnd p c ecc) s = .next (if e = 0 then h.frameEnd0 n.val else h.partnerEnd n.val e 0).settle ∧
        (∀ crcOk : Bool,
          let q := if crcOk then h else h.markCount n.val mkCrc Rg.lnCrcErr
          (∀ (dt : Fin 64) (px : List (BitVec 16)),
            (h.bnd n.val Rg.lnDt = dt.val → exec (.pixelLine p c dt px crcOk ecc) s = .next
              (if e = 0 then h.lineIn n.val (px.map BitVec.toNat) crcOk
               else h.partnerLine n.val e (px.map BitVec.toNat) crcOk).settle) ∧
            (h.bnd n.val Rg.lnDt ≠ dt.val →
              exec (.pixelLine p c dt px crcOk ecc) s = .next (q.markCount n.val mkDtMismatch Rg.lnDtMismatch).settle)) ∧
          (q.takers p.val c.val = [(n.val, e)] →
            exec (.dtMismatch p c ecc crcOk) s = .next (q.markCount n.val mkDtMismatch Rg.lnDtMismatch).settle ∧
            (∀ bytes : List Byte,
              let keep (l : List (List Byte)) := if l.length < 4 then l ++ [bytes.take 4096] else l
              exec (.embeddedData p c ecc crcOk bytes) s = .next
                (if e = 0 then q.modLane n.val (fun l =>
                   { l with capture := l.capture.map (fun x => { x with embedded := keep x.embedded }) })
                 else q.modLane n.val (fun l => { l with partners := l.partners.map (fun f =>
                   if f.exposure == e && !f.closed then { f with embedded := keep f.embedded } else f) })).settle) ∧
            (∀ (x : Capture) (o : Nat) (ty : Fin 8) (bytes : List Byte), (q.lane n.val).capture = some x → x.ordinal = some o →
              exec (.userDefinedPacket p c ty crcOk ecc bytes) s = .next
                (q.passPacket o n.val (0x30 + ty.val) bytes).settle))))) ∧
  (∀ (p : PortId) (c : Fin 16) (s : State), s.live = true → 4 ≤ p.val → s.portLive p.val = true →
      (∀ (dt : Fin 64) (px : List (BitVec 16)) (crcOk ecc : Bool),
        (s.lineActive p.val = true → exec (.pixelLine p c dt px crcOk ecc) s = .next
          (s.busLine p.val (fun st n =>
            st.lineIn n (st.busPixels n p.val (st.busWords p.val (px.map BitVec.toNat))) true)).settle) ∧
        (s.lineActive p.val = false → exec (.pixelLine p c dt px crcOk ecc) s = .next
          ({ s with ports := kvMod {} s.ports p.val (fun y => { y with vLine := y.vLine + 1 }) } : State).settle)) ∧
      (∀ (fn : Fin 65536) (ecc : Bool),
        let hs := (s.holders p.val c.val).filter (fun h => !(kvGet {} s.ports p.val).started.contains h.1)
        exec (.frameStart p c fn ecc) s = .next
          ((State.each { s with ports := kvMod {} s.ports p.val (fun x => { x with started := x.started ++ hs.map Prod.fst }) }
            hs (fun st h => st.frameStart h.1 0 false)).settle))) ∧
  (∀ s : State,
      (s.live = true →
        (∀ (p : PortId) (chan : Fin 16) (fn : Fin 65536) (ecc : Bool),
          exec (.frameStart p chan fn ecc) s = .next (doFrameStart p chan fn ecc s).settle) ∧
        (∀ (p : PortId) (vc : Fin 16) (ecc : Bool), exec (.frameEnd p vc ecc) s = .next (doFrameEnd p vc ecc s).settle) ∧
        (∀ (p : PortId) (chan : Fin 16) (dt : Fin 64) (px : List (BitVec 16)) (crcOk ecc : Bool),
          exec (.pixelLine p chan dt px crcOk ecc) s = .next (doPixelLine p chan dt px crcOk ecc s).settle) ∧
        (∀ (p : PortId) (vc : Fin 16) (t : Fin 8) (crcOk ecc : Bool) (bytes : List Byte),
          exec (.userDefinedPacket p vc t crcOk ecc bytes) s = .next (doUserDefinedPacket p vc t crcOk ecc bytes s).settle)))

/-- A write of CCI_CMD_2 pushes the transaction that the command registers hold, and a full queue of 64 drops it and sets FULL.
An idle enabled master takes the oldest triggered transaction and puts it on the bus; SDA stuck low is answered with nine
clocks and a STOP (R173); one that ends puts a STOP on the bus and leaves a result, with E0360 for an error; reading a result
takes it; disabling a master ends its queue with status 5 (R170, R171, R172, R173). Whatever their operands, these commands
complete wherever they are heard: CCI_PUSH, CCI_ISSUE, CCI_TRANSACTION_DONE, CCI_STRETCH_TIMEOUT, CCI_RESULT_READ,
CCI_DISABLE. Each answers a next state, that of its own effect, and the outputs follow it. -/
def Obligations.CciMaster : Prop :=
  (∀ (c : CciId) (s : State), s.live = true →
      (∀ (m : MasterId) (v : Word), s.granted m.val (cciAddr c.val 0xC) .run →
        ((s.cciOf c.val).queue.length < 64 → exec (.cciPush m c v) s = .next (s.modCci c.val (fun x =>
          { x with queue := x.queue ++ [s.cciFromRegs c.val v.toNat],
                   triggered := x.triggered || (x.queue.isEmpty && (s.cciFromRegs c.val v.toNat).trig == 0) })).settle) ∧
        (64 ≤ (s.cciOf c.val).queue.length → exec (.cciPush m c v) s = .next (s.wr Rg.cciFull 1 c.val).settle)) ∧
      (∀ (t : CciTx) (rest : List CciTx), (s.cciOf c.val).active = none → (s.cciOf c.val).queue = t :: rest →
        s.rd Rg.cciEn c.val = 1 → (s.cciOf c.val).triggered = true → s.domainServes 0 = true → s.padHeld 0 = false →
        exec (.cciIssue c false) s = .next ((s.modCci c.val (fun y => ({ y with queue := rest }).rearm)).modCci c.val
          (fun y => { y with active := some t, wire := t.wire })).settle ∧
        exec (.cciIssue c true) s = .next (((s.modCci c.val (fun y => ({ y with queue := rest }).rearm)).modCci c.val
          (fun y => { y with wire := [.clocks 9, .stop] })).cciEnd c.val t 4 0).settle) ∧
      (∀ (t : CciTx) (v : Word), (s.cciOf c.val).active = some t → t.loop = none → t.session = none →
        let u (status rdata : Nat) := (s.modCci c.val (fun x => { x with active := none, wire := x.wire ++ [.stop] })).modCci c.val (fun x =>
          { x with results := (if 64 ≤ x.results.length then x.results.drop 1 else x.results) ++
                              [{ tag := t.tag, status := status, rdata := rdata }] })
        exec (.cciTransactionDone c 0 v) s = .next (u 0 (v.toNat % 2 ^ (8 * t.dataBytes))).settle ∧
        exec (.cciTransactionDone c 1 v) s = .next ((u 1 (v.toNat % 2 ^ (8 * t.dataBytes))).raise (360 + c.val) c.val 1).settle ∧
        exec (.cciStretchTimeout c) s = .next ((u 3 0).raise (360 + c.val) c.val 3).settle) ∧
      (∀ (m : MasterId) (x : CciResult) (rest : List CciResult), s.granted m.val (cciAddr c.val 0x10) .look →
        (s.cciOf c.val).results = x :: rest →
        exec (.cciResultRead m c) s = .next (((s.modCci c.val (fun y => { y with results := rest })).wr Rg.cciRdata x.rdata
          c.val).answer m.val (2 ^ 31 + x.status * 2 ^ 28 + x.tag * 2 ^ 16)).settle) ∧
      (∀ m : MasterId, s.granted m.val (cciAddr c.val 0) .set →
        exec (.cciDisable m c) s = .next (((s.wr Rg.cciEn 0 c.val).modCci c.val (fun x => ({ x with queue := [] }).rearm)).each
          ((s.wr Rg.cciEn 0 c.val).cciOf c.val).queue (fun st t => st.cciEnd c.val t 5 0)).settle)) ∧
  (∀ s : State,
      (s.live = true →
        (∀ (m : MasterId) (c : CciId) (data : Word), exec (.cciPush m c data) s = .next (doCciPush m c data s).settle) ∧
        (∀ (c : CciId) (stuck : Bool), exec (.cciIssue c stuck) s = .next (doCciIssue c stuck s).settle) ∧
        (∀ (c : CciId) (status : Fin 3) (rdata : Word),
          exec (.cciTransactionDone c status rdata) s = .next (doCciTransactionDone c status rdata s).settle) ∧
        (∀ (c : CciId), exec (.cciStretchTimeout c) s = .next (doCciStretchTimeout c s).settle) ∧
        (∀ (m : MasterId) (c : CciId), exec (.cciResultRead m c) s = .next (doCciResultRead m c s).settle) ∧
        (∀ (m : MasterId) (c : CciId), exec (.cciDisable m c) s = .next (doCciDisable m c s).settle)))

/-- APPLY on settings that pass its tests asks for a SETTINGS entry, which keeps what entries on their way say of RESUME,
STALL_TIMEOUT and JX_CODE, and a SUBSCRIBE entry, whose ordinal is filled in at its append; it changes nothing on settings
that do not pass (R110, R121). A write of a correspondent's RESUME, STALL_TIMEOUT or JX_CODE takes effect by a SETTINGS entry
that leaves its other settings as they stand with the entries on their way (R110); STALL_TIMEOUT after a correspondent
stalled, E0642 reports it once. EVICT by the Proctor marks a correspondent that is neither free nor evicted; its EVICT entry
is asked for at once if nothing of it is at work, and later otherwise. Any other master, a free correspondent, and one that
is being evicted or has been, change nothing. Whatever their operands, these commands complete wherever they are heard:
APPLY, CORR_SETTINGS_WRITE, STALL_TIMEOUT, EVICT. Each answers a next state, that of its own effect, and the outputs follow
it. -/
def Obligations.Correspondents : Prop :=
  (∀ (m : MasterId) (c : CorrId) (s : State), s.live = true → s.gateAt (corrAddr 0) = .pass →
      s.corrRight m.val c.val .run = true →
      (s.applyOk c.val = false → exec (.apply m c) s = .next s.settle) ∧
      (s.applyOk c.val = true → s.rd Rg.corrLanes c.val ≠ 0 → s.corrFree c.val = true →
        exec (.apply m c) s = .next ((s.jreq (.settings c.val (s.rd Rg.corrKind c.val) (s.rd Rg.corrRoute c.val)
          (s.rd Rg.corrQuota c.val) (s.rd Rg.corrNoticeCap c.val) (s.settingsNow c.val).resume
          (s.settingsNow c.val).stallTimeout (s.settingsNow c.val).jxCode)).jreq (.subscribe 0 c.val (s.rd Rg.corrTenant c.val) 1
          (s.rd Rg.corrLanes c.val) (s.rd Rg.corrSymMask c.val))).settle)) ∧
  (∀ (c : CorrId) (s : State), s.live = true →
      (let x := s.settingsNow c.val
       let entry (y : Settings) := s.jreq (.settings c.val y.kind y.route y.quota y.noticeCap y.resume y.stallTimeout y.jxCode)
       ∀ (m : MasterId) (v : Word), s.corrRight m.val c.val .set = true →
        (s.gateAt (corrAddr 0x14) = .pass →
          exec (.corrSettingsWrite m c .resume v) s = .next (entry { x with resume := v.toNat % 16 }).settle ∧
          exec (.corrSettingsWrite m c .stallTimeout v) s = .next (entry { x with stallTimeout := v.toNat % 65536 }).settle) ∧
        (s.gateAt (corrAddr 0x18) = .pass →
          exec (.corrSettingsWrite m c .jxCode v) s = .next (entry { x with jxCode := v.toNat }).settle)) ∧
      (∀ t : Nat, (s.corr c.val).stallSince = some t → (s.corr c.val).stallTold = false →
        s.rd Rg.corrStallTimeout c.val ≠ 0 → s.rd Rg.corrStalled c.val = 1 →
        exec (.stallTimeout c) s = .next (((s.reach (t + msTicks (s.rd Rg.corrStallTimeout c.val))).modCorr c.val (fun x =>
          { x with stallTold := true })).raise 642 c.val (s.rd Rg.corrStallTimeout c.val)).settle)) ∧
  (∀ (m : MasterId) (c : CorrId) (s : State), s.live = true →
      (s.isProctor m.val = true → s.corrFree c.val = false → (s.corr c.val).evicting = false → s.rd Rg.gbState c.val ≠ 3 →
        let u := s.modCorr c.val (fun x => { x with evicting := true })
        (u.evictReady c.val = true → s.jnl.requests.any (isEvictOf c.val) = false →
          exec (.evict m c) s = .next (u.jreq (.evict 0 c.val (u.corr c.val).tenant 0 0)).settle) ∧
        (u.evictReady c.val = false → exec (.evict m c) s = .next u.settle)) ∧
      (s.isProctor m.val = false ∨ s.corrFree c.val = true ∨ (s.corr c.val).evicting = true ∨ s.rd Rg.gbState c.val = 3 →
        exec (.evict m c) s = .next s.settle)) ∧
  (∀ s : State,
      (s.live = true →
        (∀ (m : MasterId) (c : CorrId), exec (.apply m c) s = .next (doApply m c s).settle) ∧
        (∀ (m : MasterId) (c : CorrId) (f : CorrSetting) (v : Word),
          exec (.corrSettingsWrite m c f v) s = .next (doCorrSettingsWrite m c f v s).settle) ∧
        (∀ (c : CorrId), exec (.stallTimeout c) s = .next (doStallTimeout c s).settle) ∧
        (∀ (m : MasterId) (c : CorrId), exec (.evict m c) s = .next (doEvict m c s).settle)))

/-- An entry asked for is appended once 64 ticks have passed since the last append and the staging buffer has room: it takes the
next serial number, and what it lets proceed proceeds (R88, R91). A full staging buffer appends nothing. The oldest staged
entry is written to the log at the tail, which runs on; the entry that makes half the log written while a checkpoint is held
back is remembered as a cause. A checkpoint that is wanted begins, and one that ends fills the slot that is not in force,
with its CHECKPOINT entry, and becomes the one in force (R89, R94). The replay of phase 7 ends in phase 8, whichever start it
belongs to. Whatever their operands, these commands complete wherever they are heard: JOURNAL_APPEND, JOURNAL_WRITEBACK,
CHECKPOINT_START, CHECKPOINT_DONE, FORCE_CKPT, REPLAY_END. Each answers a next state, that of its own effect, and the outputs
follow it. -/
def Obligations.Journal : Prop :=
  (∀ (b : JBody) (rest : List JBody) (s : State), s.lit = true → s.powerFail ≠ .sealed → s.ackFlush = s → s.jnl.requests = b :: rest →
      (stagingSize ≤ s.jnl.staging.length → exec .journalAppend s = .next s.settle) ∧
      (s.jnl.staging.length < stagingSize →
        exec .journalAppend s = .next
          ((State.stage { s.reach (s.jnl.lastAppend + 64) with
              jnl := { (s.reach (s.jnl.lastAppend + 64)).jnl with requests := rest } }
            ((s.reach (s.jnl.lastAppend + 64)).lateBody b)).durable ((s.reach (s.jnl.lastAppend + 64)).lateBody b)).settle)) ∧
  (∀ s : State, s.live = true →
      (∀ (e : JEntry) (rest : List JEntry), s.jnl.staging = e :: rest → exec .journalWriteback s = .next
        (let t : State := { s with jnl := { s.jnl with staging := rest, log := kvPut s.jnl.log s.jnl.tail { entry := e },
                                                        tail := (s.jnl.tail + 1) % logSize } }
         let half := s.ckptHeld && decide (2 * s.logFill < logSize) && decide (logSize ≤ 2 * t.logFill)
         let u : State := { t with jnl := { t.jnl with ckptDue := t.jnl.ckptDue || half } }
         (u.wr Rg.jnlStaged rest.length).wr Rg.jnlFill (u.logFill * 100 / logSize)).settle) ∧
      (s.ckptWanted = true → s.rd Rg.jnlCkptBusy = 0 → s.rd Rg.jnlReplay = 0 → exec .checkpointStart s = .next s.ckptStart.settle) ∧
      (s.jnl.writing = true → s.appendTurn.rd Rg.jnlCkptSlot = 0 →
        let ck := s.appendTurn.snapshot
        let t := s.appendTurn.stage (.checkpoint 1 ck.ordinal ck.period)
        let ck' : Ckpt := { ck with serial := t.rd Rg.jnlSerial, next := (t.jnl.tail + t.jnl.staging.length) % logSize }
        let j : JournalSt := { t.jnl with slotB := some ck', ckptSerial := ck'.serial, ckptNext := ck'.next,
                                           writing := false, bellsSince := 0 }
        let u := (((State.wr { t with jnl := j } Rg.jnlCkptSlot 1).wr Rg.jnlCkptBusy 0).wr Rg.jnlFill 0).writeHeader
        exec .checkpointDone s = .next (if u.jnl.ckptDue then u.ckptStart else u).settle) ∧
      (∀ m : MasterId, s.granted m.val 0x20000 .run → exec (.forceCkpt m) s = .next s.ckptCause.settle)) ∧
  (∀ (ps : List (RingId × Word)) (s : State), s.awake = true → s.rd Rg.bootPhase = 7 → s.boot.held = false →
      let t := if s.boot.warm then s.replayWarm else s.replayCold (ps.map (fun p => (p.1.val, p.2.toNat)))
      exec (.replayEnd ps) s = .next ({ t.wr Rg.bootPhase 8 with boot := { t.boot with erased := false } } : State).settle) ∧
  (∀ s : State,
      (s.awake = true →
        (exec .checkpointStart s = .next (doCheckpointStart s).settle) ∧
        (exec .checkpointDone s = .next (doCheckpointDone s).settle) ∧
        (∀ (m : MasterId), exec (.forceCkpt m) s = .next (doForceCkpt m s).settle) ∧
        (∀ (prods : List (RingId × Word)), exec (.replayEnd prods) s = .next (doReplayEnd prods s).settle)) ∧
      (s.lit = true → s.powerFail ≠ .sealed →
        (exec .journalAppend s = .next (doJournalAppend s).settle) ∧
        (exec .journalWriteback s = .next (doJournalWriteback s).settle)))

/-- The Pipe starts the next stripe of the Billet that its order picks: the job runs, IDLE falls, and PIPE.LANE names the lane. A
stripe whose reads meet a lost line ends its frame instead. It starts none while one runs. A stripe that has ended leaves the
Pipe idle. A partner exposure whose stripe has not come by its due instant is missing for the oldest Billet that waits for
it. Whatever their operands, these commands complete wherever they are heard: PIPE_STRIPE_START, PIPE_STRIPE_DONE,
PARTNER_MISSING. Each answers a next state, that of its own effect, and the outputs follow it. -/
def Obligations.Pipe : Prop :=
  (∀ s : State, s.live = true →
      (∀ b : Billet, s.pipe.running = none → s.working = true → s.domainServes 0 = true →
        s.pickJob .pipe (fun b => b.pipe.done) (s.billets.filter s.stripeReady) = some b →
        (s.takeArmed 453 b.lane) = (s, false) → (s.takeArmed 454 b.lane) = (s, false) →
        exec (.pipeStripeStart false false) s = .next
          (((({ ((s.pipeSwitch b.ordinal).wr Rg.pipeLane b.lane).wr Rg.pipeIdle 0 with
                pipe := { running := some (b.ordinal, b.pipe.done), lastBillet := some b.ordinal } } : State).modBillet
            b.ordinal (fun x => { x with pipe := { x.pipe with busy := true } })).jobStage .pipe b.ordinal b.pipe.done
            .running)).settle ∧
        exec (.pipeStripeStart false true) s = .next
          (let sw := (s.pipeSwitch b.ordinal).wr Rg.pipeLane b.lane
           State.pipeDataLost { sw with pipe := { sw.pipe with lastBillet := some b.ordinal } } b.ordinal b.lane).settle) ∧
      (s.pipe.running.isSome = true → ∀ x y : Bool, exec (.pipeStripeStart x y) s = .next s.settle) ∧
      (∀ o j : Nat, s.pipe.running = some (o, j) →
        let s0 := (({ s with pipe := { s.pipe with running := none } } : State).wr Rg.pipeIdle 1).jobStage .pipe o j .done
        (s0.billet? o = none → exec .pipeStripeDone s = .next s0.settle) ∧
        ∀ b : Billet, s0.billet? o = some b → b.captureOpen = true → j + 1 < stripeCount b.bind →
          exec .pipeStripeDone s = .next
            (let y := b.stripeRows j
             let r := s0.runRows b j y.1 y.2
             let s1 := s0.modBillet o (fun x =>
               { x with stat := { r.stat with stripes := r.stat.stripes + 1 },
                        pipe := { x.pipe with busy := false, done := j + 1, view := x.pipe.view ++ r.view,
                                              plane := x.pipe.plane ++ r.plane, dynCount := x.pipe.dynCount + r.dyn, ob := r.ob } })
             let whole := decide (min ((j + 1) * stripeHeight b.bind) (cpGet b.bind Rg.lnHeight) ≤ y.2)
             ((((s1.refStripe o j r.view whole).obUpdate b y.1 y.2 r.ob).streamsRun o b.lane y.2 false).tryEnd o)).settle) ∧
      (s.pipe.running = none → exec .pipeStripeDone s = .next s.settle)) ∧
  (∀ (n : LaneId) (second : Bool) (b : Billet) (s : State), s.live = true →
      s.billets.find? (fun b => b.lane == n.val && decide (1 + b2n second ≤ cpGet b.bind Rg.lnExposures) &&
        orderL b.bind && !(b.pipe.missFrom.any (fun m => m.1 == 1 + b2n second)) &&
        decide (s.partnerStripe b (1 + b2n second) < stripeCount b.bind)) = some b →
      s.partnerOf b (1 + b2n second) = none →
      exec (.partnerMissing n second) s = .next
        (((s.reach (b.stamp + min (stripeHeight b.bind * b.tMax) (2 * s.frameTime n.val))).miss b.ordinal (1 + b2n second)
          (s.partnerStripe b (1 + b2n second))).partnerExpire n.val).settle) ∧
  (∀ s : State,
      (s.live = true →
        (∀ (parity lost : Bool), exec (.pipeStripeStart parity lost) s = .next (doPipeStripeStart parity lost s).settle) ∧
        (exec .pipeStripeDone s = .next (doPipeStripeDone s).settle) ∧
        (∀ (n : LaneId) (second : Bool), exec (.partnerMissing n second) s = .next (doPartnerMissing n second s).settle)))

/-- The table window steps its address by one at each access (R239); a write changes a word of a bank out of use, whose tests
then no longer stand, and a bank in use sets BUSY and raises E0451. A commit tests the bank. A reference cell is filled at
the next frame and cleared at once. At most 16 output streams are live: one more raises E0736 and stays off. A live stream's
coefficients cannot be written, which sets COEF_BUSY; otherwise word i holds taps 2i and 2i + 1 in two's complement. Whatever
their operands, these commands complete wherever they are heard: TBL_DATA_ACCESS, TABLE_COMMIT, REF_FILL, REF_CLEAR,
STREAM_ENABLE, COEF_DATA_WRITE. Each answers a next state, that of its own effect, and the outputs follow it. -/
def Obligations.PipeTables : Prop :=
  (∀ (m : MasterId) (s : State), s.live = true →
      let t := s.rd Rg.pipeTblTable m.val
      let a := s.rd Rg.pipeTblAddr m.val
      let bank := s.tblSel m.val
      (s.granted m.val 0x140108 .set → ∀ v : Word,
        (s.bankInUse bank = false → a < tblWords t → exec (.tblDataAccess m (some v)) s = .next
          (({ s with profiles := kvSet (tblDefault t a) s.profiles (tblKey bank t a) (v.toNat % 2 ^ tblBits t),
                     badBanks := if s.badBanks.contains bank then s.badBanks else bank :: s.badBanks } : State).bump
            Rg.pipeTblAddr m.val).settle) ∧
        (s.bankInUse bank = true → exec (.tblDataAccess m (some v)) s = .next
          (((s.wr Rg.pipeTblBusy 1).raise 451 0 0).bump Rg.pipeTblAddr m.val).settle)) ∧
      (s.granted m.val 0x140108 .look → a < tblWords t →
        exec (.tblDataAccess m none) s = .next ((s.bump Rg.pipeTblAddr m.val).answer m.val (s.tbl bank t a)).settle) ∧
      (s.granted m.val 0x14010C .run →
        (s.bankPasses bank = true → exec (.tableCommit m) s = .next
          ({ s.wr Rg.pipeTblError 0 with badBanks := s.badBanks.filter (fun b => b != bank) } : State).settle) ∧
        (s.bankPasses bank = false → exec (.tableCommit m) s = .next (s.wr Rg.pipeTblError 1).settle)) ∧
      (∀ n : LaneId, s.granted m.val (0x100840 + 0x1000 * n.val) .run →
        exec (.refFill m n) s = .next (s.wr Rg.lnFillPend 1 n.val).settle) ∧
      (∀ k : Fin 32, s.granted m.val 0x140280 .run → s.granted m.val 0x140280 .set →
        exec (.refClear m k) s = .next ({ s.wr Rg.pipeRefValid 0 k.val with
          refs := kvMod {} s.refs k.val (fun r => { r with half0 := {}, half1 := {} }) } : State).settle)) ∧
  (∀ (m : MasterId) (s : State), s.live = true →
      (∀ (n : LaneId) (k : Fin 4), s.granted m.val (0x100A00 + 0x1000 * n.val + 0x40 * k.val) .set →
        (s.rd Rg.osEn n.val k.val = 0 → 16 ≤ s.rd Rg.outLive →
          exec (.streamEnable m n k true) s = .next (s.raise 736 n.val (s.rd Rg.outLive)).settle) ∧
        (s.rd Rg.osEn n.val k.val = 0 → s.rd Rg.outLive < 16 → s.streamFit n.val k.val = true →
          exec (.streamEnable m n k true) s = .next (((s.wr Rg.osEn 1 n.val k.val).wr Rg.outLive (s.rd Rg.outLive + 1)).modStream
            n.val k.val (fun x => { x with start := true })).settle) ∧
        (s.rd Rg.osEn n.val k.val = 1 → exec (.streamEnable m n k false) s = .next
          ((s.wr Rg.osEn 0 n.val k.val).wr Rg.outLive (s.rd Rg.outLive - 1)).settle)) ∧
      (∀ (k : Fin 4) (v : Word), s.gateAt (0x1C0014 + 4 * k.val) = .pass → s.coefRight m.val .set = true →
        (s.rd Rg.osEn (s.rd Rg.outCoefLane m.val) (s.rd Rg.outCoefStream m.val) = 0 → exec (.coefDataWrite m k v) s = .next
          (let ph := s.rd Rg.outCoefPhase m.val
           let key (tap : Nat) := coefKey (s.rd Rg.outCoefLane m.val) (s.rd Rg.outCoefStream m.val) ph tap
           let even := kvSet (bilinear ph (2 * k.val)) s.coefs (key (2 * k.val)) (toSigned 12 (bits v.toNat 0 12))
           let both := kvSet (bilinear ph (2 * k.val + 1)) even (key (2 * k.val + 1)) (toSigned 12 (bits v.toNat 16 12))
           { s with coefs := both }).settle) ∧
        (s.rd Rg.osEn (s.rd Rg.outCoefLane m.val) (s.rd Rg.outCoefStream m.val) = 1 →
          (s.wr Rg.outCoefBusy 1).rd Rg.osEn (s.rd Rg.outCoefLane m.val) (s.rd Rg.outCoefStream m.val) = 1 →
          exec (.coefDataWrite m k v) s = .next ((s.wr Rg.outCoefBusy 1).wr Rg.outCoefBusy 1).settle))) ∧
  (∀ s : State,
      (s.live = true →
        (∀ (m : MasterId) (v : Option Word), exec (.tblDataAccess m v) s = .next (doTblDataAccess m v s).settle) ∧
        (∀ (m : MasterId), exec (.tableCommit m) s = .next (doTableCommit m s).settle) ∧
        (∀ (m : MasterId) (n : LaneId), exec (.refFill m n) s = .next (doRefFill m n s).settle) ∧
        (∀ (m : MasterId) (k : Fin 32), exec (.refClear m k) s = .next (doRefClear m k s).settle) ∧
        (∀ (m : MasterId) (n : LaneId) (k : Fin 4) (v : Bool),
          exec (.streamEnable m n k v) s = .next (doStreamEnable m n k v s).settle) ∧
        (∀ (m : MasterId) (k : Fin 4) (v : Word), exec (.coefDataWrite m k v) s = .next (doCoefDataWrite m k v s).settle)))

/-- A free Anvil takes the stripe that its order picks, and counts its cycles when it ends, with the tracks that it could not
open (R289); a reply of an earlier epoch of the Anvil is counted and reported with E0035, and changes nothing else; a
corrected SRAM read is counted and reported. The waiting candidate that stands first goes to the first idle core of an
unfenced Anvil, with E0530 for a corrected read of its SRAM; without one of the two, nothing happens. An attempt that ends
frees its core and counts. One that fails, or reaches its cost, resolves the candidate without a record; one that succeeds is
entered as a symbol with its grade; then the Billet's correspondents are brought up to date, and the Billet ends if nothing
else of it is open. A reply of an earlier epoch is discarded with E0035. Whatever their operands, these commands complete
wherever they are heard: FINDER_JOB_START, FINDER_JOB_DONE, SRAM_CORRECTED, CANDIDATE_DISPATCH, DECODE_DONE, DECODE_TIMEOUT.
Each answers a next state, that of its own effect, and the outputs follow it. -/
def Obligations.Decoding : Prop :=
  (∀ (a : Fin 8) (s : State), s.live = true →
      (∀ b : Billet, (s.anvil a.val).job = none → s.working = true → s.anvilUsable a.val = true →
        s.pickJob .finder Billet.finderNext (s.billets.filter (s.finderReady a.val)) = some b →
        exec (.finderJobStart a) s = .next (((((s.sramRead a.val).modAnvil a.val (fun x =>
          { x with job := some (b.ordinal, b.finderNext) })).modBillet b.ordinal (fun x =>
          { x with finderBusy := some b.finderNext })).jobStage .finder b.ordinal b.finderNext .running)).settle) ∧
      (∀ (e cy l r : Nat) (fs : List Found), e ≠ s.rd Rg.anvEpoch a.val →
        exec (.finderJobDone a e cy ⟨l, r⟩ fs) s = .next ((s.bumpSat Rg.evtStaleReplies).raiseLim 64 35 0 a.val 0).settle) ∧
      (∀ (o j cy r : Nat) (b : Billet), (s.anvil a.val).job = some (o, j) →
        let s0 := s.modAnvil a.val (fun x => { x with job := none })
        s0.billet? o = some b → b.cands = [] → b.extras = [] → b.refound = none → b.finderOpen = false →
        let s1 := (s0.wr Rg.anvFinderCycles (s0.rd Rg.anvFinderCycles a.val + min cy (finderCost b.bind j)) a.val).jobStage
          .finder o j .done
        let s2 := (s1.modBillet o (fun x => { x with finderBusy := none, finderNext := j + 1, openCands := 0 })).openLimit
          a.val o r
        exec (.finderJobDone a (s.rd Rg.anvEpoch a.val) cy ⟨0, r⟩ []) s = .next
          ((s2.wr Rg.anvOpen (s2.openHeld a.val) a.val).tryEnd o).settle) ∧
      (s.domainServes (anvilDomain a.val) = true →
        exec (.sramCorrected a) s = .next ((s.bumpSat Rg.anvSramCorr a.val).raiseCnt 64 530 a.val a.val).settle)) ∧
  (∀ s : State, s.live = true → s.working = true →
      (s.headWaiting = none ∨ s.idleCore = none → exec .candidateDispatch s = .next s.settle) ∧
      (∀ (w : Waiting) (a c : Nat), s.headWaiting = some w → s.idleCore = some (a, c) →
        exec .candidateDispatch s = .next (((((s.sramRead a).modAnvil a (fun x =>
          { x with cores := kvPut x.cores c (w.ordinal, w.num) })).modCand w.ordinal w.num (fun x =>
          { x with stage := .decoding a c s.now, front := false })).jobStage .decode w.ordinal 0 .running).coresSync
            a).settle)) ∧
  (∀ (a : Fin 8) (k : Fin 4) (o n : Nat) (b : Billet) (c : Cand) (g : GradeOut) (s : State), s.live = true →
      (s.anvil a.val).cores.find? (fun e => e.1 == k.val) = some (k.val, o, n) → s.billet? o = some b →
      b.cands.find? (fun c => c.num == n) = some c →
      let ended (t : State) := (t.each b.corrs State.gbSync).tryEnd o
      (∀ (out : DecodeOut) (r : Nat), out.fits c.found.family = true → b.judgeOut c.found out = .error r →
        exec (.decodeDone a k (s.rd Rg.anvEpoch a.val) out g) s = .next (ended ((s.freeCore a.val k.val).candFail b c r)).settle) ∧
      (∀ (out : DecodeOut) (f : Formed), out.fits c.found.family = true → b.judgeOut c.found out = .ok f →
        exec (.decodeDone a k (s.rd Rg.anvEpoch a.val) out g) s = .next (ended ((s.freeCore a.val k.val).candOk b c f g)).settle) ∧
      (∀ (e : Nat) (out : DecodeOut), e ≠ s.rd Rg.anvEpoch a.val → exec (.decodeDone a k e out g) s = .next
        ((s.bumpSat Rg.evtStaleReplies).raiseLim 64 35 0 a.val 0).settle) ∧
      (∀ (i j t : Nat), c.stage = .decoding i j t → exec (.decodeTimeout a k) s = .next
        (ended (((s.reach (t + ceilDiv (attemptCost b c * 250) (anvilMHz (s.rd Rg.pwActive)))).freeCore a.val k.val).candFail
          b c 5)).settle)) ∧
  (∀ s : State,
      (s.live = true →
        (∀ (a : Fin 8), exec (.finderJobStart a) s = .next (doFinderJobStart a s).settle) ∧
        (∀ (a : Fin 8) (epoch cycles : Nat) (tracks : OpenTracks) (found : List Found),
          exec (.finderJobDone a epoch cycles tracks found) s = .next (doFinderJobDone a epoch cycles tracks found s).settle) ∧
        (exec .candidateDispatch s = .next (doCandidateDispatch s).settle) ∧
        (∀ (a : Fin 8) (core : Fin 4) (epoch : Nat) (out : DecodeOut) (g : GradeOut),
          exec (.decodeDone a core epoch out g) s = .next (doDecodeDone a core epoch out g s).settle) ∧
        (∀ (a : Fin 8) (core : Fin 4), exec (.decodeTimeout a core) s = .next (doDecodeTimeout a core s).settle)) ∧
      (s.awake = true →
        (∀ (a : Fin 8), exec (.sramCorrected a) s = .next (doSramCorrected a s).settle)))

/-- A latency unit's oldest mark that finds no edge within the window is counted as unpaired, with E0745; a clear resets its
measures and forgets its marks and edges; a write of its channel, lane or enable first counts what waits as unpaired, and a
change of channel or enable begins without an earlier sample. A write of a lane's CONT_EN or REORDER_WIN starts its
continuity check afresh. Whatever their operands, these commands complete wherever they are heard: LATENCY_MARK_EXPIRY,
LATENCY_CLEAR, LATENCY_UNIT_WRITE, CONTINUITY_RESET. Each answers a next state, that of its own effect, and the outputs
follow it. -/
def Obligations.LatencyAndContinuity : Prop :=
  (∀ (u : Fin 4) (s : State), s.live = true →
      (∀ (t : Nat) (x : Nat) (ms : List (Nat × Nat)), (s.lat u.val).marks = (t, x) :: ms →
        let due := ((t : Int) + s.rd Rg.latWindow u.val + s.rdI Rg.latOffset u.val + 1).toNat
        let s1 := ((s.reach due).modLat u.val (fun y => { y with marks := ms })).addSat Rg.latUnpairedMark 1 u.val
        exec (.latencyMarkExpiry u) s = .next (s1.raiseLim 64 745 u.val
          (((s.reach due).modLat u.val (fun y => { y with marks := ms })).rd Rg.latLane u.val) 1).settle) ∧
      (∀ m : MasterId, s.granted m.val (latAddr u.val 0) .run → exec (.latencyClear m u) s = .next
        (((((s.wr Rg.latMin 0x7FFFFFFF u.val).wr Rg.latMax 0x80000000 u.val).wr Rg.latSum 0 u.val).wr Rg.latPairs 0 u.val).modLat
          u.val (fun y => { y with marks := [], edges := [] })).settle) ∧
      (∀ (m : MasterId) (w : Fin 3) (v : Fin 64) (f : Fld), s.granted m.val (latAddr u.val 0) .set →
        s.latMayName m.val w.val v.val = true → latFields[w.val]? = some f →
        exec (.latencyUnitWrite m u w v) s = .next
          (let t := (s.latFlush u.val).wr f v.val u.val
           if w.val ≠ 1 ∧ s.rd f u.val ≠ v.val then t.modLat u.val (fun x => { x with prev := none, armed := true })
           else t).settle)) ∧
  (∀ (m : MasterId) (n : LaneId) (v : Fin 64) (s : State), s.live = true → s.granted m.val (0x100D00 + 0x1000 * n.val) .set →
      exec (.continuityReset m n true v) s = .next ((s.wr Rg.lnReorderWin v.val n.val).modLane n.val (fun l =>
        { l with trackers := [], lastExamined := none })).settle ∧
      exec (.continuityReset m n false v) s = .next ((s.wr Rg.lnContEn v.val n.val).modLane n.val (fun l =>
        { l with trackers := [], lastExamined := none })).settle) ∧
  (∀ s : State,
      (s.live = true →
        (∀ (u : Fin 4), exec (.latencyMarkExpiry u) s = .next (doLatencyMarkExpiry u s).settle) ∧
        (∀ (m : MasterId) (u : Fin 4), exec (.latencyClear m u) s = .next (doLatencyClear m u s).settle) ∧
        (∀ (m : MasterId) (u : Fin 4) (which : Fin 3) (v : Fin 64),
          exec (.latencyUnitWrite m u which v) s = .next (doLatencyUnitWrite m u which v s).settle) ∧
        (∀ (m : MasterId) (n : LaneId) (win : Bool) (v : Fin 64),
          exec (.continuityReset m n win v) s = .next (doContinuityReset m n win v s).settle)))

/-- Field outputs: a write of OUT and the clear command act on the output at once; a pulse that is due starts if the output may
fire, and counts as a skip if not; it ends after its width (R366). VFIELD below 8.5 V ends what the outputs do, with FIELD 1
and E0960; above 38 V, with FIELD 2 and E0962; back between 9.5 V and its limit, with E0961, outputs without RESTORE stay off
until they are commanded again. Values are in units of 10 mV. The outputs are sampled 2,500 ticks after the last sample, and
an output whose readback asks for it starts the tie probe; with the field domain not serving, nothing is sampled. A tie-probe
step that finds either reading low latches TIED in both outputs, with E0944 and cause 4 for each. Whatever their operands,
these commands complete wherever they are heard: DOUT_OUT_WRITE, DOUT_CLEAR, DOUT_PULSE_START, DOUT_PULSE_END, DOUT_OVERLOAD,
RETRY_WAIT_END, FIELD_LOST, FIELD_OV, FIELD_OK, DOUT_SAMPLE, TIE_PROBE_STEP. Each answers a next state, that of its own
effect, and the outputs follow it. -/
def Obligations.FieldOutputs : Prop :=
  (∀ (n : LedId) (s : State), s.live = true →
      (∀ (m : MasterId) (v : Bool), s.granted m.val (0x400500 + 0x20 * n.val) .set → exec (.doutOutWrite m n v) s = .next
        ((s.wr Rg.doutOut (b2n v) n.val).doutRefresh n.val).settle) ∧
      (∀ m : MasterId, s.granted m.val (0x400500 + 0x20 * n.val) .run → exec (.doutClear m n) s = .next
        ((((((s.wr Rg.doutTied 0 n.val).wr Rg.doutBackfeed 0 n.val).wr Rg.doutOverload 0 n.val).wr Rg.doutRetries 0 n.val).modDout
          n.val (fun d => { d with off := .clear, retrying := false })).doutRefresh n.val).settle) ∧
      (∀ (p : Sched) (rest : List Sched), (s.dout n.val).pend = p :: rest → s.bellowsServes = true →
        let t := (s.reach p.start).modDout n.val (fun d => { d with pend := rest })
        (t.doutMay n.val = true → exec (.doutPulseStart n) s = .next ((t.modDout n.val (fun d =>
          { d with active := some { start := t.now, width := p.width } })).doutRefresh n.val).settle) ∧
        (t.doutMay n.val = false → exec (.doutPulseStart n) s = .next (t.bumpSat Rg.doutSkips n.val).settle)) ∧
      (∀ p : Sched, (s.dout n.val).active = some p → exec (.doutPulseEnd n) s = .next
        (((s.reach (p.start + p.width)).modDout n.val (fun d => { d with active := none })).doutRefresh n.val).settle) ∧
      ((s.dout n.val).on = true → s.bellowsServes = true → s.padHeld 4 = false →
        let r := offAfterFault s.now (s.rd Rg.doutRetry n.val) (s.rd Rg.doutRetries n.val) (s.dout n.val).retrying
        exec (.doutOverload n) s = .next ((((((s.modDout n.val (fun d =>
          { d with off := r.1, retrying := false, active := none })).wr Rg.doutRetries r.2 n.val).wr Rg.doutOverload 1 n.val).doutRefresh
            n.val).raise (944 + n.val) n.val 2)).settle) ∧
      (∀ t : Nat, (s.dout n.val).off = .waiting t → exec (.retryWaitEnd true n) s = .next
        (((s.reach t).modDout n.val (fun d => { d with off := .retryDue })).doutRefresh n.val).settle)) ∧
  (∀ (v : Nat) (s : State), s.live = true →
      (v < 850 → s.rd Rg.blwField ≠ 1 → exec (.fieldLost v) s = .next
        ((((s.wr Rg.blwVfieldMv v).wr Rg.blwField 1).fieldOff).raise 960 0 v).settle) ∧
      (3800 < v → v < 65536 → s.rd Rg.blwField ≠ 2 → exec (.fieldOv v) s = .next
        ((((s.wr Rg.blwVfieldMv v).wr Rg.blwField 2).fieldOff).raise 962 0 v).settle) ∧
      (950 < v → v < 3700 → s.rd Rg.blwField ≠ 0 → exec (.fieldOk v) s = .next
        (((((s.wr Rg.blwVfieldMv v).wr Rg.blwField 0).each (upto 8) (fun st n =>
          if st.rd Rg.doutRestore n = 1 then st else st.wr Rg.doutOut 0 n)).doutRefreshAll).raise 961 0 v).settle) ∧
      (850 ≤ v → exec (.fieldLost v) s = .next s.settle) ∧ (v ≤ 3800 → exec (.fieldOv v) s = .next s.settle)) ∧
  (∀ s : State, s.live = true →
      (∀ (a b : BitVec 8) (ma : List Nat), s.bellowsServes = true →
        let s0 := s.reach (s.blw.lastDoutSample + 2500)
        let s1 := State.doutScan { s0 with blw := { s0.blw with lastDoutSample := s0.now } } a.toNat b.toNat ma
        (s1.blw.probe.isSome = true ∨ s1.tieSuspects = [] → exec (.doutSample a b ma) s = .next s1.settle) ∧
        (∀ (n : Nat) (ns : List Nat), s1.blw.probe = none → s1.tieSuspects = n :: ns →
          exec (.doutSample a b ma) s = .next (s1.probeNext n (upto 8)).settle)) ∧
      (∀ (a b : BitVec 8) (ma : List Nat), s.bellowsServes = false → exec (.doutSample a b ma) s = .next s.settle) ∧
      (∀ (p : TieProbe) (x y : Bool), s.blw.probe = some p → (x && y) = false →
        let s1 := s.reach (p.start + 1250)
        exec (.tieProbeStep x y) s = .next
          (((((({ s1 with blw := { s1.blw with probe := none } } : State).wr Rg.doutTied 1 p.a).wr Rg.doutTied 1 p.b).modDout p.b
            (fun d => { d with probed := false })).raise (944 + min p.a p.b) (min p.a p.b) 4).raise (944 + max p.a p.b)
              (max p.a p.b) 4).settle) ∧
      (s.blw.probe = none → ∀ x y : Bool, exec (.tieProbeStep x y) s = .next s.settle)) ∧
  (∀ s : State,
      (s.live = true →
        (∀ (m : MasterId) (n : LedId) (v : Bool), exec (.doutOutWrite m n v) s = .next (doDoutOutWrite m n v s).settle) ∧
        (∀ (m : MasterId) (n : LedId), exec (.doutClear m n) s = .next (doDoutClear m n s).settle) ∧
        (∀ (n : LedId), exec (.doutPulseStart n) s = .next (doDoutPulseStart n s).settle) ∧
        (∀ (n : LedId), exec (.doutPulseEnd n) s = .next (doDoutPulseEnd n s).settle) ∧
        (∀ (n : LedId), exec (.doutOverload n) s = .next (doDoutOverload n s).settle) ∧
        (∀ (dout : Bool) (n : LedId), exec (.retryWaitEnd dout n) s = .next (doRetryWaitEnd dout n s).settle) ∧
        (∀ (readback reverse : BitVec 8) (mA : List Nat),
          exec (.doutSample readback reverse mA) s = .next (doDoutSample readback reverse mA s).settle) ∧
        (∀ (r1 r4 : Bool), exec (.tieProbeStep r1 r4) s = .next (doTieProbeStep r1 r4 s).settle)) ∧
      (s.awake = true →
        (∀ (v : Nat), exec (.fieldLost v) s = .next (doFieldLost v s).settle) ∧
        (∀ (v : Nat), exec (.fieldOv v) s = .next (doFieldOv v s).settle) ∧
        (∀ (v : Nat), exec (.fieldOk v) s = .next (doFieldOk v s).settle)))

/-- A write of an encoder's position makes it valid and may set the next line and the pitch; a pitch of 0 is no write. New levels
of the DIN pins: LEVEL follows them, each changed input takes its edge, and the encoders step on what changed. Whatever their
operands, these commands complete wherever they are heard: ENC_POS_WRITE, DIN_EDGE. Each answers a next state, that of its
own effect, and the outputs follow it. -/
def Obligations.FieldInputs : Prop :=
  (∀ (m : MasterId) (e : Fin 4) (pos : Word) (s : State), s.live = true → s.granted m.val (0x400700 + 0x20 * e.val) .set →
      exec (.encPosWrite m e pos none none) s = .next ((s.wr Rg.encPos pos.toNat e.val).wr Rg.encValid 1 e.val).settle ∧
      (∀ (v : Word) (p : BitVec 24), p.toNat ≠ 0 → exec (.encPosWrite m e pos (some v) (some p)) s = .next
        ((((s.wr Rg.encPos pos.toNat e.val).wr Rg.encValid 1 e.val).wr Rg.encNext v.toNat e.val).wr Rg.encPitch p.toNat
          e.val).settle) ∧
      (∀ v : Option Word, exec (.encPosWrite m e pos v (some 0)) s = .next s.settle)) ∧
  (∀ (l : BitVec 8) (s : State), s.live = true →
      let changed := (upto 8).filter (fun n => s.on Rg.dinLevel n != l.toNat.testBit n)
      let s2 := (s.each changed (fun st n => st.wr Rg.dinLevel (b2n (l.toNat.testBit n)) n)).each changed (fun st n =>
        st.dinEdge n (l.toNat.testBit n))
      (s.bellowsServes = false → exec (.dinEdge l) s = .next s2.settle) ∧
      (s.bellowsServes = true → exec (.dinEdge l) s = .next (s2.each (upto 4) (fun st e =>
        st.encStep e (s.now - s.dinDelay (if changed.contains (2 * e) then 2 * e else 2 * e + 1)) (s.on Rg.dinLevel (2 * e))
          (s.on Rg.dinLevel (2 * e + 1)) (l.toNat.testBit (2 * e)) (l.toNat.testBit (2 * e + 1)))).settle)) ∧
  (∀ s : State,
      (s.live = true →
        (∀ (m : MasterId) (e : Fin 4) (pos : Word) (next : Option Word) (pitch : Option (BitVec 24)),
          exec (.encPosWrite m e pos next pitch) s = .next (doEncPosWrite m e pos next pitch s).settle)) ∧
      (s.awake = true →
        (∀ (levels : BitVec 8), exec (.dinEdge levels) s = .next (doDinEdge levels s).settle)))

/-- Strobes: a write of a sink's settings that enables it is taken if the sink's timing fits and is dropped whole if not. A pulse
that is due starts at the sink's setpoint, or counts as a skip with its cause; it ends at its width with the measured current
and voltage, LOW_CURRENT below nine tenths and OPEN below one half with less than 0.3 V. A short turns the sink off with
E0928 + n; the clear command removes the latches, and the retry wait ends in a retry (R361, R378, R379, R626). Whatever their
operands, these commands complete wherever they are heard: STROBE_ENABLE, PULSE_START, PULSE_END, SINK_SHORT, LED_CLEAR. Each
answers a next state, that of its own effect, and the outputs follow it. -/
def Obligations.Strobes : Prop :=
  (∀ (n : LedId) (s : State), s.live = true →
      (∀ (m : MasterId) (en tr : Bool) (w : BitVec 22) (x : BitVec 4), s.granted m.val (0x400100 + 0x80 * n.val) .set →
        let t := (((s.wr Rg.ledEn (b2n en) n.val).wr Rg.ledWidth w.toNat n.val).wr Rg.ledMaxPulses x.toNat n.val).wr Rg.ledTrimEn
          (b2n tr) n.val
        (t.rd Rg.ledEn n.val = 1 → t.strobeFits n.val = true → exec (.strobeEnable m n en w x tr) s = .next t.settle) ∧
        (t.rd Rg.ledEn n.val = 1 → t.strobeFits n.val = false → exec (.strobeEnable m n en w x tr) s = .next s.settle) ∧
        (t.rd Rg.ledEn n.val = 0 → exec (.strobeEnable m n en w x tr) s = .next (t.ledDisable n.val).settle)) ∧
      (∀ (p : Sched) (rest : List Sched), (s.led n.val).pend = p :: rest → s.bellowsServes = true →
        let t := (s.reach p.start).modLed n.val (fun l => { l with pend := rest })
        (t.fieldOk = false → exec (.pulseStart n) s = .next ((t.modLed n.val (fun l =>
          { l with starts := l.starts.erase p.start })).ledSkip n.val 3).settle) ∧
        (t.fieldOk = true → (t.led n.val).off = .clear → t.padHeld 3 = false → 50 ≤ t.ledSetpoint n.val → t.evt.armed = [] →
          let a : ActivePulse := { start := t.now, stop := t.now + p.width, current := t.ledSetpoint n.val, retry := false }
          exec (.pulseStart n) s = .next ((((t.modLed n.val (fun l => { l with active := some a })).bump
            Rg.ledPulses n.val).litAdd t.now (t.now + p.width)).doutRefreshAll).settle)) ∧
      (∀ (a : ActivePulse) (i v : Nat), (s.led n.val).active = some a → a.forced = false → a.retry = false →
        9 * a.current ≤ 10 * min i 4095 → exec (.pulseEnd n i v) s = .next (((((s.reach a.stop).modLed n.val (fun l =>
          { l with active := none, lastEnd := some (max s.now a.stop) })).wr Rg.ledIMeas (min i 4095) n.val).wr Rg.ledVSink
            (min (v / 200) 255) n.val).doutRefreshAll).settle) ∧
      (∀ t : Nat, s.shortDue n.val = some t → s.ledPartner n.val = none → exec (.sinkShort n) s = .next
        (((s.reach t).ledShortOff n.val).raise (928 + n.val) n.val 4).settle) ∧
      (∀ m : MasterId, s.granted m.val (0x400100 + 0x80 * n.val) .run → exec (.ledClear m n) s = .next
        (((((s.wr Rg.ledShort 0 n.val).wr Rg.ledRetries 0 n.val).modLed n.val (fun l => { l with off := .clear })).wr Rg.ledOpenF 0
          n.val).wr Rg.ledLowCurrent 0 n.val).settle) ∧
      (∀ t : Nat, (s.led n.val).off = .waiting t → exec (.retryWaitEnd false n) s = .next
        ((s.reach t).modLed n.val (fun l => { l with off := .retryDue })).settle)) ∧
  (∀ s : State,
      (s.live = true →
        (∀ (m : MasterId) (n : LedId) (en : Bool) (width : BitVec 22) (maxPulses : BitVec 4) (trimEn : Bool),
          exec (.strobeEnable m n en width maxPulses trimEn) s = .next (doStrobeEnable m n en width maxPulses trimEn s).settle) ∧
        (∀ (n : LedId), exec (.pulseStart n) s = .next (doPulseStart n s).settle) ∧
        (∀ (n : LedId) (iMeas vSink : Nat), exec (.pulseEnd n iMeas vSink) s = .next (doPulseEnd n iMeas vSink s).settle) ∧
        (∀ (n : LedId), exec (.sinkShort n) s = .next (doSinkShort n s).settle) ∧
        (∀ (m : MasterId) (n : LedId), exec (.ledClear m n) s = .next (doLedClear m n s).settle)))

/-- Quench and trim: a sample that does not come in time sets the sink's fault step, with QFAULT and E0969 + n; the trim flash
that is due lights the sink for 10,000 ticks and is then measured, unless its channel cannot; a capture command marks the
sink. Whatever their operands, these commands complete wherever they are heard: QUENCH_TIMEOUT, TRIM_FLASH_START,
TRIM_FLASH_END, TRIM_CAPTURE. Each answers a next state, that of its own effect, and the outputs follow it. -/
def Obligations.QuenchAndTrim : Prop :=
  (∀ (n : LedId) (s : State), s.live = true →
      (s.rd Rg.ledQen n.val = 1 → s.bellowsServes = true → exec (.quenchTimeout n) s = .next
        ((s.reach ((s.led n.val).lastSample + msTicks (max 1 (s.rd Rg.ledQTimeout n.val)))).quenchFault n.val).settle) ∧
      (∀ t k : Nat, s.bellowsServes = true → s.flashAt n.val = some (t, k) →
        let u := (s.reach t).bump Rg.ledTrimFlashes n.val
        exec (.trimFlashStart n) s = .next ((u.modLed n.val (fun l =>
          { l with flash := some { start := t, current := s.ledIT n.val, slot := k },
                   flashDue := some (u.period + max 1 (u.rd Rg.ledTrimEvery n.val)) })).litAdd t (t + 10000)).settle) ∧
      (∀ f : Flash, (s.led n.val).flash = some f →
        let u := (s.reach (f.start + 10000)).modLed n.val (fun l => { l with flash := none })
        let c := s.rd Rg.ledTrimChan n.val
        (s.rd Rg.saEn c = 0 → exec (.trimFlashEnd n) s = .next ((u.bumpSat Rg.ledTrimBad n.val).raiseLim 64 921 n.val n.val
          0).settle) ∧
        (s.rd Rg.saEn c = 1 → s.rd Rg.saPreset c ≠ 3 → s.rd Rg.saBlank c < 2 → exec (.trimFlashEnd n) s = .next
          (u.modLed n.val (fun l => { l with measure := some f })).settle)) ∧
      (∀ m : MasterId, s.granted m.val (0x400100 + 0x80 * n.val) .run → exec (.trimCapture m n) s = .next
        (s.modLed n.val (fun l => { l with capture := true })).settle)) ∧
  (∀ s : State,
      (s.live = true →
        (∀ (n : LedId), exec (.quenchTimeout n) s = .next (doQuenchTimeout n s).settle) ∧
        (∀ (n : LedId), exec (.trimFlashStart n) s = .next (doTrimFlashStart n s).settle) ∧
        (∀ (n : LedId), exec (.trimFlashEnd n) s = .next (doTrimFlashEnd n s).settle) ∧
        (∀ (m : MasterId) (n : LedId), exec (.trimCapture m n) s = .next (doTrimCapture m n s).settle)))

/-- A full rotation begins at its due instant, in an idle SFE, with the next group of the order: modulator 8 begins its own
calibration (R483, R506); CAL NOW asks for one when no rotation runs; one that is due while the last still runs is late once,
with E0919. Each calibration job that ends gives two pairs; CAL_STEP counts the steps, and after 384 pairs the calibration
ends. Whatever their operands, these commands complete wherever they are heard: ROTATION_BEGIN, CAL_NOW, CAL_STEP. Each
answers a next state, that of its own effect, and the outputs follow it. -/
def Obligations.Rotation : Prop :=
  (∀ s : State, s.live = true → s.domainUp 4 = true →
      (∀ (k t : Nat), s.rd Rg.calPhase = 0 → s.rd Rg.calParked = 0 → s.sfe.rot.stopped = false → s.sfe.rot.now = false →
        s.rd Rg.calRotEn = 1 → s.sfe.rot.lastBegin = some t → s.rotGroup s.sfe.rot.nextGroup = some k →
        let u := s.reach (t + msTicks s.rotInterval)
        exec .rotationBegin s = .next (((u.modRot (fun r =>
          { r with lastBegin := some u.now, now := false, late := false })).wr Rg.calGroup k).calBegin 1 8).settle) ∧
      (∀ t : Nat, s.rd Rg.calPhase ≠ 0 → s.rd Rg.calRotEn = 1 → s.sfe.rot.late = false → s.sfe.rot.lastBegin = some t →
        t + msTicks s.rotInterval ≤ s.now → exec .rotationBegin s = .next (((s.bumpSat Rg.calLate).raise 919 (s.rd Rg.calGroup)
          0).modRot (fun r => { r with late := true })).settle) ∧
      (∀ m : MasterId, s.granted m.val 0x3C2000 .run →
        (s.rd Rg.calPhase = 0 → exec (.calNow m) s = .next (s.modRot (fun r => { r with now := true })).settle) ∧
        (s.rd Rg.calPhase ≠ 0 → exec (.calNow m) s = .next s.settle))) ∧
  (∀ (p q : BitVec 18) (c : ModCal) (s : State), s.live = true → s.sfe.rot.cal = some c →
      s.jobs.filter isCalJob ≠ [] → (s.jobs.filter isCalJob).any (fun j => decide (s.period < j.row)) = false →
      let c1 : ModCal := { c with pairs := toSigned 18 q.toNat :: toSigned 18 p.toNat :: c.pairs }
      let s1 : State := { s with jobs := s.jobs.filter (fun j => !isCalJob j) }
      (c1.pairs.length < 384 → exec (.calStep p q) s = .next
        ((s1.wr Rg.calStep (c1.pairs.length / 2)).modRot (fun r => { r with cal := some c1 })).settle) ∧
      (384 ≤ c1.pairs.length → exec (.calStep p q) s = .next (s1.calEnd c1).settle)) ∧
  (∀ s : State,
      (s.live = true →
        (exec .rotationBegin s = .next (doRotationBegin s).settle) ∧
        (∀ (m : MasterId), exec (.calNow m) s = .next (doCalNow m s).settle) ∧
        (∀ (p q : BitVec 18), exec (.calStep p q) s = .next (doCalStep p q s).settle)))

/-- A channel check begins at the next slot of its channel, and a request makes it due; one that ends writes the loop impedance
and counts, as the excitation source of the channel decides what it tests. Whatever their operands, these commands complete
wherever they are heard: CHECK_NOW, CHECK_START, CHECK_END. Each answers a next state, that of its own effect, and the
outputs follow it. -/
def Obligations.ChannelChecks : Prop :=
  (∀ (n : ChanId) (s : State), s.live = true →
      (∀ (m : MasterId), s.granted m.val (sfeAddr n.val 8) .run → s.chanOn n.val = true → s.rd Rg.sfeToneEn = 1 →
        s.rd Rg.saCheckS n.val ≠ 0 → exec (.checkNow m n) s = .next
          (s.modChan n.val (fun c => { c with checkDue := true })).settle) ∧
      (∀ k : Nat, s.chanRuns n.val = true → s.rd Rg.sfeToneEn = 1 → s.rd Rg.saCheckS n.val ≠ 0 → s.rd Rg.saChecking n.val = 0 →
        s.handingOver n.val = false → (s.chan n.val).checkDue = true → s.nextSlot n.val (ceilDiv s.now 31250) = some k →
        exec (.checkStart n) s = .next (((s.reach (31250 * k)).wr Rg.saChecking 1 n.val).modChan n.val (fun c =>
          { c with checkStart := some (31250 * k), checkDue := false })).settle) ∧
      (∀ (z i : Word) (t : Nat), s.rd Rg.saChecking n.val = 1 → (s.chan n.val).checkStart = some t → s.rd Rg.saExcSel n.val = 0 →
        10 * s.rd Rg.saZShort n.val ≤ z.toNat → z.toNat ≤ 10 * s.rd Rg.saZOpen n.val → z.toNat ≠ 0xFFFFFFFF →
        let u := (((s.reach (s.checkStop n.val t)).wr Rg.saChecking 0 n.val).wr Rg.saZLast z.toNat n.val).bump Rg.saChecks n.val
        let a := u.checkBit Rg.saOpenF n.val false false (s.chan n.val).passOpen
        let b := a.1.checkBit Rg.saShort n.val false false (s.chan n.val).passShort
        let d := (b.1.modChan n.val (fun c => { c with passOpen := a.2, passShort := b.2 })).checkBit Rg.saLeak n.val false false
          (s.chan n.val).passLeak
        exec (.checkEnd n z i) s = .next ((d.1.modChan n.val (fun c => { c with passLeak := d.2 })).rotAdvance).settle)) ∧
  (∀ s : State,
      (s.live = true →
        (∀ (m : MasterId) (n : ChanId), exec (.checkNow m n) s = .next (doCheckNow m n s).settle) ∧
        (∀ (n : ChanId), exec (.checkStart n) s = .next (doCheckStart n s).settle) ∧
        (∀ (n : ChanId) (z : Word) (iDiff : Word), exec (.checkEnd n z iDiff) s = .next (doCheckEnd n z iDiff s).settle)))

/-- A channel that is off takes the lowest free positions of its group when it is enabled, and starts; without enough of them
nothing happens. Disabling it ends its check and its sample, and lets a rotation go on. A write of routing fields is one
whole: taken if each field may change now and the routing that results is legal, and dropped whole if not. The limits: a
source in voltage mode that limits latches LIMIT, raises E0856 + x with cause 4, and faults the channels that select it; a
bias that limits latches its bit; a guard that limits latches LIMIT and raises E0884 + g with 1; the source's latch is
cleared by a write of 1. The flicker lock starts when it is enabled on a channel that runs under DASH or BRISK, and is
refused on any other channel; disabling it ends the lock (R499). Whatever their operands, these commands complete wherever
they are heard: SFE_CHANNEL_ENABLE, SFE_CHANNEL_DISABLE, SFE_ROUTING_WRITE, EXC_LIMIT, EXC_LIMIT_CLEAR, BIAS_LIMIT,
GUARD_LIMIT, FLK_EN_WRITE. Each answers a next state, that of its own effect, and the outputs follow it. -/
def Obligations.SfeFrontEnd : Prop :=
  (∀ (m : MasterId) (n : ChanId) (s : State), s.live = true → s.granted m.val (sfeAddr n.val 0) .set →
      (s.chanOn n.val = false → s.freeSlots (n.val % 8) (presetPositions (s.rd Rg.saPreset n.val)) = none →
        exec (.sfeChannelEnable m n) s = .next s.settle) ∧
      (∀ w : Nat, s.chanOn n.val = false → s.freeSlots (n.val % 8) (presetPositions (s.rd Rg.saPreset n.val)) = some w →
        let t := ((s.wr Rg.saEn 1 n.val).wr Rg.saSlots w n.val).wr Rg.saMod (s.groupMod (n.val % 8)) n.val
        (t.routingLegal = true → exec (.sfeChannelEnable m n) s = .next (t.chanStart n.val).pinSync.settle) ∧
        (t.routingLegal = false → exec (.sfeChannelEnable m n) s = .next s.settle)) ∧
      (s.chanOn n.val = true →
        let t := (((s.wr Rg.saEn 0 n.val).wr Rg.saSlots 0 n.val).checkAbandon n.val).modChan n.val (fun c => { last := c.last })
        exec (.sfeChannelDisable m n) s = .next
          ((State.pinSync { t with sfe := { t.sfe with rot := { t.sfe.rot with toMove := t.sfe.rot.toMove.erase n.val } } }).rotAdvance).settle)) ∧
  (∀ (m : MasterId) (e : RouteFld × Word) (l : List (RouteFld × Word)) (s : State), s.live = true →
      (∀ x ∈ e :: l, s.rightAt m.val x.1.addr .set = true) → s.gateAt e.1.addr = .pass →
      let ups := ((e :: l).filter (fun x => x.1.there)).map (fun x => (x.1, x.2.toNat))
      let t := s.each ups (fun st x => st.wr x.1.fld x.2 x.1.idx)
      ((ups.all (fun x => s.routeOpen x.1) = true ∧ t.routingLegal = true →
        exec (.sfeRoutingWrite m (e :: l)) s = .next t.pinSync.settle) ∧
       (ups.all (fun x => s.routeOpen x.1) = false ∨ t.routingLegal = false →
        exec (.sfeRoutingWrite m (e :: l)) s = .next s.settle))) ∧
  (∀ s : State, s.live = true → s.domainUp 4 = true →
      (∀ x : Fin 4, s.rd Rg.excMode x.val = 2 → s.rd Rg.excLimit x.val = 0 →
        let t := (s.wr Rg.excLimit 1 x.val).raise (856 + x.val) x.val 4
        exec (.excLimit x) s = .next (t.each (t.selecting x.val) (fun st n =>
          (st.chanFault Rg.saShort 1 n).checkCut n)).settle) ∧
      (∀ (m : MasterId) (x : Fin 4), s.granted m.val (0x3A0808 + 0x20 * x.val) .run →
        exec (.excLimitClear m x) s = .next (s.wr Rg.excLimit 0 x.val).settle) ∧
      (∀ p : Fin 16, s.rd Rg.xpBias p.val ≠ 0 → exec (.biasLimit p) s = .next (s.wr Rg.xpBiasLimit 1 p.val).settle) ∧
      (∀ g : Fin 4, s.rd Rg.grdEn g.val = 1 →
        exec (.guardLimit g) s = .next ((s.wr Rg.grdLimit 1 g.val).raise (884 + g.val) g.val 1).settle)) ∧
  (∀ (m : MasterId) (s : State), s.live = true → s.granted m.val 0x3C2100 .set →
      ((s.flkChanOk && s.chanOn (s.rd Rg.flkChan)) = true → s.rd Rg.flkEn = 0 →
        exec (.flkEnWrite m true) s = .next (s.wr Rg.flkEn 1).flkStart.settle) ∧
      ((s.flkChanOk && s.chanOn (s.rd Rg.flkChan)) = false → exec (.flkEnWrite m true) s = .next s.settle) ∧
      exec (.flkEnWrite m false) s = .next ((s.wr Rg.flkEn 0).wr Rg.flkLocked 0).flkSteps.settle) ∧
  (∀ s : State,
      (s.live = true →
        (∀ (m : MasterId) (n : ChanId), exec (.sfeChannelEnable m n) s = .next (doSfeChannelEnable m n s).settle) ∧
        (∀ (m : MasterId) (n : ChanId), exec (.sfeChannelDisable m n) s = .next (doSfeChannelDisable m n s).settle) ∧
        (∀ (m : MasterId) (l : List (RouteFld × Word)),
          exec (.sfeRoutingWrite m l) s = .next (doSfeRoutingWrite m l s).settle) ∧
        (∀ (x : Fin 4), exec (.excLimit x) s = .next (doExcLimit x s).settle) ∧
        (∀ (m : MasterId) (x : Fin 4), exec (.excLimitClear m x) s = .next (doExcLimitClear m x s).settle) ∧
        (∀ (p : Fin 16), exec (.biasLimit p) s = .next (doBiasLimit p s).settle) ∧
        (∀ (g : Fin 4), exec (.guardLimit g) s = .next (doGuardLimit g s).settle) ∧
        (∀ (m : MasterId) (v : Bool), exec (.flkEnWrite m v) s = .next (doFlkEnWrite m v s).settle)))

/-- Filter banks: the FIR window steps its address at each access and writes a tap of a bank out of use; a commit gives a bank a
length from 1 to 128, and any other length is an error; an exchange waits for the channel's next boundary while it runs and
happens at once in one that is off, and needs a valid bank. Linearisation banks: the same for their window, their commit and
their exchange; a bank in use sets BUSY and raises E0912. Whatever their operands, these commands complete wherever they are
heard: FIR_DATA_ACCESS, FIR_COMMIT, FIR_SWAP, LIN_DATA_ACCESS, LIN_COMMIT, LIN_SWAP. Each answers a next state, that of its
own effect, and the outputs follow it. -/
def Obligations.SfeBanks : Prop :=
  (∀ (m : MasterId) (s : State), s.live = true →
      let n := s.rd Rg.firSelChan m.val
      let b := s.rd Rg.firSelBank m.val
      let a := s.rd Rg.firAddr m.val
      (s.gateAt 0x3C1008 = .pass → n < 24 →
        (∀ v : BitVec 24, s.firRight m.val .set = true → s.firInUse n b = false →
          let t := s.setTap n b a (toSigned 24 v.toNat)
          exec (.firDataAccess m (some v)) s = .next (({ t with sfe := { t.sfe with
            badFir := (2 * n + b) :: t.sfe.badFir.erase (2 * n + b) } } : State).bump Rg.firAddr m.val).settle) ∧
        (∀ v : BitVec 24, s.firRight m.val .set = true → s.firInUse n b = true → exec (.firDataAccess m (some v)) s = .next
          (((s.wr Rg.bankBusy 1).raise 912 0 0).bump Rg.firAddr m.val).settle) ∧
        (s.firRight m.val .look = true → exec (.firDataAccess m none) s = .next
          ((s.bump Rg.firAddr m.val).answer m.val (ofSigned 24 (s.tap n b a))).settle)) ∧
      (∀ len : BitVec 8, s.granted m.val 0x3C100C .run → s.granted m.val 0x3C100C .set → n < 24 → s.firInUse n b = false →
        (1 ≤ len.toNat → len.toNat ≤ 128 →
          let t := (s.wr (if b = 0 then Rg.sdFirLen0 else Rg.sdFirLen1) len.toNat n).wr Rg.bankError 0
          exec (.firCommit m len) s = .next
            ({ t with sfe := { t.sfe with badFir := t.sfe.badFir.erase (2 * n + b) } } : State).settle) ∧
        (len.toNat = 0 ∨ 128 < len.toNat → exec (.firCommit m len) s = .next (s.wr Rg.bankError 1).settle)) ∧
      (∀ len : BitVec 8, s.granted m.val 0x3C100C .run → s.granted m.val 0x3C100C .set → 24 ≤ n ∨ s.firInUse n b = true →
        exec (.firCommit m len) s = .next ((s.wr Rg.bankBusy 1).raise 912 0 0).settle) ∧
      (∀ (c : ChanId) (v : Bool), s.granted m.val (sfeDigAddr c.val 0x14) .run →
        s.firValid c.val (1 - s.rd Rg.sdFirActive c.val) = false → exec (.firSwap m c 0 v) s = .next s.settle) ∧
      (∀ (c : ChanId) (v : Bool), s.granted m.val (sfeDigAddr c.val 0x14) .set →
        exec (.firSwap m c 2 v) s = .next ((s.wr Rg.sdMinph (b2n v) c.val).chanNote c.val Rg.sdMinph).settle ∧
        (v = false → exec (.firSwap m c 1 v) s = .next ((s.wr Rg.sdFirSrc 0 c.val).chanNote c.val Rg.sdFirSrc).settle)) ∧
      (∀ (c : ChanId) (v : Bool), s.granted m.val (sfeDigAddr c.val 0x14) .run →
        s.firValid c.val (1 - s.rd Rg.sdFirActive c.val) = true →
        (s.chanOn c.val = true → exec (.firSwap m c 0 v) s = .next
          (s.modChan c.val (fun x => { x with firSwapAt := x.firSwapAt.orElse (fun _ => some s.now) })).settle) ∧
        (s.chanOn c.val = false → exec (.firSwap m c 0 v) s = .next
          (s.wr Rg.sdFirActive (1 - s.rd Rg.sdFirActive c.val) c.val).settle))) ∧
  (∀ (m : MasterId) (s : State), s.live = true →
      let bank := s.rd Rg.linSelBank m.val
      let kind := s.rd Rg.linSelKind m.val
      let table := s.rd Rg.linSelTable m.val % 16
      let a := s.rd Rg.linAddr m.val
      (∀ v : Word, s.granted m.val 0x3C1018 .set →
        (s.linInUse bank = false → a < linWords kind → exec (.linDataAccess m (some v)) s = .next
          (({ s with sfe := { s.sfe with lin := kvSet (linReset kind a) s.sfe.lin (linKey bank kind table a) v.toNat,
                                         badLin := bank :: s.sfe.badLin.erase bank } } : State).bump Rg.linAddr m.val).settle) ∧
        (s.linInUse bank = true → exec (.linDataAccess m (some v)) s = .next
          (((s.wr Rg.bankBusy 1).raise 912 0 0).bump Rg.linAddr m.val).settle)) ∧
      (s.granted m.val 0x3C1018 .look → a < linWords kind → exec (.linDataAccess m none) s = .next
        ((s.bump Rg.linAddr m.val).answer m.val (s.linWord bank kind table a)).settle) ∧
      (∀ np : BitVec 7, s.granted m.val 0x3C101C .run → s.granted m.val 0x3C101C .set →
        (s.linInUse bank = true → exec (.linCommit m np) s = .next ((s.wr Rg.bankBusy 1).raise 912 0 0).settle) ∧
        (s.linInUse bank = false →
          let t := if kind = 0 then s.linSetPoints bank table np.toNat else s
          (t.linPasses bank = true → exec (.linCommit m np) s = .next
            ({ t.wr Rg.bankError 0 with sfe := { t.sfe with badLin := t.sfe.badLin.erase bank } } : State).settle) ∧
          (t.linPasses bank = false → exec (.linCommit m np) s = .next (t.wr Rg.bankError 1).settle))) ∧
      (∀ n : ChanId, s.granted m.val (sfeDigAddr n.val 0x1C) .run → s.linValid (1 - s.rd Rg.sdLinBank n.val) = false →
        exec (.linSwap m n) s = .next s.settle) ∧
      (∀ n : ChanId, s.granted m.val (sfeDigAddr n.val 0x1C) .run → s.linValid (1 - s.rd Rg.sdLinBank n.val) = true →
        (s.chanOn n.val = true → exec (.linSwap m n) s = .next
          (s.modChan n.val (fun x => { x with linSwapAt := x.linSwapAt.orElse (fun _ => some s.now) })).settle) ∧
        (s.chanOn n.val = false → exec (.linSwap m n) s = .next
          (s.wr Rg.sdLinBank (1 - s.rd Rg.sdLinBank n.val) n.val).settle))) ∧
  (∀ s : State,
      (s.live = true →
        (∀ (m : MasterId) (v : Option (BitVec 24)), exec (.firDataAccess m v) s = .next (doFirDataAccess m v s).settle) ∧
        (∀ (m : MasterId) (len : BitVec 8), exec (.firCommit m len) s = .next (doFirCommit m len s).settle) ∧
        (∀ (m : MasterId) (n : ChanId) (which : Fin 3) (v : Bool),
          exec (.firSwap m n which v) s = .next (doFirSwap m n which v s).settle) ∧
        (∀ (m : MasterId) (v : Option Word), exec (.linDataAccess m v) s = .next (doLinDataAccess m v s).settle) ∧
        (∀ (m : MasterId) (np : BitVec 7), exec (.linCommit m np) s = .next (doLinCommit m np s).settle) ∧
        (∀ (m : MasterId) (n : ChanId), exec (.linSwap m n) s = .next (doLinSwap m n s).settle)))

/-- A sample is posted at its instant; its result words are the value, its range tag, its flags, the next sequence number and its
stamp. A half of all slots ends 15,625 ticks after it began, in a domain that is up. A read of RESULT_0 returns the value,
copies the other three words of the same sample into the master's SFE holding register under the channel and clears its
STALE. A read of RESULT_1, RESULT_2 or RESULT_3 is answered from that register if it holds this channel's sample, and with
the channel's live word if not; it is fresh if the register holds this channel's sample and this is the master's first read
of that word since; one that is not fresh sets STALE, and STALE is returned in bit 31 of RESULT_1 and RESULT_3. RESULT_1
holds the range tag in [30:28], FLAGS in [27:16] and SEQ in [15:0], RESULT_2 the stamp's low 32 bits and RESULT_3 its bits
[62:32] (R464, R465). A read of RESULT_0 on the tick of a post returns the sample before it (R467). Whatever their operands,
these commands complete wherever they are heard: SFE_SAMPLE, SFE_SLOT_HALF, RESULT_0_READ, RESULT_WORD_READ. Each answers a
next state, that of its own effect, and the outputs follow it. -/
def Obligations.SfeResults : Prop :=
  ((∀ (n : ChanId) (d : SampleDue) (s : State), s.live = true → (s.chan n.val).due = some d →
      exec (.sfeSample n) s = .next (((s.reach d.stamp).modChan n.val (fun c => { c with due := none })).postSample n.val
        d).settle) ∧
    (∀ (n tag flags stamp : Nat) (y : Int) (s : State), n < 24 → tag < 8 → flags < 2 ^ Rg.sdFlags.width →
      let t := s.postResult n y tag flags stamp
      t.rd Rg.sdTag n = tag ∧ t.rd Rg.sdFlags n = flags ∧ t.rd Rg.sdStamp n = stamp % 2 ^ 63 ∧
      t.rd Rg.sdSeq n = (s.rd Rg.sdSeq n + 1) % 2 ^ Rg.sdSeq.width ∧ t.now = s.now) ∧
    (∀ (xs : List HalfIn) (v : BitVec 24) (f : BitVec 4) (s : State), s.live = true →
      (s.domainUp 4 = false → exec (.sfeSlotHalf xs v f) s = .next s.settle) ∧
      (s.domainUp 4 = true → exec (.sfeSlotHalf xs v f) s = .next
        (let u0 := (s.each (upto 24) State.samplePost).reach (15625 * (s.nextHalf + 1))
         let u : State := if s.nextHalf % 2 = 0 then { u0 with sfe := { u0.sfe with half0 := [] } } else u0
         let w := (u.each ((upto 24).filter v.toNat.testBit) State.overvolt).each xs (fun st x => st.halfOf s.nextHalf x)
         let z := (w.each (upto 4) (fun st x => st.complyHalf f.toNat x)).excReverse (s.nextHalf + 1)
         { z with sfe := { z.sfe with lastHalf := some s.nextHalf } }).settle))) ∧
  (∀ (m : MasterId) (n : ChanId) (s : State), s.live = true →
      s.resultWord n.val 1 = s.rd Rg.sdTag n.val * 2 ^ 28 + s.rd Rg.sdFlags n.val * 2 ^ 16 + s.rd Rg.sdSeq n.val ∧
      s.resultWord n.val 2 = s.rd Rg.sdStamp n.val % 2 ^ 32 ∧ s.resultWord n.val 3 = s.rd Rg.sdStamp n.val / 2 ^ 32 ∧
      (s.granted m.val (sfeDigAddr n.val 0) .look →
        ((∀ w, (s.chan n.val).before = some w → w.postedAt ≠ s.now) → exec (.result0Read m n) s = .next
          ((s.modHold m.val (fun _ => { held := some (n.val, s.resultWord n.val 1, s.resultWord n.val 2,
                                                      s.resultWord n.val 3) })).answer m.val (s.rd Rg.sdValue n.val)).settle) ∧
        (∀ w, (s.chan n.val).before = some w → w.postedAt = s.now → exec (.result0Read m n) s = .next
          ((s.modHold m.val (fun _ => { held := some (n.val, w.word1, w.word2, w.word3) })).answer m.val w.word0).settle)) ∧
      (∀ w : Fin 3, s.granted m.val (sfeDigAddr n.val (4 * (w.val + 1))) .look →
        let h := kvGet {} s.acc.sfeHolding m.val
        let reply (word : Nat) (stale : Bool) : Prop := exec (.resultWordRead m n w) s = .next
          ((s.modHold m.val (fun x => { x with stale := stale, seen := (w.val + 1) :: x.seen.erase (w.val + 1) })).answer m.val
            (if w.val = 1 then word else word % 2 ^ 31 + (if stale then 2 ^ 31 else 0))).settle
        (∀ a b c : Nat, h.held = some (n.val, a, b, c) →
          reply (if w.val = 0 then a else if w.val = 1 then b else c) (h.stale || h.seen.contains (w.val + 1))) ∧
        ((h.held = none ∨ ∃ c x, h.held = some (c, x) ∧ c ≠ n.val) → reply (s.resultWord n.val (w.val + 1)) true))) ∧
  (∀ s : State,
      (s.live = true →
        (∀ (n : ChanId), exec (.sfeSample n) s = .next (doSfeSample n s).settle) ∧
        (∀ (xs : List HalfIn) (beyond : BitVec 24) (failing : BitVec 4),
          exec (.sfeSlotHalf xs beyond failing) s = .next (doSfeSlotHalf xs beyond failing s).settle) ∧
        (∀ (m : MasterId) (n : ChanId), exec (.result0Read m n) s = .next (doResult0Read m n s).settle) ∧
        (∀ (m : MasterId) (n : ChanId) (w : Fin 3),
          exec (.resultWordRead m n w) s = .next (doResultWordRead m n w s).settle)))

/-- A ring is armed if the conditions of its ARM hold and changes nothing if they do not; disarming a ring without a batch ends
it at once, and waits for an open batch to end. A batch takes up to 64 records of the correspondent whose turn it is, as many
as the ring has room for, a CONS write of the same tick not counted (R552); its producer index runs on by as many, and its
INTENT entry is asked for before anything is written (R102). The flushing read of an open batch's last write asks for its
COMPLETE entry. A consumer index beyond the producer index is counted, reported with E0645 and not taken. Whatever their
operands, these commands complete wherever they are heard: RING_ARM, RING_DISARM, DELIVER_BATCH, FLUSH_READ_COMPLETE,
COALESCE_TIMEOUT, RING_CONS_WRITE. Each answers a next state, that of its own effect, and the outputs follow it. -/
def Obligations.Rings : Prop :=
  (∀ (m : MasterId) (r : RingId) (pages : List Nat) (s : State), s.live = true → s.granted m.val (0x340000 + 0x40 * r.val) .set →
      (s.rd Rg.ringArm r.val = 0 → s.armOk r.val = true → exec (.ringArm m r pages) s = .next (s.ringRebuild r.val pages).settle) ∧
      (s.armOk r.val = false → exec (.ringArm m r pages) s = .next s.settle) ∧
      (let t := (s.wr Rg.ringArm 0 r.val).modRing r.val (fun x => { x with arming := none, armLogged := false })
       (s.rd Rg.ringArmed r.val = 1 → s.batch? r.val = none →
         exec (.ringDisarm m r) s = .next (t.wr Rg.ringArmed 0 r.val).settle) ∧
       (s.rd Rg.ringArmed r.val = 1 → (s.batch? r.val).isSome = true →
         exec (.ringDisarm m r) s = .next (t.modRing r.val (fun x => { x with disarmWanted := true })).settle) ∧
       (s.rd Rg.ringArmed r.val = 0 → exec (.ringDisarm m r) s = .next t.settle))) ∧
  (∀ (r : RingId) (s : State), s.live = true →
      ((∀ x, (s.ring r.val).consBefore = some x → x.1 ≠ s.now) → s.batchFree r.val = s.ringFree r.val) ∧
      (∀ v : Nat, (s.ring r.val).consBefore = some (s.now, v) →
        s.batchFree r.val = s.slotsOf r.val - sub32 (s.rd Rg.ringProd r.val) v) ∧
      (∀ c : Nat, s.ringReady r.val = true → roundRobin (s.ring r.val).lastCorr (s.ringCands r.val) = some c →
        let t := s.takeRecs c (min 64 (s.batchFree r.val))
        let n0 := s.rd Rg.ringProd r.val
        let n1 := (n0 + t.2.length) % 2 ^ 32
        let b : Batch := { ring := r.val, epoch := s.rd Rg.ringEpoch r.val, corr := c, s0 := max 1 (s.rd Rg.gbNextSeq c),
                           n0 := n0, n1 := n1, recs := t.2 }
        exec (.deliverBatch r) s = .next ((((({ t.1 with batches := kvPut t.1.batches r.val b } : State).modRing r.val (fun x =>
          { x with lastCorr := some c })).wr Rg.ringBatchOpen 1 r.val).jreq
            (.intent r.val (s.rd Rg.ringEpoch r.val) c (max 1 (s.rd Rg.gbNextSeq c)) t.2.length n0 n1)).gbSync c).settle) ∧
      (s.ringReady r.val = false → exec (.deliverBatch r) s = .next s.settle) ∧
      (∀ (b : Batch) (pages : List Nat), s.batch? r.val = some b → b.written = true → b.flushed = false → b.open_ = false →
        b.epoch = s.rd Rg.ringEpoch r.val → s.rd Rg.ringArmed r.val = 1 → s.rd Rg.pcieLink = 1 →
        exec (.flushReadComplete r pages) s = .next ((((s.modBatch r.val (fun x => { x with flushed := true })).modRing r.val
          (fun x => { x with fetched := pagesOf b.recs.length pages })).jreq
            (s.completeBody r.val b))).settle) ∧
      (∀ t : Nat, (s.ring r.val).coalFrom = some t → s.rd Rg.ringCoalCount r.val ≠ 0 → exec (.coalesceTimeout r) s = .next
        ((s.reach (t + usTicks (s.rd Rg.ringCoalUs r.val))).ringMessage r.val).settle) ∧
      (∀ (m : MasterId) (v : Word), s.granted m.val (0x340018 + 0x40 * r.val) .set →
        let ahead := sub32 (s.rd Rg.ringProd r.val) (s.rd Rg.ringCons r.val)
        (sub32 v.toNat (s.rd Rg.ringCons r.val) ≤ ahead →
          exec (.ringConsWrite m r v) s = .next ((s.consNote r.val).wr Rg.ringCons v.toNat r.val).settle) ∧
        (ahead < sub32 v.toNat (s.rd Rg.ringCons r.val) → exec (.ringConsWrite m r v) s = .next
          ((s.bumpSat Rg.ringConsBad r.val).raise 645 r.val 0).settle))) ∧
  (∀ s : State,
      (s.live = true →
        (∀ (m : MasterId) (r : RingId) (pages : List Nat),
          exec (.ringArm m r pages) s = .next (doRingArm m r pages s).settle) ∧
        (∀ (m : MasterId) (r : RingId), exec (.ringDisarm m r) s = .next (doRingDisarm m r s).settle) ∧
        (∀ (r : RingId), exec (.deliverBatch r) s = .next (doDeliverBatch r s).settle) ∧
        (∀ (r : RingId), exec (.coalesceTimeout r) s = .next (doCoalesceTimeout r s).settle) ∧
        (∀ (m : MasterId) (r : RingId) (v : Word), exec (.ringConsWrite m r v) s = .next (doRingConsWrite m r v s).settle)) ∧
      (s.lit = true → s.powerFail ≠ .sealed →
        (∀ (r : RingId) (pages : List Nat),
          exec (.flushReadComplete r pages) s = .next (doFlushReadComplete r pages s).settle)))

/-- PCIe: a link that goes down clears what its registers say of it, cuts every ring, drops the pending vectors and raises E0646;
a link that comes up with a legal shape shows it, raises E0647 and brings the armed rings back. A reset of functions cuts
their rings and empties what their masters hold. Pending vectors that may go are sent. Whatever their operands, these
commands complete wherever they are heard: PCIE_LINK_DOWN, FUNCTION_LEVEL_RESET, MSIX_PENDING_SEND, PCIE_LINK_UP. Each
answers a next state, that of its own effect, and the outputs follow it. -/
def Obligations.PcieLink : Prop :=
  (∀ s : State, s.live = true → s.domainUp 3 = true →
      (s.rd Rg.pcieLink = 1 →
        (let t := ((s.wr Rg.pcieLink 0).wr Rg.pcieWidth 0).wr Rg.pcieSpeed 0
         exec .pcieLinkDown s = .next
           (((t.each (t.ringsOf (List.range 16)) State.ringCut).msixClear (List.range 16)).raise 646 0 0).settle) ∧
        (∀ f : Fin 16, exec (.functionLevelReset (some f)) s = .next
          (((s.each (s.ringsOf [f.val]) State.ringCut).emptyHolding (fnMaster f.val)).msixClear [f.val]).settle) ∧
        (∀ v : Fin 64, s.evt.msixPending = [] → exec (.msixPendingSend v true true) s = .next
          ({ s with pcie := { s.pcie with
            msixEnabled := s.rd Rg.pcieVecFn v.val :: s.pcie.msixEnabled.erase (s.rd Rg.pcieVecFn v.val),
            masked := s.pcie.masked.erase v.val } } : State).settle)) ∧
      (∀ w g : Nat, s.rd Rg.pcieLink = 0 → s.padHeld 1 = false → linkShapeOk w g = true →
        exec (.pcieLinkUp w g) s = .next
          (let u := (((s.wr Rg.pcieLink 1).wr Rg.pcieWidth w).wr Rg.pcieSpeed g).raise 647 0 0
           ({ u with power := { u.power with wakePin := false } } : State).ringsReturn.settle))) ∧
  (∀ s : State,
      (s.live = true →
        (∀ (v : Fin 64) (enabled unmasked : Bool),
          exec (.msixPendingSend v enabled unmasked) s = .next (doMsixPendingSend v enabled unmasked s).settle)) ∧
      (s.awake = true →
        (∀ (fn : Option (Fin 16)), exec (.functionLevelReset fn) s = .next (doFunctionLevelReset fn s).settle) ∧
        (∀ (width speed : Nat), exec (.pcieLinkUp width speed) s = .next (doPcieLinkUp width speed s).settle)) ∧
      (s.lit = true → s.powerFail ≠ .sealed →
        (exec .pcieLinkDown s = .next (doPcieLinkDown s).settle)))

/-- Ethernet ports: E0649 + p and E0651 + p tell that a link went down or came up. A Sync message moves the port's clock by its
offset, an ARP request for the port's address is learned and answered, an echo request is answered, and a PAUSE frame stops
transmission for its quanta. Without a Sync message for 4 s a locked port loses its lock. Whatever their operands, these
commands complete wherever they are heard: ETH_LINK_DOWN, ETH_LINK_UP, PTP_SYNC_TIMEOUT, PTP_SYNC, ARP_REQUEST,
ICMP_ECHO_REQUEST, PAUSE_FRAME. Each answers a next state, that of its own effect, and the outputs follow it. -/
def Obligations.EtherPorts : Prop :=
  (∀ (p : Fin 2) (s : State), s.live = true →
      (s.rd Rg.ethLink p.val = 1 → exec (.ethLinkDown p) s = .next ((s.wr Rg.ethLink 0 p.val).raise (649 + p.val) p.val 0).settle) ∧
      (s.rd Rg.ethLink p.val = 0 → s.rd Rg.ethEn p.val = 1 → s.domainUp 3 = true → s.padHeld 1 = false →
        exec (.ethLinkUp p) s = .next ((s.wr Rg.ethLink 1 p.val).raise (651 + p.val) p.val 0).settle) ∧
      (∀ t : Nat, (s.eth p.val).lastSync = some t → s.rd Rg.ethPtpLock p.val = 0 → exec (.ptpSyncTimeout p) s = .next
        ((s.reach (t + msTicks 4000)).modEth p.val (fun x => { x with lastSync := none, good := 0 })).settle) ∧
      (s.ethLive p.val = true →
        (∀ master : Int, s.rd Rg.ethPtpEn p.val = 1 → s.rd Rg.ethPtpLock p.val = 0 →
          let off := 4 * (s.now : Int) + (s.eth p.val).base - master
          1000 ≤ off.natAbs → exec (.ptpSync p master) s = .next
            (((s.modEth p.val (fun x => { x with base := x.base - off, lastSync := some s.now })).wrI Rg.ethPtpOffset
              (clampOffset off) p.val).modEth p.val (fun x => { x with good := 0 })).settle) ∧
        (∀ (ip t : Word) (mac : BitVec 48), s.rd Rg.ethIp p.val = t.toNat →
          let u := s.modEth p.val (fun e => { e with arp := kvPut e.arp ip.toNat mac.toNat })
          exec (.arpRequest p true ip mac t) s = .next u.settle ∧
          exec (.arpRequest p false ip mac t) s = .next (u.netSend p.val ip.toNat 0 (arpReply (s.rd Rg.ethMac p.val)
            (s.rd Rg.ethIp p.val) mac.toNat ip.toNat)).settle) ∧
        (∀ (a b : Word) (bs : List Byte), s.rd Rg.ethIp p.val = b.toNat → exec (.icmpEchoRequest p a b false bs) s = .next
          ({ s with netOut := { at_ := s.ethFree p.val, port := p.val, ip := a.toNat, udp := 0, bytes := echoReply bs } ::
                              s.netOut } : State).settle) ∧
        (∀ q : BitVec 16, exec (.pauseFrame p q) s = .next (s.modEth p.val (fun e => { e with pausedUntil := s.now +
          (if s.rd Rg.ethMode p.val = 1 then ceilDiv (q.toNat * 256) 5 else q.toNat * 128) })).settle))) ∧
  (∀ s : State,
      (s.live = true →
        (∀ (p : Fin 2), exec (.ptpSyncTimeout p) s = .next (doPtpSyncTimeout p s).settle) ∧
        (∀ (p : Fin 2) (master : Int), exec (.ptpSync p master) s = .next (doPtpSync p master s).settle) ∧
        (∀ (p : Fin 2) (reply : Bool) (peerIp : Word) (peerMac : BitVec 48) (target : Word),
          exec (.arpRequest p reply peerIp peerMac target) s = .next (doArpRequest p reply peerIp peerMac target s).settle) ∧
        (∀ (p : Fin 2) (src dst : Word) (fragmented : Bool) (req : List Byte),
          exec (.icmpEchoRequest p src dst fragmented req) s = .next (doIcmpEchoRequest p src dst fragmented req s).settle) ∧
        (∀ (p : Fin 2) (quanta : BitVec 16), exec (.pauseFrame p quanta) s = .next (doPauseFrame p quanta s).settle)) ∧
      (s.awake = true →
        (∀ (p : Fin 2), exec (.ethLinkDown p) s = .next (doEthLinkDown p s).settle) ∧
        (∀ (p : Fin 2), exec (.ethLinkUp p) s = .next (doEthLinkUp p s).settle)))

/-- Jexnus datagrams from outside: one that is not well formed is counted as BAD_DGRAM; one of another version is rejected with
reason 5; a BYE, or an ACK, whose token is of an open session ends the session, or is taken by it; a HELLO that does not know
the correspondent's code is rejected with reason 1. Jexnus sessions: data that waits is sent in order within the window and
its SENT entry is asked for; a retransmission timeout sends again and doubles its time; a session is probed after
JX_KEEPALIVE of silence and ends with reason 4 after JX_SESS_TIMEOUT; a close command ends it with a BYE and reason 2.
Whatever their operands, these commands complete wherever they are heard: BAD_DGRAM, JX_BYE, JX_ACK, JX_HELLO, JX_DATA,
JX_RETRANSMIT_TIMEOUT, JX_CLOSE, JX_KEEPALIVE, JX_SESSION_TIMEOUT. Each answers a next state, that of its own effect, and the
outputs follow it. -/
def Obligations.Jexnus : Prop :=
  (∀ (p : Fin 2) (ip udp : Nat) (bs : List Byte) (s : State), s.live = true → s.ethLive p.val = true →
      (jxClassify bs = .bad → exec (.badDgram p ip udp bs) s = .next (s.bumpSat Rg.ethBadDgram p.val).settle) ∧
      (jxClassify bs = .otherVersion →
        exec (.badDgram p ip udp bs) s = .next (s.jxReject p.val ip udp (beAt bs 10 2) 5).settle) ∧
      (∀ x : Nat, jxClassify bs = .bye → s.tokenCtx (beAt bs 4 4) = some x →
        exec (.jxBye p ip udp bs) s = .next (s.jxFree x (beAt bs 16 1)).settle) ∧
      (∀ x : Nat, jxClassify bs = .ack → s.tokenCtx (beAt bs 4 4) = some x →
        exec (.jxAck p ip udp bs) s = .next (s.jxAck x bs).settle ∧
        ((seqAhead (s.hiSent (s.rd Rg.jxsCorr x)) (beAt bs 22 6) || !seqNotBehind (beAt bs 16 6) (beAt bs 22 6)) = true →
          exec (.jxAck p ip udp bs) s = .next (s.bumpSat Rg.jxsBadAck x).settle)) ∧
      (jxClassify bs = .hello → s.domainUp 3 = true →
        exec (.jxHello p ip udp bs) s = .next (s.jxHello p.val ip udp bs).settle ∧
        (s.rd Rg.corrJxCode (beAt bs 10 2) ≠ beAt bs 16 4 → exec (.jxHello p ip udp bs) s = .next
          (s.jxReject p.val ip udp (beAt bs 10 2) 1).settle))) ∧
  (∀ (x : CtxId) (s : State), s.live = true →
      (s.jxLive x.val = true →
        let c := s.rd Rg.jxsCorr x.val
        let s1 := s.jxTransmit x.val ((s.jxWindowed x.val (s.outstanding x.val)).filter (fun r =>
          !(s.jx x.val).has r.seq && !(s.jx x.val).keeps r.seq)) false
        let u := s1.takeRecs c (min 64 ((s.jx x.val).window - seqDist (s.rd Rg.jxsAcked x.val) (s.hiSent c)))
        ((s.corr c).sending ≠ [] → exec (.jxData x) s = .next s1.settle) ∧
        (∀ (r : Rec) (rs : List Rec), (s.corr c).sending = [] → (s.corr c).evicting = false →
          s.mayTake (jxMaster x.val) c = true → u.2 = r :: rs → exec (.jxData x) s = .next
            (((u.1.modCorr c (fun z => { z with sending := u.2 })).jreq (.sent (lastOf u.2).1 (s.rd Rg.jxsPort x.val) x.val c r.seq
              u.2.length (lastOf u.2).2)).gbSync c).settle)) ∧
      (s.jxLive x.val = false → exec (.jxData x) s = .next s.settle) ∧
      (s.rd Rg.jxsState x.val = 1 →
        (∀ t : Nat, (s.jx x.val).timerFrom = some t →
          let s0 := s.reach (t + (s.jx x.val).rto.ceil.toNat)
          let s1 := s0.jxTransmit x.val (s0.jxWindowed x.val (s0.unanswered x.val)) true
          exec (.jxRetransmitTimeout x) s = .next ((s1.modJx x.val (fun y =>
            { y with rto := s1.rtoClamp (2 * y.rto), timerFrom := some s0.now })).jxShowRtt x.val).settle) ∧
        (∀ m : MasterId, s.granted m.val (0x369000 + 0x40 * x.val) .run →
          exec (.jxClose m x) s = .next ((s.jxSend x.val 5 (beBytes 1 2)).jxFree x.val 2).settle) ∧
        (let s0 := s.reach (max (s.jx x.val).lastRx (s.jx x.val).lastProbe + msTicks (s.rd Rg.jxKeepalive))
         exec (.jxKeepalive x) s = .next ((s0.jxSend x.val 6 []).modJx x.val (fun z => { z with lastProbe := s0.now })).settle) ∧
        (let s0 := s.reach ((s.jx x.val).lastRx + msTicks (1000 * s.rd Rg.jxSessTimeout))
         exec (.jxSessionTimeout x) s = .next ((s0.jxSend x.val 5 (beBytes 1 4)).jxFree x.val 4).settle))) ∧
  (∀ s : State,
      (s.live = true →
        (∀ (p : Fin 2) (ip udp : Nat) (bs : List Byte),
          exec (.badDgram p ip udp bs) s = .next (doBadDgram p ip udp bs s).settle) ∧
        (∀ (p : Fin 2) (ip udp : Nat) (bs : List Byte), exec (.jxBye p ip udp bs) s = .next (doJxBye p ip udp bs s).settle) ∧
        (∀ (p : Fin 2) (ip udp : Nat) (bs : List Byte), exec (.jxAck p ip udp bs) s = .next (doJxAck p ip udp bs s).settle) ∧
        (∀ (p : Fin 2) (ip udp : Nat) (bs : List Byte),
          exec (.jxHello p ip udp bs) s = .next (doJxHello p ip udp bs s).settle) ∧
        (∀ (x : CtxId), exec (.jxData x) s = .next (doJxData x s).settle) ∧
        (∀ (x : CtxId), exec (.jxRetransmitTimeout x) s = .next (doJxRetransmitTimeout x s).settle) ∧
        (∀ (m : MasterId) (x : CtxId), exec (.jxClose m x) s = .next (doJxClose m x s).settle) ∧
        (∀ (x : CtxId), exec (.jxKeepalive x) s = .next (doJxKeepalive x s).settle) ∧
        (∀ (x : CtxId), exec (.jxSessionTimeout x) s = .next (doJxSessionTimeout x s).settle)))

/-- VIN valid in an unpowered engine, and VIN invalid, begin a cold start, which keeps what the flash, the fuses, the journal and
the store keep. The end of the power-on reset latches the straps, begins phase 1 and restarts the timebase; all domains are
then DOWN and all pad banks held. The phases of the start: the header leads to phase 2, the trained memory to phase 3 with
the domains rising, a loaded image to phase 5; an image that passes is taken, and the other slot is tried with E0043 after
one that does not; PUSH GO leads from phase 9 to phase 5; a self-test that finds nothing ends phase 6. READY: phase 8 ends
with READY set, the start-up time, the pads released that may be, E0042 with the start's cause and count, and both UART
sessions told "!READY" with the count; votes of the start are withdrawn when the boot hold has run. RESET_N of a ready engine
begins a warm start with cause 1, of a sealed one a cold start; while a failing engine drains, and without VIN or with VIO_H
out of range, it does nothing. Its release lets the start go on. Whatever their operands, these commands complete wherever
they are heard: VIN_VALID, VIN_INVALID, POWER_ON_RESET_END, HEADER_READ_DONE, DRAM_TRAINING_DONE, IMAGE_LOAD_DONE,
IMAGE_CHECK_DONE, PUSH_GO, MEMORY_SELF_TEST_DONE, READY, BOOT_HOLD_EXPIRY, RESET_N, RESET_N_RELEASE. Each answers a next
state, that of its own effect, and the outputs follow it. -/
def Obligations.StartUp : Prop :=
  (∀ s : State,
      (s.boot.vin = false → exec .vinValid s = .next (s.coldBegin 0 true false).settle) ∧
      exec .vinInvalid s = .next (s.coldBegin 0 false s.boot.held).settle ∧
      (∀ m : Fin 4, s.boot.vin = true → s.boot.por = true → s.boot.held = false →
        exec (.powerOnResetEnd m) s = .next
          (let t := ((s.domainsDown.wr Rg.bootMode m.val).wr Rg.bootPhase 1).wr Rg.pwPadHeld 31
           { t with now := 0, boot := { t.boot with por := false, since := 0 } }).settle)) ∧
  (∀ s : State,
      (s.inPhase 1 = true → exec .headerReadDone s = .next (s.wr Rg.bootPhase 2).settle) ∧
      (s.inPhase 2 = true → s.boot.selfRefresh = false → exec .dramTrainingDone s = .next
        ({ s.wr Rg.bootPhase 3 with boot := { s.boot with domainsRise := true, coldRise := true } } : State).settle) ∧
      (∀ p : Fin 2, s.inPhase 4 = true → exec (.imageLoadDone p) s = .next ({ s.wr Rg.bootPhase 5 with
        boot := { s.boot with slot := (if s.boot.second then 1 - s.boot.slot else p.val), loaded := true } } : State).settle) ∧
      (∀ x : ImageSeen, s.inPhase 5 = true → s.boot.pushed = false → s.boot.warm = false →
        (s.imageCause x = 0 → exec (.imageCheckDone x) s = .next ((s.slotCause s.boot.slot 0).imageTaken s.boot.slot x).settle) ∧
        (s.imageCause x ≠ 0 → s.boot.second = false → exec (.imageCheckDone x) s = .next
          (let t := ((s.slotCause s.boot.slot (s.imageCause x)).wr Rg.bootFallback 1).raise 43 s.boot.slot (s.imageCause x)
           { t.wr Rg.bootPhase 4 with boot := { t.boot with second := true } }).settle)) ∧
      (∀ m : MasterId, s.inPhase 9 = true → s.granted m.val 0xB0 .run → exec (.pushGo m) s = .next
        ({ s.wr Rg.bootPhase 5 with boot := { s.boot with pushed := true } } : State).settle) ∧
      (∀ x : SelfTest, s.inPhase 6 = true → s.boot.mbist = none → s.boot.tested = false → s.boot.dramOnly = false →
        x.fails s.testMask = 0 →
        exec (.memorySelfTestDone x) s = .next
          ({ s.wr Rg.bootBistFail (s.rd Rg.bootBistFail) with boot := { s.boot with tested := true } } : State).settle)) ∧
  (∀ s : State,
      (s.inPhase 8 = true → s.thotor.storeTorn = false →
        let s1 := (s.wr Rg.bootReady 1).wr Rg.bootTimeUs ((s.now - s.boot.since) / 250)
        let s2 : State := { s1 with boot := { s1.boot with awaitBell := true, readyAt := some s.now }, acc := {} }
        let s3 := s2.each (maskBits 5 s.boot.pads) State.releaseBank
        let s4 := s3.raise 42 (s3.rd Rg.bootCause) (s3.rd Rg.bootCount)
        s4.thotor.storeTorn = false → exec .ready s = .next
          ((((s4.each [0, 1] (fun st i => ((st.wr Rg.sesState 1 i).unsolicited i
            ("!READY ".toList ++ dec (s3.rd Rg.bootCount))).flowCheck i)).consoleLogin.msixReady).ringsReturn)).settle) ∧
      (∀ t : Nat, s.live = true → s.boot.readyAt = some t → exec .bootHoldExpiry s = .next
        (let u := (s.reach (t + s.bootHoldTicks)).each (List.range 6) (fun st d =>
           st.wr Rg.rollInternal (st.rd Rg.rollInternal d / 2 * 2) d)
         { u with boot := { u.boot with readyAt := none } }).settle)) ∧
  (∀ s : State,
      (s.boot.vin = true → s.boot.held = false → s.rd Rg.supplyVioHOk = 1 →
        (s.powerFail = .off → s.boot.por = false → s.rd Rg.bootReady = 1 → exec .resetN s = .next
          (let t := s.warmEntry 1
           { t with boot := { t.boot with held := true } }).settle) ∧
        (s.powerFail = .sealed → exec .resetN s = .next (s.coldBegin (if s.power.tripTold then 1 else 4) true true).settle) ∧
        (s.powerFail = .draining → exec .resetN s = .next s.settle)) ∧
      (s.boot.vin = false ∨ s.rd Rg.supplyVioHOk = 0 → exec .resetN s = .next s.settle) ∧
      exec .resetNRelease s = .next ({ s with boot := { s.boot with held := false } } : State).settle) ∧
  (∀ s : State,
      (s.awake = true →
        (exec .headerReadDone s = .next (doHeaderReadDone s).settle) ∧
        (exec .dramTrainingDone s = .next (doDramTrainingDone s).settle) ∧
        (∀ (prefer : Fin 2), exec (.imageLoadDone prefer) s = .next (doImageLoadDone prefer s).settle) ∧
        (∀ (x : ImageSeen), exec (.imageCheckDone x) s = .next (doImageCheckDone x s).settle) ∧
        (∀ (m : MasterId), exec (.pushGo m) s = .next (doPushGo m s).settle) ∧
        (∀ (x : SelfTest), exec (.memorySelfTestDone x) s = .next (doMemorySelfTestDone x s).settle) ∧
        (exec .ready s = .next (doReady s).settle) ∧
        (exec .bootHoldExpiry s = .next (doBootHoldExpiry s).settle)) ∧
      ((exec .vinValid s = .next (doVinValid s).settle) ∧
        (exec .vinInvalid s = .next (doVinInvalid s).settle) ∧
        (∀ (straps : Fin 4), exec (.powerOnResetEnd straps) s = .next (doPowerOnResetEnd straps s).settle) ∧
        (exec .resetN s = .next (doResetN s).settle) ∧
        (exec .resetNRelease s = .next (doResetNRelease s).settle)))

/-- Votes and Temper requests are the writing tenant's own bits; a vote needs the right for the roll it writes. A domain that is
dropping and quiet saves; a save that ends takes the domain DOWN with a new epoch for each of its units and the event of its
number; a rise that ends takes it UP with E0008 + d; held pads of a domain that is up are released. Whatever their operands,
these commands complete wherever they are heard: VOTE_UP, VOTE_DOWN, TEMPER_REQUEST, DOMAIN_QUIESCED, DOMAIN_SAVE_DONE,
DOMAIN_RISE_DONE, PAD_RELEASE. Each answers a next state, that of its own effect, and the outputs follow it. -/
def Obligations.Rolls : Prop :=
  (∀ (m : MasterId) (t : Nat) (s : State), s.live = true → s.tenantOf m.val = some t →
      (∀ k : BitVec 6, s.granted m.val 0x50000 .run → exec (.voteUp m k) s = .next
        (s.each (maskBits 6 k.toNat) (fun st d => st.wr Rg.rollVotes (st.rd Rg.rollVotes d ||| 2 ^ t) d)).settle) ∧
      (∀ k : BitVec 6, s.granted m.val 0x50004 .run → exec (.voteDown m k) s = .next
        (s.each (maskBits 6 k.toNat) (fun st d => st.wr Rg.rollVotes (if (st.rd Rg.rollVotes d).testBit t then
          st.rd Rg.rollVotes d - 2 ^ t else st.rd Rg.rollVotes d) d)).settle) ∧
      (∀ v : Fin 16, s.granted m.val 0x50008 .set →
        (temperOk v.val = true → exec (.temperRequest m v) s = .next ((s.wr Rg.pwTemperReqT v.val t).temperRefresh).settle) ∧
        (temperOk v.val = false → exec (.temperRequest m v) s = .next s.settle))) ∧
  (∀ (d : DomainId) (s : State), s.live = true →
      (s.rd Rg.rollState d.val = 1 → s.quiesced d.val = true → exec (.domainQuiesced d) s = .next (s.saving d.val).settle) ∧
      (s.rd Rg.rollState d.val ≠ 1 → exec (.domainQuiesced d) s = .next s.settle) ∧
      (s.rd Rg.rollState d.val = 2 → d.val ∉ s.power.resetting → exec (.domainSaveDone d) s = .next
        ((((s.each (unitsOf d.val) (fun st u => (st.bumpEpoch u).setUnit u 2)).wr Rg.rollState 3 d.val).raise d.val d.val
          0)).settle) ∧
      (∀ ok : Bool, s.rd Rg.rollState d.val = 4 → d.val ∉ s.power.resetting → s.boot.coldRise = false →
        let u := ((((s.restore d.val ok).wr Rg.rollState 0 d.val).raise (8 + d.val) d.val 0).each (unitsOf d.val)
          State.unitRisen).domainBegins d.val
        exec (.domainRiseDone d ok) s = .next ({ u with power := { u.power with
          resetting := u.power.resetting.filter (fun x => x != d.val) } } : State).settle) ∧
      (∀ (m : MasterId) (k : BitVec 5), s.granted m.val 0x50024 .run → exec (.padRelease m k) s = .next
        (s.each (maskBits 5 k.toNat) State.releaseBank).settle)) ∧
  (∀ s : State,
      (s.awake = true →
        (∀ (m : MasterId) (mask : BitVec 6), exec (.voteUp m mask) s = .next (doVoteUp m mask s).settle) ∧
        (∀ (m : MasterId) (mask : BitVec 6), exec (.voteDown m mask) s = .next (doVoteDown m mask s).settle) ∧
        (∀ (m : MasterId) (v : Fin 16), exec (.temperRequest m v) s = .next (doTemperRequest m v s).settle) ∧
        (∀ (d : DomainId), exec (.domainQuiesced d) s = .next (doDomainQuiesced d s).settle) ∧
        (∀ (d : DomainId), exec (.domainSaveDone d) s = .next (doDomainSaveDone d s).settle) ∧
        (∀ (d : DomainId) (crcOk : Bool), exec (.domainRiseDone d crcOk) s = .next (doDomainRiseDone d crcOk s).settle) ∧
        (∀ (m : MasterId) (mask : BitVec 5), exec (.padRelease m mask) s = .next (doPadRelease m mask s).settle)))

/-- A wake event of an enabled cause votes for the domains of its mask, notes cause, stamp and count, holds the votes for
WAKE_HOLD and raises E0024; the votes end with the hold; a datagram in the wake format with the engine's code is such an
event, and any other counts as WAKE_BAD with E0027; an escape entry on a wake-enabled port sets LP and WAKE_SEEN, raises
E0352 + p and is such an event. A thermal sample shows the offset readings, drops the invalid ones, gives the die
temperature, and moves the thermal level and the trip with it. Whatever their operands, these commands complete wherever they
are heard: WAKE_EVENT, WAKE_HOLD_EXPIRY, WAKE_DATAGRAM, WAKE_RELEASE, ESCAPE_ENTRY, THERMAL_SAMPLE. Each answers a next
state, that of its own effect, and the outputs follow it. -/
def Obligations.WakingAndHeat : Prop :=
  (∀ s : State, s.live = true →
      (∀ c : Fin 26, s.wakeOwn c.val = true → 1 ≤ c.val → (s.rd Rg.wakeEn).testBit c.val = true →
        let t := s.each ((List.range 6).filter (fun d => (s.rd Rg.wakeMask c.val &&& 63).testBit d)) (fun st d =>
          st.wr Rg.rollInternal (st.rd Rg.rollInternal d ||| 2) d)
        let last := if s.rd Rg.wakeStamp = s.now then max c.val (s.rd Rg.wakeLast) else c.val
        let u := ((t.wr Rg.wakeLast last).wr Rg.wakeStamp s.now).bump Rg.wakeCount
        exec (.wakeEvent c) s = .next (State.raiseLim { u with power := { u.power with
          wakeUntil := some (s.now + msTicks s.wakeHoldMs) } } 64 24 0 c.val 0).settle) ∧
      (∀ t : Nat, s.power.wakeUntil = some t → exec .wakeHoldExpiry s = .next
        ((State.each { s.reach t with power := { (s.reach t).power with wakeUntil := none } } (List.range 6) (fun st d =>
          st.wr Rg.rollInternal (st.rd Rg.rollInternal d / 4 * 4 + st.rd Rg.rollInternal d % 2) d))).settle) ∧
      (∀ (p : Fin 2) (ip : Word) (udp : BitVec 16) (bs : List Byte), s.domainServes 3 = false →
        (s.rd Rg.wakeEn).testBit (14 + p.val) = true → udp.toNat = s.rd Rg.wakeUdp → ip.toNat = s.rd Rg.ethIp p.val →
        (bs.length = 8 → beAt bs 0 2 = 0x574B → beAt bs 4 4 = s.rd Rg.wakeCode → s.rd Rg.wakeCode ≠ 0 →
          exec (.wakeDatagram p ip udp bs) s = .next (s.wakeEvent (14 + p.val) (beAt bs 2 2)).settle) ∧
        (bs.length ≠ 8 → exec (.wakeDatagram p ip udp bs) s = .next
          ((s.bumpSat Rg.wakeBad).raiseLim 64 27 0 (14 + p.val) 0).settle)) ∧
      (s.power.wakePin = true → s.rd Rg.pcieLink = 1 → exec .wakeRelease s = .next
        ({ s with power := { s.power with wakePin := false } } : State).settle) ∧
      (∀ p : Fin 4, s.rd Rg.csiWakeEn p.val = 1 → s.domainServes 0 = true → exec (.escapeEntry p) s = .next
        ((((s.wr Rg.portLp 1 p.val).wr Rg.portWakeSeen 1 p.val).raise (352 + p.val) p.val 0).wakeEvent (1 + p.val)).settle)) ∧
  (∀ (l : List Int) (s : State), s.live = true →
      let x := (List.range 6).map (fun i => l.getD i 0 + s.thermOffset)
      let t := (s.each (List.range 6) (fun st i => st.wrI Rg.th2Sensor (x.getD i 0) i)).thermInvalid x
      exec (.thermalSample l) s = .next (((t.wrI Rg.th2DieTemp (t.dieOf x)).thermStep (t.dieOf x)).thermTrip (t.dieOf x)).settle) ∧
  (∀ s : State,
      (s.live = true →
        (∀ (p : Fin 4), exec (.escapeEntry p) s = .next (doEscapeEntry p s).settle)) ∧
      (s.awake = true →
        (∀ (c : Fin 26), exec (.wakeEvent c) s = .next (doWakeEvent c s).settle) ∧
        (exec .wakeHoldExpiry s = .next (doWakeHoldExpiry s).settle) ∧
        (∀ (p : Fin 2) (ip : Word) (udp : BitVec 16) (bs : List Byte),
          exec (.wakeDatagram p ip udp bs) s = .next (doWakeDatagram p ip udp bs s).settle) ∧
        (exec .wakeRelease s = .next (doWakeRelease s).settle) ∧
        (∀ (readings : List Int), exec (.thermalSample readings) s = .next (doThermalSample readings s).settle)))

/-- PWR_FAIL of an armed engine stops its units; once it has drained, the SEAL entry is written in its turn, 64 ticks after the
last entry (R89), with the time that the flush took, READY falls, the outputs are sealed, and no step changes it any more by
itself (R116). Whatever their operands, these commands complete wherever they are heard: PWR_FAIL, PWR_FAIL_ARM,
SEAL_WRITTEN. Each answers a next state, that of its own effect, and the outputs follow it. -/
def Obligations.PowerFailure : Prop :=
  (∀ s : State,
      (s.live = true → s.sealable = true → s.rd Rg.jnlPfEn = 1 →
        (s.rd Rg.jnlPfArmed = 1 → exec .pwrFail s = .next s.stopUnits.settle) ∧
        (s.rd Rg.jnlPfArmed = 0 → exec .pwrFail s = .next s.settle) ∧
        exec .pwrFailArm s = .next (s.wr Rg.jnlPfArmed 1).settle) ∧
      (s.lit = true → s.powerFail = .draining → s.drained = true →
        let us := min 65535 ((s.now - s.jnl.failAt) / 250)
        let t := s.appendTurn
        exec .sealWritten s = .next ({ (((t.stage (.seal 1 0 t.now us)).writeback.wr Rg.jnlPfFlushUs us).wr Rg.bootReady
          0).sealPins with powerFail := .sealed } : State).settle)) ∧
  (∀ s : State,
      (s.awake = true →
        (exec .pwrFailArm s = .next (doPwrFailArm s).settle)) ∧
      (s.lit = true → s.powerFail ≠ .sealed →
        (exec .pwrFail s = .next (doPwrFail s).settle) ∧
        (exec .sealWritten s = .next (doSealWritten s).settle)))

/-- A reset of a domain by the owner of the power unit is told with E0032, fences its units and saves it, to rise again at once;
PERST resets domain 3 and is told with E0046 as well; a domain that is not up, and did not begin to drop on that tick, is
left as it is. A block reset by an owner of its targets resets a unit, a ring of a serving domain or a lane; a unit's
watchdog counts its fault, raises E0034 with the unit and resets it. Memory errors are counted and reported: a corrected one
with E0041, an uncorrectable one with E0040, which also retires its page once. Whatever their operands, these commands
complete wherever they are heard: DOMAIN_RESET, PERST, BLOCK_RESET, UNIT_WATCHDOG, DRAM_CORRECTED, DRAM_UNCORRECTABLE. Each
answers a next state, that of its own effect, and the outputs follow it. -/
def Obligations.Resets : Prop :=
  (∀ s : State, s.live = true →
      (∀ (m : MasterId) (d : DomainId), s.gateAt 0x47004 = .pass → s.ownsPower m.val = true →
        (s.domainUp d.val = true →
          let t := ((s.raise 32 d.val 0).each (unitsOf d.val) State.resetFence).domainRetry d.val
          exec (.domainReset m d) s = .next (State.saving { t with power := { t.power with
            resetting := d.val :: t.power.resetting.filter (fun x => x != d.val),
            release := (t.power.release &&& (31 - banksOf d.val)) |||
                       (banksOf d.val - (t.rd Rg.pwPadHeld &&& banksOf d.val)) } } d.val).settle) ∧
        (s.domainUp d.val = false → s.droppedNow d.val = false → exec (.domainReset m d) s = .next s.settle)) ∧
      (s.domainUp 3 = true → exec .perst s = .next ((s.domainReset 3).raise 46 3 0).settle) ∧
      (s.domainUp 3 = false → s.droppedNow 3 = false → exec .perst s = .next s.settle)) ∧
  (∀ s : State, s.live = true →
      (∀ (m : MasterId) (b : Block), s.gateAt b.addr = .pass → s.ownsBlock m.val b = true →
        (∀ u, b = .unit u → exec (.blockReset m b) s = .next (s.unitReset u.val).settle) ∧
        (∀ r, b = .ring r → s.domainServes 3 = true → exec (.blockReset m b) s = .next (s.ringReset r.val).settle) ∧
        (∀ n, b = .lane n → exec (.blockReset m b) s = .next (s.laneReset n.val).settle)) ∧
      (∀ (u : Fin 24) (d : Nat), 8 ≤ u.val → domainOfUnit u.val = some d → s.domainServes d = true →
        exec (.unitWatchdog u) s = .next (((s.bumpSat Rg.unitFaults u.val).raise 34 u.val 0).unitReset u.val).settle) ∧
      exec .dramCorrected s = .next ((s.bumpSat Rg.dramCe).raiseCnt 64 41 0 0).settle ∧
      (∀ (p : BitVec 20) (hit : DramHit), (s.takeArmed 40 p.toNat).1 = s → s.power.retired.contains p.toNat = false →
        let t := (s.bumpSat Rg.dramUe).raise 40 p.toNat 0
        exec (.dramUncorrectable p hit) s = .next (State.dramHit
          { t.wr Rg.dramRetired (t.power.retired.length + 1) with power :=
            { t.power with retired := p.toNat :: t.power.retired } } hit).settle)) ∧
  (∀ s : State,
      (s.awake = true →
        (∀ (m : MasterId) (d : DomainId), exec (.domainReset m d) s = .next (doDomainReset m d s).settle) ∧
        (exec .perst s = .next (doPerst s).settle) ∧
        (∀ (m : MasterId) (b : Block), exec (.blockReset m b) s = .next (doBlockReset m b s).settle) ∧
        (∀ (u : Fin 24), exec (.unitWatchdog u) s = .next (doUnitWatchdog u s).settle) ∧
        (exec .dramCorrected s = .next (doDramCorrected s).settle) ∧
        (∀ (page : BitVec 20) (hit : DramHit),
          exec (.dramUncorrectable page hit) s = .next (doDramUncorrectable page hit s).settle)))

/-- An Anvil that faults is fenced with a new epoch, its fault counted and told with E0512 + a and its cause, its jobs issued
again elsewhere, and it is tested; the third fault within the window condemns it. One that passes its test serves again.
Whatever their operands, these commands complete wherever they are heard: ANVIL_FAULT, ANVIL_TEST_DONE. Each answers a next
state, that of its own effect, and the outputs follow it. -/
def Obligations.AnvilFaults : Prop :=
  (∀ (a : Fin 8) (s : State), s.live = true →
      (∀ c : Fin 3, s.anvilUsable a.val = true →
        let times := s.now :: s.recent (s.anvil a.val).faultTimes
        exec (.anvilFault a c) s = .next ((((((s.setUnit a.val 1).bumpSat Rg.unitFaults a.val).bumpEpoch a.val).modAnvil a.val
          (fun x => { x with faultTimes := times, testing := !decide (3 ≤ times.length),
                             condemned := decide (3 ≤ times.length) })).raise (512 + a.val) a.val (c.val + 1)).anvilsLost
            [a.val]).settle) ∧
      ((s.anvil a.val).testing = true → s.domainServes (anvilDomain a.val) = true →
        exec (.anvilTestDone a true) s = .next
          ((s.modAnvil a.val (fun x => { x with testing := false, condemned := false })).anvilService a.val).settle ∧
        exec (.anvilTestDone a false) s = .next
          (s.modAnvil a.val (fun x => { x with testing := false, condemned := true })).settle)) ∧
  (∀ s : State,
      (s.awake = true →
        (∀ (a : Fin 8) (cause : Fin 3), exec (.anvilFault a cause) s = .next (doAnvilFault a cause s).settle) ∧
        (∀ (a : Fin 8) (pass : Bool), exec (.anvilTestDone a pass) s = .next (doAnvilTestDone a pass s).settle)))

/-- A Registrar update: the Proctor starts the check of an image; one that passes waits with state 1, one that fails leaves
RESULT 2 with E0038; the update begins on a quiet Bell with E0036; the new firmware that reports in time takes over with
RESULT 0, and one that does not in 50 ms is reverted, as is fresh firmware whose watchdog expires; older firmware restarts
with E0039 and E0036. Whatever their operands, these commands complete wherever they are heard: FW_START, FW_CHECK_DONE,
FW_UPDATE_BEGIN, FW_READY, FW_READY_TIMEOUT, REGISTRAR_WATCHDOG. Each answers a next state, that of its own effect, and the
outputs follow it. -/
def Obligations.Update : Prop :=
  (∀ s : State, s.live = true →
      (∀ m : MasterId, s.gateAt 0x80 = .pass → s.isProctor m.val = true → s.fw.checking = false → s.rd Rg.fwState = 0 →
        exec (.fwStart m) s = .next ({ s with fw := { s.fw with checking := true } } : State).settle) ∧
      (∀ x : ImageSeen, s.fw.checking = true →
        let t : State := { s with fw := { s.fw with checking := false, next := x.version.toNat } }
        (s.imageCause x = 0 → exec (.fwCheckDone x) s = .next (t.wr Rg.fwState 1).settle) ∧
        (s.imageCause x ≠ 0 → exec (.fwCheckDone x) s = .next ((t.wr Rg.fwResult 2).raise 38 24 2).settle)) ∧
      (s.rd Rg.fwState = 1 → s.now = s.lastBell → s.fwQuiet = true →
        exec .fwUpdateBegin s = .next ((s.raise 36 24 0).registrarRestart .update).settle) ∧
      (s.fw.running = true → s.fw.cause = .update →
        let f : FwSt := { s.fw with running := false, resumeNext := true, prev := some (s.rd Rg.bootVersion),
                                    readyAt := some s.now }
        exec .fwReady s = .next (((State.setUnit { (({ s with fw := { s.fw with running := false, resumeNext := true } } : State).wr
          Rg.fwResult 0).wr Rg.bootVersion s.fw.next with fw := f } 24 0).fitness)).settle ∧
        exec .fwReadyTimeout s = .next ((s.reach (s.fw.since + msTicks 50)).fwRevert).settle) ∧
      (s.fw.running = false →
        ((s.raise 39 24 0).fwFresh = true → exec .registrarWatchdog s = .next ((s.raise 39 24 0).fwRevert).settle) ∧
        ((s.raise 39 24 0).fwFresh = false → exec .registrarWatchdog s = .next
          ((((s.raise 39 24 0).raise 36 24 0).registrarRestart .watchdog)).settle))) ∧
  (∀ s : State,
      (s.awake = true →
        (∀ (m : MasterId), exec (.fwStart m) s = .next (doFwStart m s).settle) ∧
        (∀ (x : ImageSeen), exec (.fwCheckDone x) s = .next (doFwCheckDone x s).settle) ∧
        (exec .fwUpdateBegin s = .next (doFwUpdateBegin s).settle) ∧
        (exec .fwReady s = .next (doFwReady s).settle) ∧
        (exec .fwReadyTimeout s = .next (doFwReadyTimeout s).settle) ∧
        (exec .registrarWatchdog s = .next (doRegistrarWatchdog s).settle)))

/-- The flash and the fuses, for the Proctor: ADDR restarts the page index; a word is written into the page, or read from it, and
the index runs on; an operation is noted with its aligned address and sets BUSY; its end clears BUSY, brings a page that was
read, and raises E0045 where it failed. SVN only rises, and a key is revoked only while the other is not. Whatever their
operands, these commands complete wherever they are heard: FLASH_ADDR_WRITE, FLASH_DATA_ACCESS, FLASH_READ_PAGE,
FLASH_PROGRAM_PAGE, FLASH_ERASE_SECTOR, BURN_SVN, REVOKE, FLASH_OP_DONE. Each answers a next state, that of its own effect,
and the outputs follow it. -/
def Obligations.FlashAndFuses : Prop :=
  (∀ (m : MasterId) (s : State), s.live = true → s.isProctor m.val = true → s.flash.op = none →
      (∀ v : Word, s.gateAt 0xC0 = .pass → exec (.flashAddrWrite m v) s = .next
        ({ s.wr Rg.bootFlashAddr v.toNat with flash := { s.flash with index := 0 } } : State).settle) ∧
      (s.gateAt 0xC4 = .pass → ∀ w : Word, exec (.flashDataAccess m (some w)) s = .next
        (State.flashStep { s with flash := { s.flash with page := kvSet 0 s.flash.page s.flash.index w.toNat } }).settle) ∧
      (s.granted m.val 0xC4 .look → exec (.flashDataAccess m none) s = .next
        (s.flashStep.answer m.val (kvGet 0 s.flash.page s.flash.index)).settle) ∧
      (s.gateAt 0xC8 = .pass →
        let op (k size : Nat) : State := { s.wr Rg.bootFlashBusy 1 with
          flash := { s.flash with op := some (k, s.rd Rg.bootFlashAddr / size * size) } }
        exec (.flashReadPage m) s = .next (op 1 256).settle ∧ exec (.flashProgramPage m) s = .next (op 2 256).settle ∧
        exec (.flashEraseSector m) s = .next (op 3 65536).settle) ∧
      (s.gateAt 0xBC = .pass →
        (∀ v : Fin 64, s.rd Rg.bootMinSvn < v.val → exec (.burnSvn m v) s = .next (s.wr Rg.bootMinSvn v.val).settle) ∧
        (∀ v : Fin 64, v.val ≤ s.rd Rg.bootMinSvn → exec (.burnSvn m v) s = .next s.settle) ∧
        ((s.rd Rg.bootRevoked).testBit 1 = false → exec (.revoke m 1) s = .next
          (s.wr Rg.bootRevoked (s.rd Rg.bootRevoked ||| 1)).settle) ∧
        ((s.rd Rg.bootRevoked).testBit 1 = true → exec (.revoke m 1) s = .next s.settle)) ∧
      (∀ (ok : Bool) (ws : List Word) (k a : Nat) (t : State), t.live = true → t.flash.op = some (k, a) →
        let f : FlashSt := { page := (if ok && k = 1 then pageOf (ws.map BitVec.toNat) else t.flash.page), index := 0, op := none,
                             done := (k, a, if k = 2 then t.flash.words else []) :: t.flash.done }
        let u : State := { t.wr Rg.bootFlashBusy 0 with flash := f }
        exec (.flashOpDone ok ws) t = .next (if ok then u else (u.wr Rg.bootFlashError 1).raise 45 0 0).settle)) ∧
  (∀ s : State,
      (s.awake = true →
        (∀ (m : MasterId) (v : Word), exec (.flashAddrWrite m v) s = .next (doFlashAddrWrite m v s).settle) ∧
        (∀ (m : MasterId) (v : Option Word), exec (.flashDataAccess m v) s = .next (doFlashDataAccess m v s).settle) ∧
        (∀ (m : MasterId), exec (.flashReadPage m) s = .next (doFlashReadPage m s).settle) ∧
        (∀ (m : MasterId), exec (.flashProgramPage m) s = .next (doFlashProgramPage m s).settle) ∧
        (∀ (m : MasterId), exec (.flashEraseSector m) s = .next (doFlashEraseSector m s).settle) ∧
        (∀ (m : MasterId) (v : Fin 64), exec (.burnSvn m v) s = .next (doBurnSvn m v s).settle) ∧
        (∀ (m : MasterId) (mask : BitVec 2), exec (.revoke m mask) s = .next (doRevoke m mask s).settle) ∧
        (∀ (ok : Bool) (words : List Word), exec (.flashOpDone ok words) s = .next (doFlashOpDone ok words s).settle)))

/-- Test: the Proctor's TEST_HOLD is told with E0996 when it changes; with injection enabled a memory test is begun, and a
pseudo-random error counts on an idle lane with E0997; the supplies' levels follow their pins; CONSOLE_AUTO is kept in the
header. JTAG: an instruction that only the test mode knows is refused outside it, with E0995, and BYPASS is in force; any
other code that is not known is BYPASS too; the test-logic reset selects IDCODE; the memory test runs in the test mode. An
injection is counted, told with E1008 and its mode, and, in event mode, raises the event as it is given, marked as injected;
a source that may not be injected changes nothing. Whatever their operands, these commands complete wherever they are heard:
TEST_HOLD, MBIST_RUN, PRBS_ERROR, VIO_OUT_OF_RANGE, VIO_IN_RANGE, CONSOLE_AUTO_WRITE, JTAG_INSTRUCTION, TEST_LOGIC_RESET,
JTAG_MBIST, INJECT. Each answers a next state, that of its own effect, and the outputs follow it. -/
def Obligations.TestAndInjection : Prop :=
  (∀ (m : MasterId) (s : State), s.live = true →
      (∀ v : Bool, s.gateAt 0x420100 = .pass → s.isProctor m.val = true →
        (s.rd Rg.testHold ≠ b2n v → exec (.testHold m v) s = .next (((s.wr Rg.testHold (b2n v)).raise 996 (b2n v) 0).testVote).settle) ∧
        (s.rd Rg.testHold = b2n v → exec (.testHold m v) s = .next s.settle)) ∧
      (s.gateAt 0x420110 = .pass → s.isProctor m.val = true → s.rd Rg.injEn = 1 → s.boot.mbist = none →
        exec (.mbistRun m) s = .next ({ s with boot := { s.boot with mbist := some s.mbistMask } } : State).settle) ∧
      (∀ l : Fin 6, s.prbsOn l.val = true → exec (.prbsError l) s = .next
        ((s.bumpSat Rg.testPrbsErr).raiseLim 64 997 0 l.val (s.rd Rg.testPrbsErr + 1)).settle) ∧
      exec (.vioOutOfRange true) s = .next (s.wr Rg.supplyVioPOk 0).settle ∧
      exec (.vioOutOfRange false) s = .next
        ({ s.wr Rg.supplyVioHOk 0 with boot := { s.boot with held := false } } : State).settle ∧
      (∀ hi : Bool,
        exec (.vioInRange true hi) s = .next ((s.wr Rg.supplyVioPOk 1).wr Rg.supplyVioP3v3 (b2n hi)).settle ∧
        exec (.vioInRange false hi) s = .next ((s.wr Rg.supplyVioHOk 1).wr Rg.supplyVioH3v3 (b2n hi)).settle) ∧
      (∀ v : Bool, s.granted m.val Rg.thConsoleAuto.base .set →
        exec (.consoleAutoWrite m v) s = .next ((s.wr Rg.thConsoleAuto (b2n v)).writeHeader).settle)) ∧
  (∀ s : State,
      (∀ c : BitVec 8,
        (jtagTestOnly c.toNat = true → s.testMode = false → exec (.jtagInstruction c) s = .next
          ((State.wr { s with jtag := { s.jtag with ir := 0xFF } } Rg.testJtagRefused 1).raise 995 c.toNat 0).settle) ∧
        (jtagTestOnly c.toNat = false → exec (.jtagInstruction c) s = .next
          ({ s with jtag := { s.jtag with ir := if jtagKnown c.toNat then c.toNat else 0xFF } } : State).settle)) ∧
      exec .testLogicReset s = .next ({ s with jtag := { s.jtag with ir := 2 } } : State).settle ∧
      (s.awake = true → s.jtag.ir = 0x21 → s.testMode = true → s.boot.mbist = none → exec .jtagMbist s = .next
        ({ s with boot := { s.boot with mbist := some 0x3F } } : State).settle)) ∧
  (∀ (m : MasterId) (src : Fin 1024) (x y : Word) (s : State), s.live = true → s.granted m.val 0x420000 .run →
      (s.injectOpen src.val = false → exec (.inject m src x y) s = .next s.settle) ∧
      (s.injectOpen src.val = true → detectorDomain src.val x.toNat = none → s.rd Rg.injFull = 0 →
        exec (.inject m src x y) s = .next (((((((s.wr Rg.injLastMode 0).wr Rg.injLastEvent src.val).bump Rg.injCount).raise 1008
          src.val 0).markInjected src.val).raiseAsIs src.val x.toNat y.toNat)).settle)) ∧
  (∀ s : State,
      (s.live = true →
        (∀ (lane : Fin 6), exec (.prbsError lane) s = .next (doPrbsError lane s).settle)) ∧
      (s.awake = true →
        (∀ (m : MasterId) (v : Bool), exec (.testHold m v) s = .next (doTestHold m v s).settle) ∧
        (∀ (m : MasterId), exec (.mbistRun m) s = .next (doMbistRun m s).settle) ∧
        (∀ (m : MasterId) (v : Bool), exec (.consoleAutoWrite m v) s = .next (doConsoleAutoWrite m v s).settle) ∧
        (exec .jtagMbist s = .next (doJtagMbist s).settle) ∧
        (∀ (m : MasterId) (src : Fin 1024) (a0 a1 : Word),
          exec (.inject m src a0 a1) s = .next (doInject m src a0 a1 s).settle)) ∧
      ((∀ (par : Bool), exec (.vioOutOfRange par) s = .next (doVioOutOfRange par s).settle) ∧
        (∀ (par high : Bool), exec (.vioInRange par high) s = .next (doVioInRange par high s).settle) ∧
        (∀ (code : BitVec 8), exec (.jtagInstruction code) s = .next (doJtagInstruction code s).settle) ∧
        (exec .testLogicReset s = .next (doTestLogicReset s).settle)))

/-- A read of a register word by a master that may read it gives the word, with what the read does; the halves of a 64-bit value
are such words, and the word of a tenant's queue gives its oldest event. Without the right, bits [31:16] are 0xDEAD and the
low byte names the target (R655). A write of a register word by a master that may make it updates the fields of the word that
can be written; the words of the access table, of MBIND and of PEND are such words. A write that the master may not make is
denied whole (R655, R656). JTAG reads and writes as master 1. Whatever their operands, these commands complete wherever they
are heard: RC_READ, SNAP_LOW_READ, SNAP_HIGH_READ, EVENT_POP_READ, REGISTER_WRITE, ACCESS_TABLE_WRITE, MBIND_WRITE,
MASTER_UNBIND, PEND_CLEAR, JTAG_REG_ACCESS. Each answers a next state, that of its own effect, and the outputs follow it. -/
def Obligations.Registers : Prop :=
  (∀ (m : MasterId) (w : RegWord) (s : State), s.live = true → s.gateAt (wordAddr w) = .pass →
      (s.mayRead m.val (wordAddr w) = true →
        let r := s.readWord m.val (wordAddr w)
        exec (.rcRead m w) s = .next (r.1.answer m.val r.2).settle ∧
        (s.isPairWord m.val (wordAddr w) 0 = true → exec (.snapLowRead m w) s = .next (r.1.answer m.val r.2).settle) ∧
        (s.isPairWord m.val (wordAddr w) 1 = true → exec (.snapHighRead m w) s = .next (r.1.answer m.val r.2).settle) ∧
        (∀ t : TenantId, wordAddr w = 0x48000 + 0x40 * t.val →
          exec (.eventPopRead m t) s = .next (r.1.answer m.val r.2).settle)) ∧
      (∀ t : Nat, s.mayRead m.val (wordAddr w) = false → s.asTested.tenantOf m.val = some t →
        exec (.rcRead m w) s = .next ((s.deny m.val (wordAddr w) false).answer m.val
          (0xDEAD0000 ||| (targetOf (wordAddr w)).getD 0xFF)).settle)) ∧
  (∀ (m : MasterId) (s : State), s.live = true →
      (∀ (w : RegWord) (v : Word), s.gateAt (wordAddr w) = .pass →
        let us := s.updsAt m.val (wordAddr w) v.toNat
        (s.mayWrite m.val (wordAddr w) us = true → exec (.registerWrite m w v) s = .next (s.applyUpds m.val us).1.settle ∧
          ((tableOf (wordAddr w)).isSome = true → exec (.accessTableWrite m w v) s = .next (s.applyUpds m.val us).1.settle)) ∧
        (s.mayWrite m.val (wordAddr w) us = false →
          exec (.registerWrite m w v) s = .next (s.deny m.val (wordAddr w) true).settle)) ∧
      (∀ (n : MasterId) (t : TenantId), s.gateAt (0x200 + 4 * n.val) = .pass →
        (s.mayWrite m.val (0x200 + 4 * n.val) (s.updsAt m.val (0x200 + 4 * n.val) (t.val * 2 ^ 16)) = true →
          exec (.mbindWrite m n t) s = .next
            (s.applyUpds m.val (s.updsAt m.val (0x200 + 4 * n.val) (t.val * 2 ^ 16))).1.settle) ∧
        (s.mayWrite m.val (0x200 + 4 * n.val) (s.updsAt m.val (0x200 + 4 * n.val) 1) = true →
          exec (.masterUnbind m n) s = .next (s.applyUpds m.val (s.updsAt m.val (0x200 + 4 * n.val) 1)).1.settle)) ∧
      (∀ (g : Fin 32) (k : Word), s.gateAt (0x40100 + 4 * g.val) = .pass →
        s.mayWrite m.val (0x40100 + 4 * g.val) (s.updsAt m.val (0x40100 + 4 * g.val) k.toNat) = true →
        exec (.pendClear m g k) s = .next
          (s.applyUpds m.val (s.updsAt m.val (0x40100 + 4 * g.val) k.toNat)).1.settle) ∧
      (∀ d : BitVec 64, s.jtag.ir = 0x20 → d.toNat % 2 = 1 → d.toNat / 2 % 2 = 1 →
        s.gateAt (d.toNat / 2 ^ 8 % 2 ^ 24 / 4 * 4) = .pass →
        let us := s.updsAt 1 (d.toNat / 2 ^ 8 % 2 ^ 24 / 4 * 4) (d.toNat / 2 ^ 32)
        s.mayWrite 1 (d.toNat / 2 ^ 8 % 2 ^ 24 / 4 * 4) us = true →
          exec (.jtagRegAccess d) s = .next (s.applyUpds 1 us).1.settle)) ∧
  (∀ s : State,
      (s.awake = true →
        (∀ (m : MasterId) (w : RegWord), exec (.rcRead m w) s = .next (doRcRead m w s).settle) ∧
        (∀ (m : MasterId) (w : RegWord), exec (.snapLowRead m w) s = .next (doSnapLowRead m w s).settle) ∧
        (∀ (m : MasterId) (w : RegWord), exec (.snapHighRead m w) s = .next (doSnapHighRead m w s).settle) ∧
        (∀ (m : MasterId) (t : TenantId), exec (.eventPopRead m t) s = .next (doEventPopRead m t s).settle) ∧
        (∀ (m : MasterId) (w : RegWord) (v : Word), exec (.registerWrite m w v) s = .next (doRegisterWrite m w v s).settle) ∧
        (∀ (m : MasterId) (w : RegWord) (v : Word),
          exec (.accessTableWrite m w v) s = .next (doAccessTableWrite m w v s).settle) ∧
        (∀ (m : MasterId) (n : MasterId) (t : TenantId), exec (.mbindWrite m n t) s = .next (doMbindWrite m n t s).settle) ∧
        (∀ (m : MasterId) (n : MasterId), exec (.masterUnbind m n) s = .next (doMasterUnbind m n s).settle) ∧
        (∀ (m : MasterId) (g : Fin 32) (mask : Word), exec (.pendClear m g mask) s = .next (doPendClear m g mask s).settle) ∧
        (∀ (dr : BitVec 64), exec (.jtagRegAccess dr) s = .next (doJtagRegAccess dr s).settle)))

/-- A TCP connection opens a free session with E0768, and is turned away with "err 405" without one; a session that closes is
logged out, its registers cleared, and told with E0769; it also closes when it has been idle; the lock of its login ends.
UART sessions: XON and XOFF, or CTS, stop and start the output of a session that uses them; a BREAK and the wake pattern drop
the line being received, raise E0775 and wake, and do nothing while the supply of their bank is out of range. Whatever their
operands, these commands complete wherever they are heard: TCP_CONNECT, TCP_CLOSE, SESSION_CLOSE, SESSION_IDLE_TIMEOUT,
LOGIN_LOCK_EXPIRY, XON_XOFF, CTS_CHANGE, BREAK, WAKE_PATTERN. Each answers a next state, that of its own effect, and the
outputs follow it. -/
def Obligations.SessionLinks : Prop :=
  (∀ s : State, s.live = true →
      (∀ (p : Fin 2) (ip : Word) (port : Fin 65536), (s.rd Rg.thTcpEn).testBit p.val = true → s.domainUp 3 = true →
        s.ethLive p.val = true →
        (∀ n : Nat, s.freeSession = some n → exec (.tcpConnect p ip port) s = .next
          ((((((((s.wr Rg.sesState 1 n).wr Rg.sesMode 0 n).wr Rg.sesEcho 0 n).wr Rg.sesPeerIp ip.toNat n).wr Rg.sesPeerPortEth p.val
            n).wr Rg.sesPeerTcp port.val n).modSes n (fun y => { gone := y.gone, lockUntil := y.lockUntil, lastLine := s.now })).raise
              768 n 0).settle) ∧
        (s.freeSession = none → exec (.tcpConnect p ip port) s = .next ({ s with thotor := { s.thotor with
          turnedAway := (p.val, ip.toNat, port.val, tx "err 405 NO_SESSION" ++ crlf) :: s.thotor.turnedAway } } : State).settle)) ∧
      (∀ n : SessionId, isUart n.val = false → s.sesOpen n.val = true →
        let t := (((s.logoutPlain n.val).cciForget n.val).storeLoosen n.val).baudApply n.val
        let u := (((t.wr Rg.sesState 0 n.val).wr Rg.sesMode 0 n.val).wr Rg.sesEcho 0 n.val).wr Rg.sesPeerIp 0 n.val
        let v := (((u.wr Rg.sesPeerPortEth 0 n.val).wr Rg.sesPeerTcp 0 n.val).modSes n.val (fun y =>
          { gone := y.gone, lockUntil := y.lockUntil })).raise 769 n.val ((s.tenantOf (sesMaster n.val)).getD 0)
        exec (.tcpClose n) s = .next v.settle ∧
        (∀ m : MasterId, s.granted m.val (0x380000 + 0x40 * n.val) .run → exec (.sessionClose m n) s = .next v.settle)) ∧
      (∀ n : SessionId, s.rd Rg.sesIdleS n.val ≠ 0 → s.sesOpen n.val = true →
        let t := s.reach ((s.ses n.val).lastLine + msTicks (1000 * s.rd Rg.sesIdleS n.val))
        exec (.sessionIdleTimeout n) s = .next ((t.modSes n.val (fun y => { y with lastLine := t.now })).sesClose n.val).settle) ∧
      (∀ (n : SessionId) (t : Nat), (s.ses n.val).lockUntil = some t → exec (.loginLockExpiry n) s = .next
        ((s.reach t).modSes n.val (fun y => { y with lockUntil := none })).settle)) ∧
  (∀ s : State, s.live = true →
      (∀ (n : SessionId) (x : Bool),
        (s.flowOf n.val = 2 → exec (.xonXoff n x) s = .next (s.modSes n.val (fun y => { y with stopped := !x })).settle) ∧
        (s.flowOf n.val ≠ 2 → exec (.xonXoff n x) s = .next s.settle)) ∧
      (∀ (n : Fin 2) (x : Bool),
        exec (.ctsChange n x) s = .next (s.modSes n.val (fun y => { y with ctsOff := !x })).settle) ∧
      (∀ n : Fin 2, s.rd Rg.supplyVioHOk = 1 →
        exec (.break n) s = .next (((s.dropPartial n.val).raise 775 n.val ((s.tenantOf (sesMaster n.val)).getD 0)).wakeEvent
          (10 + 2 * n.val)).settle ∧
        exec (.wakePattern n) s = .next (((((s.dropPartial n.val).modSes n.val (fun y => { y with lastCr := true })).raise 775
          n.val ((s.tenantOf (sesMaster n.val)).getD 0)).wakeEvent (11 + 2 * n.val)).patternAnswer n.val).settle) ∧
      (∀ n : Fin 2, s.rd Rg.supplyVioHOk = 0 → exec (.break n) s = .next s.settle ∧ exec (.wakePattern n) s = .next s.settle)) ∧
  (∀ s : State,
      (s.live = true →
        (∀ (p : Fin 2) (ip : Word) (port : Fin 65536),
          exec (.tcpConnect p ip port) s = .next (doTcpConnect p ip port s).settle) ∧
        (∀ (m : MasterId) (n : SessionId), exec (.sessionClose m n) s = .next (doSessionClose m n s).settle) ∧
        (∀ (n : SessionId), exec (.sessionIdleTimeout n) s = .next (doSessionIdleTimeout n s).settle)) ∧
      (s.awake = true →
        (∀ (n : SessionId), exec (.tcpClose n) s = .next (doTcpClose n s).settle) ∧
        (∀ (n : SessionId), exec (.loginLockExpiry n) s = .next (doLoginLockExpiry n s).settle) ∧
        (∀ (n : SessionId) (xon : Bool), exec (.xonXoff n xon) s = .next (doXonXoff n xon s).settle) ∧
        (∀ (n : Fin 2) (asserted : Bool), exec (.ctsChange n asserted) s = .next (doCtsChange n asserted s).settle) ∧
        (∀ (n : Fin 2), exec (.break n) s = .next (doBreak n s).settle) ∧
        (∀ (n : Fin 2), exec (.wakePattern n) s = .next (doWakePattern n s).settle)))

/-- Characters: a printable one is appended to the line and echoed; a terminator ends the line, which may then execute; the 256th
character of a line is lost and the line marked. Bytes of the output leave it from the front. Whatever their operands, these
commands complete wherever they are heard: TYPED_CHARACTER, LINE_COMPLETE, OUTPUT_DRAIN. Each answers a next state, that of
its own effect, and the outputs follow it. -/
def Obligations.Characters : Prop :=
  (∀ (n : SessionId) (s : State), s.live = true →
      (∀ b : Byte, s.sesHears n.val = true → (s.ses n.val).skip = 0 → (s.ses n.val).held < 1024 → (s.ses n.val).esc = 0 →
        0x20 ≤ b.toNat → b.toNat ≤ 0x7E →
        let t := s.modSes n.val (fun z => { z with lastCr := false })
        exec (.typedCharacter n b) s = .next (t.lineChar n.val (Char.ofNat b.toNat)).settle) ∧
      (∀ lf : Bool, s.sesHears n.val = true → (s.ses n.val).skip = 0 → (s.ses n.val).held < 1024 → (s.ses n.val).esc = 0 →
        (s.ses n.val).lastCr = false → isUart n.val = false →
        let t := (s.echo n.val crlf).modSes n.val (fun z => { z with lines := z.lines ++ [{ z.line with at_ := s.now }],
                                                                     line := { text := [] }, esc := 0, lastCr := !lf,
                                                                     lastLine := s.now })
        exec (.lineComplete n lf) s = .next ((t.flowCheck n.val).runLines).settle) ∧
      (∀ left : Nat, s.sesOpen n.val = true → s.flowHeld n.val = false → left < (s.ses n.val).out.length →
        2048 ≤ left →
        exec (.outputDrain n left) s = .next (s.modSes n.val (fun z =>
          { z with out := z.out.drop ((s.ses n.val).out.length - left),
                   gone := z.gone ++ z.out.take ((s.ses n.val).out.length - left) })).runLines.settle)) ∧
  (∀ s : State,
      (s.awake = true →
        (∀ (n : SessionId) (b : Byte), exec (.typedCharacter n b) s = .next (doTypedCharacter n b s).settle) ∧
        (∀ (n : SessionId) (lf : Bool), exec (.lineComplete n lf) s = .next (doLineComplete n lf s).settle) ∧
        (∀ (n : SessionId) (left : Nat), exec (.outputDrain n left) s = .next (doOutputDrain n left s).settle)))

/-- Session verbs, typed or as a machine request that the session does not remember: login binds the session to a tenant whose
code it gives, answers 202 for a wrong code, which counts, and 204 while login is locked (R584); logout, mode and help; get
and set answer what their paths give; the empty command answers with the prompt alone. Whatever their operands, these
commands complete wherever they are heard: LOGIN, LOGOUT, MODE, HELP, EMPTY_COMMAND, GET, SET. Each answers a next state,
that of its own effect, and the outputs follow it. -/
def Obligations.SessionVerbs : Prop :=
  (∀ (n : SessionId) (x : Form) (s : State), s.turn n.val x →
      let u := s.taken n.val
      (∀ (t : TenantId) (c : Word),
        (u.loginLocked n.val = true → exec (.login n x t c) s = .next (u.finish n.val x false (.err 204 [])).settle) ∧
        (u.loginLocked n.val = false → u.loginFits n.val t.val c.toNat = true →
          exec (.login n x t c) s = .next ((u.loginTo n.val t.val).finish n.val x false .ok).settle) ∧
        (u.loginLocked n.val = false → u.loginFits n.val t.val c.toNat = false →
          exec (.login n x t c) s = .next ((u.loginFailed n.val t.val).finish n.val x false (.err 202 [])).settle)) ∧
      exec (.logout n x) s = .next ((u.logout n.val).finish n.val x false .ok).settle ∧
      exec (.modeVerb n x true) s = .next (((u.wr Rg.sesMode 1 n.val).wr Rg.sesEcho 0 n.val).finish n.val x false .ok).settle ∧
      exec (.helpVerb n x []) s = .next (u.finish n.val x true (.data (syntaxLines.map (fun e => tx e.1)))).settle ∧
      (x = .typed → exec (.emptyCommand n x) s = .next (u.prompt n.val).settle) ∧
      (x ≠ .typed → exec (.emptyCommand n x) s = .next (u.finish n.val x true .ok).settle) ∧
      (∀ t : Nat, s.turnOf n.val x t →
        (∀ ps : List Text, exec (.getVerb n x ps) s = .next ((u.getPaths (sesMaster n.val) t ps).1.finish n.val x true
          (u.getPaths (sesMaster n.val) t ps).2).settle) ∧
        (∀ asg : List (Text × Text),
          let r := u.setPaths (sesMaster n.val) t asg
          exec (.setVerb n x asg) s = .next ((r.1.each [0, 1] (fun st k => st.baudLater n.val k (u.ses k).baud)).finish n.val
            x false r.2).settle))) ∧
  (∀ s : State,
      (s.live = true →
        (∀ (n : SessionId) (x : Form) (t : TenantId) (code : Word),
          exec (.login n x t code) s = .next (doLogin n x t code s).settle) ∧
        (∀ (n : SessionId) (x : Form), exec (.logout n x) s = .next (doLogout n x s).settle) ∧
        (∀ (n : SessionId) (x : Form) (machine : Bool),
          exec (.modeVerb n x machine) s = .next (doMode n x machine s).settle) ∧
        (∀ (n : SessionId) (x : Form) (topic : Text), exec (.helpVerb n x topic) s = .next (doHelp n x topic s).settle) ∧
        (∀ (n : SessionId) (x : Form), exec (.emptyCommand n x) s = .next (doEmptyCommand n x s).settle) ∧
        (∀ (n : SessionId) (x : Form) (paths : List Text), exec (.getVerb n x paths) s = .next (doGet n x paths s).settle) ∧
        (∀ (n : SessionId) (x : Form) (asg : List (Text × Text)),
          exec (.setVerb n x asg) s = .next (doSet n x asg s).settle)))

/-- Table verbs in either form: their words are read and written as the window does it, a bank in use answers 402, and a tenant
without the right gets 203 and changes nothing but its line count; statistics give the posted block or 401; coefficients are
read, written and reset. Camera control verbs push one transaction of the session, and the session waits; a disabled master
answers 401. A session whose result has not come after 1,000 ms is answered 402 PENDING. An ack of its own correspondent
moves ACKED forward. Whatever their operands, these commands complete wherever they are heard: TABLE_READ, TABLE_WRITE,
STATS, COEF_READ, COEF_RESET, COEF_WRITE, CCI_WRITE, CCI_READ, CCI_VERB_TIMEOUT, ACK. Each answers a next state, that of its
own effect, and the outputs follow it. -/
def Obligations.TableAndCciVerbs : Prop :=
  (∀ (n : SessionId) (x : Form) (t : Nat) (s : State), s.turnOf n.val x t →
      let u := s.taken n.val
      let answers (st : State) (r : Reply) : State := (st.finish n.val x false r).settle
      (∀ p b k a c : Nat, tableArgs p b k a c = true →
        (u.allowed t [(0x14, none, .look)] → exec (.tableRead n x p b k a c) s = .next (answers u (.data
          [dataLine (tableName p b k a) (spaced ((upto c).map (fun i => hexW 32 (u.tbl (2 * p + b) k (a + i)))))]))) ∧
        (u.holds t 0x14 none .look = false → exec (.tableRead n x p b k a c) s = .next (answers u (.err 203 (tx "pipe"))))) ∧
      (∀ (p b k a : Nat) (ws : List Nat), tableArgs p b k a ws.length = true → ws.all (fun w => decide (w < 2 ^ 32)) = true →
        u.allowed t [(0x14, none, .set)] →
        (u.bankInUse (2 * p + b) = false → exec (.tableWrite n x p b k a ws) s = .next
          (answers (u.each ws.zipIdx (fun st w => st.tblWrite (2 * p + b) k (a + w.2) w.1)) .ok)) ∧
        (u.bankInUse (2 * p + b) = true → exec (.tableWrite n x p b k a ws) s = .next
          (answers ((u.wr Rg.pipeTblBusy 1).raise 451 0 0) (.err 402 [])))) ∧
      (∀ (l : LaneId) (q c : Fin 4), u.allowed t [(0x10, some l.val, .look)] →
        let bs := if u.rd Rg.lnStatCur l.val = 1 then (u.lane l.val).stat1 else (u.lane l.val).stat0
        (u.rd Rg.lnPosted l.val = 0 → exec (.stats n x l q c) s = .next (answers u (.err 401 []))) ∧
        (u.rd Rg.lnPosted l.val ≠ 0 → bs ≠ [] → exec (.stats n x l q c) s = .next
          (answers u (.data (statsLines l.val bs q.val c.val))))) ∧
      (∀ (l : LaneId) (k : Nat), k < 4 → u.targetAway 0x1C = false →
        (∀ ph : Nat, ph < 64 → u.allowed t [(0x10, some l.val, .look)] → exec (.coefRead n x l k ph) s = .next (answers u (.data
          [dataLine (joinWith ['.'] [tx "coef", 'L' :: dec2 l.val, dec k, dec ph])
            (spaced ((upto 8).map (fun i => decI (u.coef l.val k ph i))))]))) ∧
        (u.allowed t [(0x10, some l.val, .set)] → u.rd Rg.osEn l.val k = 0 →
          exec (.coefReset n x l k) s = .next
            (answers { u with coefs := u.coefs.filter (fun e => e.1 / 512 != l.val * 4 + k) } .ok) ∧
          (∀ (ph : Nat) (vs : List Int), ph < 64 → vs.length = 8 →
            vs.all (fun v => decide (-2048 ≤ v) && decide (v ≤ 2047)) = true →
            exec (.coefWrite n x l k ph vs) s = .next
              (answers (u.each vs.zipIdx (fun st v => st.coefWrite l.val k ph v.2 (ofSigned 12 v.1))) .ok))))) ∧
  (∀ (n : SessionId) (s : State),
      (∀ (t : Nat) (x : Form) (c : CciId) (a : CciArgs), s.turnOf n.val x t →
        let u := s.taken n.val
        let answers (st : State) (r : Reply) : State := (st.finish n.val x false r).settle
        let cmd (rd : Bool) : CciTx :=
          { tag := 0, lane := a.lane.getD 0, trig := a.trig, dataBytes := a.db, regBytes := a.rb, read := rd, dev := a.dev,
            reg := a.reg, data := if rd then 0 else a.data, session := some n.val }
        let waits (rd : Bool) : State := ((u.cciPush c.val (cmd rd)).modSes n.val (fun y =>
          { y with wait := some (.cci c.val rd a.db u.now, x) })).settle
        a.good = true → u.allowed t [(8, some (6 + c.val), .run)] →
          (u.rd Rg.cciEn c.val = 1 → (u.cciOf c.val).queue.length < 64 →
            exec (.cciWrite n x c a) s = .next (waits false) ∧ exec (.cciRead n x c a) s = .next (waits true)) ∧
          (u.rd Rg.cciEn c.val = 0 → exec (.cciWrite n x c a) s = .next (answers u (.err 401 [])) ∧
            exec (.cciRead n x c a) s = .next (answers u (.err 401 [])))) ∧
      (∀ (m d since : Nat) (r : Bool) (x : Form), s.live = true → (s.ses n.val).wait = some (.cci m r d since, x) →
        exec (.cciVerbTimeout n) s = .next
          ((((s.reach (since + msTicks 1000)).cciForget n.val).waitOver n.val x (.err 402 (tx "PENDING"))).runLines).settle) ∧
      (∀ (t q : Nat) (x : Form) (c : CorrId), s.turnOf n.val x t →
        let u := s.taken n.val
        let answers (st : State) (r : Reply) : State := (st.finish n.val x false r).settle
        u.allowed t [(0x30, some c.val, .run)] → q < 2 ^ 64 →
          ((u.corr c.val).kind ≠ 3 → exec (.ack n x c q) s = .next (answers u (.err 401 []))) ∧
          ((u.corr c.val).kind = 3 → (u.corr c.val).route = n.val → seqAhead (u.hiSent c.val) q = false →
            seqAhead (u.corr c.val).acked q = true → exec (.ack n x c q) s = .next (answers (u.ackAdvance c.val q) .ok)))) ∧
  (∀ s : State,
      (s.live = true →
        (∀ (n : SessionId) (x : Form) (p b t at_ count : Nat),
          exec (.tableRead n x p b t at_ count) s = .next (doTableRead n x p b t at_ count s).settle) ∧
        (∀ (n : SessionId) (x : Form) (p b t at_ : Nat) (ws : List Nat),
          exec (.tableWrite n x p b t at_ ws) s = .next (doTableWrite n x p b t at_ ws s).settle) ∧
        (∀ (n : SessionId) (x : Form) (l : LaneId) (part : Fin 4) (chan : Fin 4),
          exec (.stats n x l part chan) s = .next (doStats n x l part chan s).settle) ∧
        (∀ (n : SessionId) (x : Form) (l : LaneId) (k ph : Nat),
          exec (.coefRead n x l k ph) s = .next (doCoefRead n x l k ph s).settle) ∧
        (∀ (n : SessionId) (x : Form) (l : LaneId) (k : Nat),
          exec (.coefReset n x l k) s = .next (doCoefReset n x l k s).settle) ∧
        (∀ (n : SessionId) (x : Form) (l : LaneId) (k ph : Nat) (taps : List Int),
          exec (.coefWrite n x l k ph taps) s = .next (doCoefWrite n x l k ph taps s).settle) ∧
        (∀ (n : SessionId) (x : Form) (c : CciId) (a : CciArgs),
          exec (.cciWrite n x c a) s = .next (doCciWrite n x c a s).settle) ∧
        (∀ (n : SessionId) (x : Form) (c : CciId) (a : CciArgs),
          exec (.cciRead n x c a) s = .next (doCciRead n x c a s).settle) ∧
        (∀ (n : SessionId), exec (.cciVerbTimeout n) s = .next (doCciVerbTimeout n s).settle) ∧
        (∀ (n : SessionId) (x : Form) (c : CorrId) (q : Nat), exec (.ack n x c q) s = .next (doAck n x c q s).settle)))

/-- Verbs of the SFE: a channel's result, filter taps and linearisation words are read and written as their windows do it, and a
stored table is loaded and committed. The parameter store: its entries are listed by name; a write of T00 with room for it
begins and the session waits; when it is done the entry holds the bytes and the session is answered; an entry is erased by
name, or 301. Whatever their operands, these commands complete wherever they are heard: SFE_READ, FIR_READ, FIR_WRITE,
LIN_READ, LIN_WRITE, LIN_LOAD, STORE_LIST, STORE_WRITE, STORE_ERASE, STORE_WRITE_DONE. Each answers a next state, that of its
own effect, and the outputs follow it. -/
def Obligations.SfeAndStoreVerbs : Prop :=
  (∀ (n : SessionId) (x : Form) (t : Nat) (s : State), s.turnOf n.val x t →
      let u := s.taken n.val
      let answers (st : State) (r : Reply) : State := (st.finish n.val x false r).settle
      (∀ c : ChanId, u.allowed t [(0x3C, some c.val, .look)] →
        let name := fun (z : Text) => tx "sfe." ++ 'S' :: dec2 c.val ++ '.' :: z
        exec (.sfeRead n x c) s = .next (answers u (.data
          [dataLine (name (tx "value")) (decI (u.rdI Rg.sdValue c.val)), dataLine (name (tx "tag")) (dec (u.rd Rg.sdTag c.val)),
           dataLine (name (tx "flags")) (hexW 12 (u.rd Rg.sdFlags c.val)), dataLine (name (tx "seq")) (dec (u.rd Rg.sdSeq c.val)),
           dataLine (name (tx "stamp")) (dec (u.rd Rg.sdStamp c.val))]))) ∧
      (∀ (c : ChanId) (b a k : Nat), firArgs c.val b a k = true → u.allowed t [(0x3C, some c.val, .look)] →
        exec (.firRead n x c b a k) s = .next (answers u (.data [dataLine (joinWith ['.'] [tx "fir", 'S' :: dec2 c.val, dec b,
          dec a]) (spaced ((upto k).map (fun i => decI (u.tap c.val b (a + i)))))]))) ∧
      (∀ (c : ChanId) (b a : Nat) (hs : List Int), firArgs c.val b a hs.length = true →
        hs.all (fun v => decide (-8388608 ≤ v) && decide (v ≤ 8388607)) = true → u.allowed t [(0x3C, some c.val, .set)] →
        (u.firInUse c.val b = false → exec (.firWrite n x c b a hs) s = .next
          (answers (u.each hs.zipIdx (fun st h => st.firWrite c.val b (a + h.2) h.1)) .ok)) ∧
        (u.firInUse c.val b = true → exec (.firWrite n x c b a hs) s = .next (answers u.bankBusy (.err 402 [])))) ∧
      (∀ b tb k a c : Nat, linArgs b tb k a c = true → u.allowed t [(0x3C, none, .look)] →
        exec (.linRead n x b tb k a c) s = .next (answers u (.data [dataLine (joinWith ['.'] [tx "lin", dec b, dec tb, dec a])
          (spaced ((upto c).map (fun i => if k = 0 then decI (toSigned 32 (u.linWord b k tb (a + i))) else
            hexW 32 (u.linWord b k tb (a + i)))))]))) ∧
      (∀ (b tb k a : Nat) (ws : List Int), linArgs b tb k a ws.length = true →
        ws.all (fun v => decide (-2147483648 ≤ v) && decide (v < 4294967296)) = true → u.allowed t [(0x3C, none, .set)] →
        u.linInUse b = false → exec (.linWrite n x b tb k a ws) s = .next
          (answers (u.each ws.zipIdx (fun st w => st.linWrite b k tb (a + w.2) (ofSigned 32 w.1))) .ok)) ∧
      (∀ (b tb : Nat) (file : Text), b < 2 → tb < 16 → u.allowed t [(0x3C, none, .set)] →
        (u.storeFind (lower file) = none → exec (.linLoad n x b tb file) s = .next (answers u (.err 301 []))) ∧
        (∀ (e : StoreEntry) (np : Nat), u.storeFind (lower file) = some e → storeLoad e.bytes = some (0, np) →
          u.linInUse b = false →
          let v := ((u.each (upto ((e.bytes.length - 4) / 4)) (fun st k =>
            st.linWrite b 0 tb k (leAt e.bytes (4 + 4 * k) 4))).linSetPoints b tb np).linCommit b
          exec (.linLoad n x b tb file) s = .next (answers v (if v.linValid b then .ok else .err 401 []))))) ∧
  (∀ (n : SessionId) (s : State),
      (∀ (t : Nat) (x : Form), s.turnOf n.val x t →
        let u := s.taken n.val
        let answers (st : State) (r : Reply) : State := (st.finish n.val x false r).settle
        (u.holds t 0x3C none .look = true → exec (.storeList n x) s = .next (answers u (.data (u.thotor.store.map (fun e =>
          dataLine (tx "store." ++ e.name) (dec e.bytes.length)))))) ∧
        (∀ (name : Text) (off : Nat) (bs : List Byte), t = 0 → storeName name = true → 1 ≤ bs.length → bs.length ≤ 96 →
          off + bs.length ≤ 1024 →
          let l := storePut u.storePlanned (lower name)
            (overlay (match u.storePlanned.find? (fun e => e.name == lower name) with | some e => e.bytes | none => []) off bs)
          l.length ≤ 64 → (l.map (fun e => e.bytes.length)).sum ≤ 65536 →
            exec (.storeWrite n x name off bs) s = .next (u.modSes n.val (fun y =>
              { y with wait := some (.store (lower name) off bs u.now, x) })).settle) ∧
        (∀ name : Text, t = 0 →
          (u.storeFind (lower name) = none → exec (.storeErase n x name) s = .next (answers u (.err 301 []))) ∧
          ((u.storeFind (lower name)).isSome = true → exec (.storeErase n x name) s = .next
            (answers { u with thotor := { u.thotor with store := u.thotor.store.filter (fun e => e.name != lower name) } } .ok))) ∧
        (∀ name : Text, t ≠ 0 → exec (.storeErase n x name) s = .next (answers u (.err 203 (tx "T00"))))) ∧
      (∀ (name : Text) (off since : Nat) (bs : List Byte) (x : Form), s.live = true →
        (s.ses n.val).wait = some (.store name off bs since, x) → exec (.storeWriteDone n) s = .next
          ((((s.storeApply name off bs).waitOver n.val x .ok).runLines)).settle)) ∧
  (∀ s : State,
      (s.live = true →
        (∀ (n : SessionId) (x : Form) (c : ChanId), exec (.sfeRead n x c) s = .next (doSfeRead n x c s).settle) ∧
        (∀ (n : SessionId) (x : Form) (c : ChanId) (b at_ count : Nat),
          exec (.firRead n x c b at_ count) s = .next (doFirRead n x c b at_ count s).settle) ∧
        (∀ (n : SessionId) (x : Form) (c : ChanId) (b at_ : Nat) (hs : List Int),
          exec (.firWrite n x c b at_ hs) s = .next (doFirWrite n x c b at_ hs s).settle) ∧
        (∀ (n : SessionId) (x : Form) (b t kind at_ count : Nat),
          exec (.linRead n x b t kind at_ count) s = .next (doLinRead n x b t kind at_ count s).settle) ∧
        (∀ (n : SessionId) (x : Form) (b t kind at_ : Nat) (ws : List Int),
          exec (.linWrite n x b t kind at_ ws) s = .next (doLinWrite n x b t kind at_ ws s).settle) ∧
        (∀ (n : SessionId) (x : Form) (b t : Nat) (file : Text),
          exec (.linLoad n x b t file) s = .next (doLinLoad n x b t file s).settle) ∧
        (∀ (n : SessionId) (x : Form), exec (.storeList n x) s = .next (doStoreList n x s).settle) ∧
        (∀ (n : SessionId) (x : Form) (name : Text) (off : Nat) (bs : List Byte),
          exec (.storeWrite n x name off bs) s = .next (doStoreWrite n x name off bs s).settle) ∧
        (∀ (n : SessionId) (x : Form) (name : Text),
          exec (.storeErase n x name) s = .next (doStoreErase n x name s).settle)) ∧
      (s.awake = true →
        (∀ (n : SessionId), exec (.storeWriteDone n) s = .next (doStoreWriteDone n s).settle)))

/-- Engine verbs: reset engine of T00 is answered and then begins; journal erase needs the tenant's code, or answers 202, and an
idle engine, or answers 401; journal read and test journal become jobs when the door accepts them, and a job whose work is
done ends with its result. Event and time verbs: peek shows the oldest events of the tenant's queue and pop takes them too;
time gives the timebase, the index of the Period, its length and the alarm; an alarm is a tick to come, or off, and wakes
with cause 25. Whatever their operands, these commands complete wherever they are heard: RESET_ENGINE, JOURNAL_ERASE,
JOURNAL_READ, TEST_JOURNAL, JOB_WORK_DONE, EVENT_PEEK, EVENT_POP, TIME, TIME_ALARM, TIME_ALARM_FIRE. Each answers a next
state, that of its own effect, and the outputs follow it. -/
def Obligations.EngineVerbs : Prop :=
  (∀ s : State,
      (∀ (n : SessionId) (x : Form) (t : Nat), s.turnOf n.val x t →
        let u := s.taken n.val
        let answers (st : State) (r : Reply) : State := (st.finish n.val x false r).settle
        (t = 0 → exec (.resetEngine n x) s = .next
          (answers { u with thotor := { u.thotor with resetAsked := some n.val } } .ok)) ∧
        (t ≠ 0 → exec (.resetEngine n x) s = .next (answers u (.err 203 (tx "T00")))) ∧
        (∀ code : Word, t = 0 →
          (u.rd Rg.thCode 0 ≠ code.toNat → exec (.journalErase n x code) s = .next (answers u (.err 202 []))) ∧
          (u.rd Rg.thCode 0 = code.toNat → u.eraseOk = false →
            exec (.journalErase n x code) s = .next (answers u (.err 401 []))) ∧
          (u.rd Rg.thCode 0 = code.toNat → u.eraseOk = true → exec (.journalErase n x code) s = .next
            (answers { u with thotor := { u.thotor with resetAsked := some n.val, eraseAsked := true } } .ok))) ∧
        (∀ (c : CorrId) (v : State) (o : Nat), u.corrFree c.val = false → (u.corr c.val).kind ≠ 0 →
          (∀ k : Nat, 1 ≤ k → k ≤ 48 → u.allowed t [(2, none, .look), (0x30, some c.val, .look)] →
            u.doorJob n.val c.val 1 2 [0, 1, k] = (v, .accepted o) →
            exec (.journalRead n x none k c) s = .next (answers v (.job o))) ∧
          (u.allowed t [(0x42, none, .run), (0x30, some c.val, .look)] →
            u.doorJob n.val c.val 2 (ceilDiv 6250000 (max 1 u.periodTicks) + 2) [] = (v, .accepted o) →
            exec (.testJournal n x c) s = .next (answers v (.job o))))) ∧
      (∀ (o : Nat) (b : Billet) (j : JobInfo), s.live = true → s.billet? o = some b → b.job = some j → s.fw.running = false →
        j.code = 2 →
        let r := s.journalTest
        exec (.jobWorkDone o) s = .next ((r.2.foldl (fun st e => st.raise 130 e.1 e.2) s).jobEnd b j 1
          (if r.2.isEmpty then 0 else 401) (payloadLines r.1)).settle)) ∧
  (∀ s : State,
      (∀ (n : SessionId) (x : Form) (t : Nat), s.turnOf n.val x t →
        let u := s.taken n.val
        let answers (st : State) (r : Reply) : State := (st.finish n.val x false r).settle
        (∀ k : Nat, 1 ≤ k → k ≤ 16 →
          let l := (kvGet [] u.evt.queues t).take k
          (u.allowed t [(4, none, .look)] → exec (.eventPeek n x k) s = .next (answers u (.data (l.map eventText)))) ∧
          (u.allowed t [(4, none, .run)] → exec (.eventPop n x k) s = .next
            (answers (u.each l (fun st _ => (st.popEvent t).1)) (.data (l.map eventText))))) ∧
        (u.allowed t [(0, none, .look)] → exec (.timeVerb n x) s = .next (answers u (.data
          [dataLine (tx "time.now") (dec u.now), dataLine (tx "time.bell") (dec (u.rd Rg.bellCount)),
           dataLine (tx "time.period") (dec (u.rd Rg.bellPeriodAct)), dataLine (tx "time.alarm") (dec (u.thotor.alarm.getD 0))]))) ∧
        (u.allowed t [(0, none, .set)] →
          (∀ k : Nat, u.now < k → k < 2 ^ 64 → exec (.timeAlarm n x (some k)) s = .next
            (answers { u with thotor := { u.thotor with alarm := some k } } .ok)) ∧
          exec (.timeAlarm n x none) s = .next (answers { u with thotor := { u.thotor with alarm := none } } .ok))) ∧
      (∀ k : Nat, s.live = true → s.thotor.alarm = some k → exec .timeAlarmFire s = .next
        (State.wakeEvent { s.reach k with thotor := { (s.reach k).thotor with alarm := none } } 25).settle)) ∧
  (∀ s : State,
      (s.live = true →
        (∀ (n : SessionId) (x : Form), exec (.resetEngine n x) s = .next (doResetEngine n x s).settle) ∧
        (∀ (n : SessionId) (x : Form) (code : Word),
          exec (.journalErase n x code) s = .next (doJournalErase n x code s).settle) ∧
        (∀ (n : SessionId) (x : Form) (serial : Option Nat) (count : Nat) (c : CorrId),
          exec (.journalRead n x serial count c) s = .next (doJournalRead n x serial count c s).settle) ∧
        (∀ (n : SessionId) (x : Form) (c : CorrId), exec (.testJournal n x c) s = .next (doTestJournal n x c s).settle) ∧
        (∀ (o : Nat), exec (.jobWorkDone o) s = .next (doJobWorkDone o s).settle) ∧
        (∀ (n : SessionId) (x : Form) (count : Nat),
          exec (.eventPeek n x count) s = .next (doEventPeek n x count s).settle) ∧
        (∀ (n : SessionId) (x : Form) (count : Nat), exec (.eventPop n x count) s = .next (doEventPop n x count s).settle) ∧
        (∀ (n : SessionId) (x : Form), exec (.timeVerb n x) s = .next (doTime n x s).settle) ∧
        (∀ (n : SessionId) (x : Form) (tick : Option Nat),
          exec (.timeAlarm n x tick) s = .next (doTimeAlarm n x tick s).settle)) ∧
      (s.awake = true →
        (exec .timeAlarmFire s = .next (doTimeAlarmFire s).settle)))

/-- Before login, every command of a session, typed or as a machine request that it does not remember, but help, mode, login,
logout and the empty command is answered with error 201 and has no other effect (R583); and so is every line that begins with
another verb. -/
def Obligations.BeforeLogin : Prop :=
  ∀ (n : SessionId) (x : Form) (s : State), s.turn n.val x →
    let u := s.modSes n.val (fun y => { y with lastLine := s.now })
    u.rd Rg.sesLogged n.val = 0 →
    let query (c : Instr) : Prop := exec c s = .next (u.finish n.val x true (.err 201 [])).settle
    let refused (c : Instr) : Prop := exec c s = .next (u.finish n.val x false (.err 201 [])).settle
    (∀ (ps : List Text) (asg : List (Text × Text)), query (.getVerb n x ps) ∧ refused (.setVerb n x asg)) ∧
    (∀ (a b c d e : Nat) (ws : List Nat), refused (.tableRead n x a b c d e) ∧ refused (.tableWrite n x a b c d ws)) ∧
    (∀ (l : LaneId) (r c : Fin 4) (k ph : Nat) (vs : List Int), refused (.stats n x l r c) ∧
      refused (.coefRead n x l k ph) ∧ refused (.coefWrite n x l k ph vs) ∧ refused (.coefReset n x l k)) ∧
    (∀ (c : CciId) (a : CciArgs), refused (.cciWrite n x c a) ∧ refused (.cciRead n x c a)) ∧
    (∀ (c : ChanId) (b a k : Nat) (hs : List Int), refused (.sfeRead n x c) ∧ refused (.firRead n x c b a k) ∧
      refused (.firWrite n x c b a hs)) ∧
    (∀ (b t k a c : Nat) (ws : List Int) (name : Text) (bs : List Byte), refused (.linRead n x b t k a c) ∧
      refused (.linWrite n x b t k a ws) ∧ refused (.linLoad n x b t name) ∧ refused (.storeList n x) ∧
      refused (.storeWrite n x name a bs) ∧ refused (.storeErase n x name)) ∧
    (∀ (c : CorrId) (k : Nat) (o : Option Nat) (w : Word), refused (.ack n x c k) ∧ refused (.eventPeek n x k) ∧
      refused (.eventPop n x k) ∧ refused (.timeVerb n x) ∧ refused (.timeAlarm n x o) ∧
      refused (.resetEngine n x) ∧ refused (.journalRead n x o k c) ∧ refused (.journalErase n x w) ∧
      refused (.testJournal n x c)) ∧
    (∀ (t v : Text) (ws : List Text), wordsOf t = v :: ws → earlyVerb v = false →
      u.runText n.val x t = u.finish n.val x (queryVerb v) (.err 201 []))
end

