-- ==== Sys2Proof/Laws/Kv.lean ====
section
/-! SUPPORT. Laws of sparse data: a read after a write, other keys, and the canonical form. -/
namespace Sys2Proof.Machine

variable {α : Type}

@[simp] theorem kvGet_nil (d : α) (q : Nat) : kvGet d [] q = d := rfl

theorem kvGet_del_same (d : α) (m : Kv α) (q : Nat) : kvGet d (kvDel m q) q = d := by
  induction m with
  | nil => rfl
  | cons e m ih =>
    by_cases h : e.1 = q
    · simpa [kvDel, h] using ih
    · simpa [kvDel, h, kvGet, Ne.symm h] using ih

theorem kvGet_del_ne (d : α) (m : Kv α) {q r : Nat} (h : r ≠ q) : kvGet d (kvDel m q) r = kvGet d m r := by
  induction m with
  | nil => rfl
  | cons e m ih =>
    by_cases hk : e.1 = q
    · have : r ≠ e.1 := by omega
      simpa [kvDel, hk, kvGet, h] using ih
    · by_cases hr : r = e.1
      · subst hr; simp [kvDel, hk, kvGet]
      · simpa [kvDel, hk, kvGet, hr] using ih

theorem kvGet_insert_ne (d : α) (m : Kv α) {q r : Nat} (x : α) (h : r ≠ q) : kvGet d (kvInsert m q x) r = kvGet d m r := by
  induction m with
  | nil => simp [kvInsert, kvGet, h]
  | cons e m ih =>
    by_cases hk : q < e.1
    · simp [kvInsert, hk, kvGet, h]
    · by_cases hr : r = e.1
      · subst hr; simp [kvInsert, hk, kvGet]
      · simpa [kvInsert, hk, kvGet, hr] using ih

theorem kvGet_insert_same (d : α) (m : Kv α) (q : Nat) (x : α) (h : ∀ e ∈ m, e.1 ≠ q) : kvGet d (kvInsert m q x) q = x := by
  induction m with
  | nil => simp [kvInsert, kvGet]
  | cons e m ih =>
    have he : e.1 ≠ q := h e (by simp)
    by_cases hk : q < e.1
    · simp [kvInsert, hk, kvGet]
    · have := ih (fun a ha => h a (by simp [ha]))
      simpa [kvInsert, hk, kvGet, Ne.symm he] using this

theorem kvDel_ne (m : Kv α) (q : Nat) : ∀ e ∈ kvDel m q, e.1 ≠ q := by
  intro e he
  simp [kvDel] at he
  exact he.2

@[simp] theorem kvGet_put_same (d : α) (m : Kv α) (q : Nat) (x : α) : kvGet d (kvPut m q x) q = x :=
  kvGet_insert_same d _ q x (kvDel_ne m q)

theorem kvGet_put_ne (d : α) (m : Kv α) {q r : Nat} (x : α) (h : r ≠ q) : kvGet d (kvPut m q x) r = kvGet d m r := by
  rw [kvPut, kvGet_insert_ne d _ x h, kvGet_del_ne d m h]

/-- A read after a write to the same key gives the value written. -/
@[simp] theorem kvGet_set_same [DecidableEq α] (d : α) (m : Kv α) (q : Nat) (x : α) : kvGet d (kvSet d m q x) q = x := by
  unfold kvSet
  split
  · rename_i h; rw [kvGet_del_same, h]
  · exact kvGet_put_same d m q x

/-- A write leaves every other key alone, whatever each reads as when it is not listed. -/
theorem kvGet_set_ne [DecidableEq α] (d d' : α) (m : Kv α) {q r : Nat} (x : α) (h : r ≠ q) :
    kvGet d (kvSet d' m q x) r = kvGet d m r := by
  unfold kvSet
  split
  · exact kvGet_del_ne d m h
  · exact kvGet_put_ne d m x h

@[simp] theorem kvGet_mod_same [DecidableEq α] (d : α) (m : Kv α) (q : Nat) (f : α → α) :
    kvGet d (kvMod d m q f) q = f (kvGet d m q) := by simp [kvMod]

theorem kvGet_mod_ne [DecidableEq α] (d : α) (m : Kv α) {q r : Nat} (f : α → α) (h : r ≠ q) :
    kvGet d (kvMod d m q f) r = kvGet d m r := kvGet_set_ne d d m _ h

/-! ### The canonical form -/

/-- The keys rise strictly. -/
def kvSorted (m : Kv α) : Prop := m.Pairwise (fun a b => a.1 < b.1)

theorem kvDel_sorted {m : Kv α} (h : kvSorted m) (q : Nat) : kvSorted (kvDel m q) := List.Pairwise.filter _ h

theorem mem_insert {m : Kv α} {q : Nat} {x : α} {e : Nat × α} : e ∈ kvInsert m q x ↔ e = (q, x) ∨ e ∈ m := by
  induction m with
  | nil => simp [kvInsert]
  | cons a m ih =>
    by_cases hk : q < a.1
    · simp [kvInsert, hk]
    · simp only [kvInsert, hk, if_false, List.mem_cons, ih]
      constructor
      · rintro (h | h | h) <;> simp [h]
      · rintro (h | h | h) <;> simp [h]

theorem kvInsert_sorted {m : Kv α} (h : kvSorted m) (q : Nat) (x : α) (hn : ∀ e ∈ m, e.1 ≠ q) : kvSorted (kvInsert m q x) := by
  induction m with
  | nil => simp [kvInsert, kvSorted]
  | cons a m ih =>
    have ha := (List.pairwise_cons.mp h)
    by_cases hk : q < a.1
    · simp only [kvInsert, hk, if_true, kvSorted, List.pairwise_cons]
      refine ⟨?_, ha.1, ha.2⟩
      intro e he
      rcases List.mem_cons.mp he with he | he
      · rw [he]; exact hk
      · exact Nat.lt_trans hk (ha.1 e he)
    · simp only [kvInsert, hk, if_false, kvSorted, List.pairwise_cons]
      refine ⟨?_, ih ha.2 (fun e he => hn e (by simp [he]))⟩
      intro e he
      have hq : a.1 ≠ q := hn a (by simp)
      rcases mem_insert.mp he with he | he
      · rw [he]; simp; omega
      · exact ha.1 e he

theorem kvPut_sorted {m : Kv α} (h : kvSorted m) (q : Nat) (x : α) : kvSorted (kvPut m q x) :=
  kvInsert_sorted (kvDel_sorted h q) q x (kvDel_ne m q)

/-- Every write keeps the keys rising. -/
theorem kvSet_sorted [DecidableEq α] {m : Kv α} (h : kvSorted m) (d : α) (q : Nat) (x : α) : kvSorted (kvSet d m q x) := by
  unfold kvSet
  split
  · exact kvDel_sorted h q
  · exact kvPut_sorted h q x

/-- The canonical form as a proposition: keys strictly rising, and no entry equal to what an unlisted key reads as. -/
def kvCanon (d : α) (m : Kv α) : Prop := kvSorted m ∧ ∀ e ∈ m, e.2 ≠ d

/-- Every write keeps the canonical form. -/
theorem kvSet_canon [DecidableEq α] {d : α} {m : Kv α} (h : kvCanon d m) (q : Nat) (x : α) : kvCanon d (kvSet d m q x) := by
  refine ⟨kvSet_sorted h.1 d q x, ?_⟩
  unfold kvSet
  split
  · intro e he
    simp [kvDel] at he
    exact h.2 e he.1
  · rename_i hx
    intro e he
    rcases mem_insert.mp he with he | he
    · rw [he]; exact hx
    · simp [kvDel] at he
      exact h.2 e he.1

theorem kvMod_canon [DecidableEq α] {d : α} {m : Kv α} (h : kvCanon d m) (q : Nat) (f : α → α) : kvCanon d (kvMod d m q f) :=
  kvSet_canon h q _

/-- The check of the canonical form says what it should. -/
theorem kvWf_canon [DecidableEq α] {d : α} {m : Kv α} : kvWf d m = true ↔ kvCanon d m := by
  induction m with
  | nil => simp [kvWf, kvCanon, kvSorted]
  | cons a m ih =>
    cases m with
    | nil => simp [kvWf, kvCanon, kvSorted]
    | cons b m =>
      simp only [kvWf, Bool.and_eq_true, bne_iff_ne, ne_eq, decide_eq_true_eq, ih]
      constructor
      · rintro ⟨⟨h1, h2⟩, h3, h4⟩
        refine ⟨?_, ?_⟩
        · simp only [kvSorted, List.pairwise_cons] at h3 ⊢
          refine ⟨?_, h3⟩
          intro e he
          rcases List.mem_cons.mp he with he | he
          · rw [he]; exact h2
          · exact Nat.lt_trans h2 (h3.1 e he)
        · intro e he
          rcases List.mem_cons.mp he with he | he
          · rw [he]; exact h1
          · exact h4 e he
      · rintro ⟨h3, h4⟩
        simp only [kvSorted, List.pairwise_cons] at h3
        refine ⟨⟨h4 a (by simp), h3.1 b (by simp)⟩, ?_, fun e he => h4 e (by simp [he])⟩
        simpa only [kvSorted, List.pairwise_cons] using h3.2

end Sys2Proof.Machine
end

