-- ==== Sys2Proof/Laws/State.lean ====
section
/-! SUPPORT. What each update of the state leaves alone, field by field, and what a register reads after a write. -/
namespace Sys2Proof.Machine

variable (s : State)

/-! ### wr -/

@[simp] theorem wr_now (f : Fld) (v i j : Nat) : (s.wr f v i j).now = s.now := rfl
@[simp] theorem wr_freeCount (f : Fld) (v i j : Nat) : (s.wr f v i j).freeCount = s.freeCount := rfl
@[simp] theorem wr_evt (f : Fld) (v i j : Nat) : (s.wr f v i j).evt = s.evt := rfl
@[simp] theorem wr_acc (f : Fld) (v i j : Nat) : (s.wr f v i j).acc = s.acc := rfl
@[simp] theorem wr_bell (f : Fld) (v i j : Nat) : (s.wr f v i j).bell = s.bell := rfl
@[simp] theorem wr_jobs (f : Fld) (v i j : Nat) : (s.wr f v i j).jobs = s.jobs := rfl
@[simp] theorem wr_standing (f : Fld) (v i j : Nat) : (s.wr f v i j).standing = s.standing := rfl
@[simp] theorem wr_ration (f : Fld) (v i j : Nat) : (s.wr f v i j).ration = s.ration := rfl
@[simp] theorem wr_lanes (f : Fld) (v i j : Nat) : (s.wr f v i j).lanes = s.lanes := rfl
@[simp] theorem wr_billets (f : Fld) (v i j : Nat) : (s.wr f v i j).billets = s.billets := rfl
@[simp] theorem wr_corrs (f : Fld) (v i j : Nat) : (s.wr f v i j).corrs = s.corrs := rfl
@[simp] theorem wr_batches (f : Fld) (v i j : Nat) : (s.wr f v i j).batches = s.batches := rfl
@[simp] theorem wr_jnl (f : Fld) (v i j : Nat) : (s.wr f v i j).jnl = s.jnl := rfl
@[simp] theorem wr_powerFail (f : Fld) (v i j : Nat) : (s.wr f v i j).powerFail = s.powerFail := rfl
@[simp] theorem wr_ports (f : Fld) (v i j : Nat) : (s.wr f v i j).ports = s.ports := rfl
@[simp] theorem wr_cci (f : Fld) (v i j : Nat) : (s.wr f v i j).cci = s.cci := rfl
@[simp] theorem wr_cciTold (f : Fld) (v i j : Nat) : (s.wr f v i j).cciTold = s.cciTold := rfl
@[simp] theorem wr_anvils (f : Fld) (v i j : Nat) : (s.wr f v i j).anvils = s.anvils := rfl
@[simp] theorem wr_pipe (f : Fld) (v i j : Nat) : (s.wr f v i j).pipe = s.pipe := rfl
@[simp] theorem wr_profiles (f : Fld) (v i j : Nat) : (s.wr f v i j).profiles = s.profiles := rfl
@[simp] theorem wr_badBanks (f : Fld) (v i j : Nat) : (s.wr f v i j).badBanks = s.badBanks := rfl
@[simp] theorem wr_refs (f : Fld) (v i j : Nat) : (s.wr f v i j).refs = s.refs := rfl
@[simp] theorem wr_coefs (f : Fld) (v i j : Nat) : (s.wr f v i j).coefs = s.coefs := rfl
@[simp] theorem wr_hostWrites (f : Fld) (v i j : Nat) : (s.wr f v i j).hostWrites = s.hostWrites := rfl
@[simp] theorem wr_lats (f : Fld) (v i j : Nat) : (s.wr f v i j).lats = s.lats := rfl
@[simp] theorem wr_blw (f : Fld) (v i j : Nat) : (s.wr f v i j).blw = s.blw := rfl
@[simp] theorem wr_sfe (f : Fld) (v i j : Nat) : (s.wr f v i j).sfe = s.sfe := rfl
@[simp] theorem wr_eths (f : Fld) (v i j : Nat) : (s.wr f v i j).eths = s.eths := rfl
@[simp] theorem wr_rings (f : Fld) (v i j : Nat) : (s.wr f v i j).rings = s.rings := rfl
@[simp] theorem wr_jxs (f : Fld) (v i j : Nat) : (s.wr f v i j).jxs = s.jxs := rfl
@[simp] theorem wr_netOut (f : Fld) (v i j : Nat) : (s.wr f v i j).netOut = s.netOut := rfl
@[simp] theorem wr_thotor (f : Fld) (v i j : Nat) : (s.wr f v i j).thotor = s.thotor := rfl
@[simp] theorem wr_power (f : Fld) (v i j : Nat) : (s.wr f v i j).power = s.power := rfl
@[simp] theorem wr_boot (f : Fld) (v i j : Nat) : (s.wr f v i j).boot = s.boot := rfl
@[simp] theorem wr_fw (f : Fld) (v i j : Nat) : (s.wr f v i j).fw = s.fw := rfl
@[simp] theorem wr_pcie (f : Fld) (v i j : Nat) : (s.wr f v i j).pcie = s.pcie := rfl
@[simp] theorem wr_flash (f : Fld) (v i j : Nat) : (s.wr f v i j).flash = s.flash := rfl
@[simp] theorem wr_jtag (f : Fld) (v i j : Nat) : (s.wr f v i j).jtag = s.jtag := rfl
@[simp] theorem wr_pending (f : Fld) (v i j : Nat) : (s.wr f v i j).pending = s.pending := rfl

/-! ### reach -/

@[simp] theorem reach_regs (t : Nat) : (s.reach t).regs = s.regs := rfl
@[simp] theorem reach_freeCount (t : Nat) : (s.reach t).freeCount = s.freeCount := rfl
@[simp] theorem reach_evt (t : Nat) : (s.reach t).evt = s.evt := rfl
@[simp] theorem reach_acc (t : Nat) : (s.reach t).acc = s.acc := rfl
@[simp] theorem reach_bell (t : Nat) : (s.reach t).bell = s.bell := rfl
@[simp] theorem reach_jobs (t : Nat) : (s.reach t).jobs = s.jobs := rfl
@[simp] theorem reach_standing (t : Nat) : (s.reach t).standing = s.standing := rfl
@[simp] theorem reach_ration (t : Nat) : (s.reach t).ration = s.ration := rfl
@[simp] theorem reach_lanes (t : Nat) : (s.reach t).lanes = s.lanes := rfl
@[simp] theorem reach_billets (t : Nat) : (s.reach t).billets = s.billets := rfl
@[simp] theorem reach_corrs (t : Nat) : (s.reach t).corrs = s.corrs := rfl
@[simp] theorem reach_batches (t : Nat) : (s.reach t).batches = s.batches := rfl
@[simp] theorem reach_jnl (t : Nat) : (s.reach t).jnl = s.jnl := rfl
@[simp] theorem reach_powerFail (t : Nat) : (s.reach t).powerFail = s.powerFail := rfl
@[simp] theorem reach_ports (t : Nat) : (s.reach t).ports = s.ports := rfl
@[simp] theorem reach_cci (t : Nat) : (s.reach t).cci = s.cci := rfl
@[simp] theorem reach_cciTold (t : Nat) : (s.reach t).cciTold = s.cciTold := rfl
@[simp] theorem reach_anvils (t : Nat) : (s.reach t).anvils = s.anvils := rfl
@[simp] theorem reach_pipe (t : Nat) : (s.reach t).pipe = s.pipe := rfl
@[simp] theorem reach_profiles (t : Nat) : (s.reach t).profiles = s.profiles := rfl
@[simp] theorem reach_badBanks (t : Nat) : (s.reach t).badBanks = s.badBanks := rfl
@[simp] theorem reach_refs (t : Nat) : (s.reach t).refs = s.refs := rfl
@[simp] theorem reach_coefs (t : Nat) : (s.reach t).coefs = s.coefs := rfl
@[simp] theorem reach_hostWrites (t : Nat) : (s.reach t).hostWrites = s.hostWrites := rfl
@[simp] theorem reach_lats (t : Nat) : (s.reach t).lats = s.lats := rfl
@[simp] theorem reach_blw (t : Nat) : (s.reach t).blw = s.blw := rfl
@[simp] theorem reach_sfe (t : Nat) : (s.reach t).sfe = s.sfe := rfl
@[simp] theorem reach_eths (t : Nat) : (s.reach t).eths = s.eths := rfl
@[simp] theorem reach_rings (t : Nat) : (s.reach t).rings = s.rings := rfl
@[simp] theorem reach_jxs (t : Nat) : (s.reach t).jxs = s.jxs := rfl
@[simp] theorem reach_netOut (t : Nat) : (s.reach t).netOut = s.netOut := rfl
@[simp] theorem reach_thotor (t : Nat) : (s.reach t).thotor = s.thotor := rfl
@[simp] theorem reach_power (t : Nat) : (s.reach t).power = s.power := rfl
@[simp] theorem reach_boot (t : Nat) : (s.reach t).boot = s.boot := rfl
@[simp] theorem reach_fw (t : Nat) : (s.reach t).fw = s.fw := rfl
@[simp] theorem reach_pcie (t : Nat) : (s.reach t).pcie = s.pcie := rfl
@[simp] theorem reach_flash (t : Nat) : (s.reach t).flash = s.flash := rfl
@[simp] theorem reach_jtag (t : Nat) : (s.reach t).jtag = s.jtag := rfl
@[simp] theorem reach_pending (t : Nat) : (s.reach t).pending = s.pending := rfl

@[simp] theorem rd_reach (t : Nat) (g : Fld) (i j : Nat) : (s.reach t).rd g i j = s.rd g i j := rfl

/-! ### modLane -/

@[simp] theorem modLane_now (n : Nat) (f : LaneSt → LaneSt) : (s.modLane n f).now = s.now := rfl
@[simp] theorem modLane_regs (n : Nat) (f : LaneSt → LaneSt) : (s.modLane n f).regs = s.regs := rfl
@[simp] theorem modLane_freeCount (n : Nat) (f : LaneSt → LaneSt) : (s.modLane n f).freeCount = s.freeCount := rfl
@[simp] theorem modLane_evt (n : Nat) (f : LaneSt → LaneSt) : (s.modLane n f).evt = s.evt := rfl
@[simp] theorem modLane_acc (n : Nat) (f : LaneSt → LaneSt) : (s.modLane n f).acc = s.acc := rfl
@[simp] theorem modLane_bell (n : Nat) (f : LaneSt → LaneSt) : (s.modLane n f).bell = s.bell := rfl
@[simp] theorem modLane_jobs (n : Nat) (f : LaneSt → LaneSt) : (s.modLane n f).jobs = s.jobs := rfl
@[simp] theorem modLane_standing (n : Nat) (f : LaneSt → LaneSt) : (s.modLane n f).standing = s.standing := rfl
@[simp] theorem modLane_ration (n : Nat) (f : LaneSt → LaneSt) : (s.modLane n f).ration = s.ration := rfl
@[simp] theorem modLane_billets (n : Nat) (f : LaneSt → LaneSt) : (s.modLane n f).billets = s.billets := rfl
@[simp] theorem modLane_corrs (n : Nat) (f : LaneSt → LaneSt) : (s.modLane n f).corrs = s.corrs := rfl
@[simp] theorem modLane_batches (n : Nat) (f : LaneSt → LaneSt) : (s.modLane n f).batches = s.batches := rfl
@[simp] theorem modLane_jnl (n : Nat) (f : LaneSt → LaneSt) : (s.modLane n f).jnl = s.jnl := rfl
@[simp] theorem modLane_powerFail (n : Nat) (f : LaneSt → LaneSt) : (s.modLane n f).powerFail = s.powerFail := rfl
@[simp] theorem modLane_ports (n : Nat) (f : LaneSt → LaneSt) : (s.modLane n f).ports = s.ports := rfl
@[simp] theorem modLane_cci (n : Nat) (f : LaneSt → LaneSt) : (s.modLane n f).cci = s.cci := rfl
@[simp] theorem modLane_cciTold (n : Nat) (f : LaneSt → LaneSt) : (s.modLane n f).cciTold = s.cciTold := rfl
@[simp] theorem modLane_anvils (n : Nat) (f : LaneSt → LaneSt) : (s.modLane n f).anvils = s.anvils := rfl
@[simp] theorem modLane_pipe (n : Nat) (f : LaneSt → LaneSt) : (s.modLane n f).pipe = s.pipe := rfl
@[simp] theorem modLane_profiles (n : Nat) (f : LaneSt → LaneSt) : (s.modLane n f).profiles = s.profiles := rfl
@[simp] theorem modLane_badBanks (n : Nat) (f : LaneSt → LaneSt) : (s.modLane n f).badBanks = s.badBanks := rfl
@[simp] theorem modLane_refs (n : Nat) (f : LaneSt → LaneSt) : (s.modLane n f).refs = s.refs := rfl
@[simp] theorem modLane_coefs (n : Nat) (f : LaneSt → LaneSt) : (s.modLane n f).coefs = s.coefs := rfl
@[simp] theorem modLane_hostWrites (n : Nat) (f : LaneSt → LaneSt) : (s.modLane n f).hostWrites = s.hostWrites := rfl
@[simp] theorem modLane_lats (n : Nat) (f : LaneSt → LaneSt) : (s.modLane n f).lats = s.lats := rfl
@[simp] theorem modLane_blw (n : Nat) (f : LaneSt → LaneSt) : (s.modLane n f).blw = s.blw := rfl
@[simp] theorem modLane_sfe (n : Nat) (f : LaneSt → LaneSt) : (s.modLane n f).sfe = s.sfe := rfl
@[simp] theorem modLane_eths (n : Nat) (f : LaneSt → LaneSt) : (s.modLane n f).eths = s.eths := rfl
@[simp] theorem modLane_rings (n : Nat) (f : LaneSt → LaneSt) : (s.modLane n f).rings = s.rings := rfl
@[simp] theorem modLane_jxs (n : Nat) (f : LaneSt → LaneSt) : (s.modLane n f).jxs = s.jxs := rfl
@[simp] theorem modLane_netOut (n : Nat) (f : LaneSt → LaneSt) : (s.modLane n f).netOut = s.netOut := rfl
@[simp] theorem modLane_thotor (n : Nat) (f : LaneSt → LaneSt) : (s.modLane n f).thotor = s.thotor := rfl
@[simp] theorem modLane_power (n : Nat) (f : LaneSt → LaneSt) : (s.modLane n f).power = s.power := rfl
@[simp] theorem modLane_boot (n : Nat) (f : LaneSt → LaneSt) : (s.modLane n f).boot = s.boot := rfl
@[simp] theorem modLane_fw (n : Nat) (f : LaneSt → LaneSt) : (s.modLane n f).fw = s.fw := rfl
@[simp] theorem modLane_pcie (n : Nat) (f : LaneSt → LaneSt) : (s.modLane n f).pcie = s.pcie := rfl
@[simp] theorem modLane_flash (n : Nat) (f : LaneSt → LaneSt) : (s.modLane n f).flash = s.flash := rfl
@[simp] theorem modLane_jtag (n : Nat) (f : LaneSt → LaneSt) : (s.modLane n f).jtag = s.jtag := rfl
@[simp] theorem modLane_pending (n : Nat) (f : LaneSt → LaneSt) : (s.modLane n f).pending = s.pending := rfl

@[simp] theorem rd_modLane (n : Nat) (f : LaneSt → LaneSt) (g : Fld) (i j : Nat) : (s.modLane n f).rd g i j = s.rd g i j := rfl

/-! ### modCorr -/

@[simp] theorem modCorr_now (n : Nat) (f : CorrSt → CorrSt) : (s.modCorr n f).now = s.now := rfl
@[simp] theorem modCorr_regs (n : Nat) (f : CorrSt → CorrSt) : (s.modCorr n f).regs = s.regs := rfl
@[simp] theorem modCorr_freeCount (n : Nat) (f : CorrSt → CorrSt) : (s.modCorr n f).freeCount = s.freeCount := rfl
@[simp] theorem modCorr_evt (n : Nat) (f : CorrSt → CorrSt) : (s.modCorr n f).evt = s.evt := rfl
@[simp] theorem modCorr_acc (n : Nat) (f : CorrSt → CorrSt) : (s.modCorr n f).acc = s.acc := rfl
@[simp] theorem modCorr_bell (n : Nat) (f : CorrSt → CorrSt) : (s.modCorr n f).bell = s.bell := rfl
@[simp] theorem modCorr_jobs (n : Nat) (f : CorrSt → CorrSt) : (s.modCorr n f).jobs = s.jobs := rfl
@[simp] theorem modCorr_standing (n : Nat) (f : CorrSt → CorrSt) : (s.modCorr n f).standing = s.standing := rfl
@[simp] theorem modCorr_ration (n : Nat) (f : CorrSt → CorrSt) : (s.modCorr n f).ration = s.ration := rfl
@[simp] theorem modCorr_lanes (n : Nat) (f : CorrSt → CorrSt) : (s.modCorr n f).lanes = s.lanes := rfl
@[simp] theorem modCorr_billets (n : Nat) (f : CorrSt → CorrSt) : (s.modCorr n f).billets = s.billets := rfl
@[simp] theorem modCorr_batches (n : Nat) (f : CorrSt → CorrSt) : (s.modCorr n f).batches = s.batches := rfl
@[simp] theorem modCorr_jnl (n : Nat) (f : CorrSt → CorrSt) : (s.modCorr n f).jnl = s.jnl := rfl
@[simp] theorem modCorr_powerFail (n : Nat) (f : CorrSt → CorrSt) : (s.modCorr n f).powerFail = s.powerFail := rfl
@[simp] theorem modCorr_ports (n : Nat) (f : CorrSt → CorrSt) : (s.modCorr n f).ports = s.ports := rfl
@[simp] theorem modCorr_cci (n : Nat) (f : CorrSt → CorrSt) : (s.modCorr n f).cci = s.cci := rfl
@[simp] theorem modCorr_cciTold (n : Nat) (f : CorrSt → CorrSt) : (s.modCorr n f).cciTold = s.cciTold := rfl
@[simp] theorem modCorr_anvils (n : Nat) (f : CorrSt → CorrSt) : (s.modCorr n f).anvils = s.anvils := rfl
@[simp] theorem modCorr_pipe (n : Nat) (f : CorrSt → CorrSt) : (s.modCorr n f).pipe = s.pipe := rfl
@[simp] theorem modCorr_profiles (n : Nat) (f : CorrSt → CorrSt) : (s.modCorr n f).profiles = s.profiles := rfl
@[simp] theorem modCorr_badBanks (n : Nat) (f : CorrSt → CorrSt) : (s.modCorr n f).badBanks = s.badBanks := rfl
@[simp] theorem modCorr_refs (n : Nat) (f : CorrSt → CorrSt) : (s.modCorr n f).refs = s.refs := rfl
@[simp] theorem modCorr_coefs (n : Nat) (f : CorrSt → CorrSt) : (s.modCorr n f).coefs = s.coefs := rfl
@[simp] theorem modCorr_hostWrites (n : Nat) (f : CorrSt → CorrSt) : (s.modCorr n f).hostWrites = s.hostWrites := rfl
@[simp] theorem modCorr_lats (n : Nat) (f : CorrSt → CorrSt) : (s.modCorr n f).lats = s.lats := rfl
@[simp] theorem modCorr_blw (n : Nat) (f : CorrSt → CorrSt) : (s.modCorr n f).blw = s.blw := rfl
@[simp] theorem modCorr_sfe (n : Nat) (f : CorrSt → CorrSt) : (s.modCorr n f).sfe = s.sfe := rfl
@[simp] theorem modCorr_eths (n : Nat) (f : CorrSt → CorrSt) : (s.modCorr n f).eths = s.eths := rfl
@[simp] theorem modCorr_rings (n : Nat) (f : CorrSt → CorrSt) : (s.modCorr n f).rings = s.rings := rfl
@[simp] theorem modCorr_jxs (n : Nat) (f : CorrSt → CorrSt) : (s.modCorr n f).jxs = s.jxs := rfl
@[simp] theorem modCorr_netOut (n : Nat) (f : CorrSt → CorrSt) : (s.modCorr n f).netOut = s.netOut := rfl
@[simp] theorem modCorr_thotor (n : Nat) (f : CorrSt → CorrSt) : (s.modCorr n f).thotor = s.thotor := rfl
@[simp] theorem modCorr_power (n : Nat) (f : CorrSt → CorrSt) : (s.modCorr n f).power = s.power := rfl
@[simp] theorem modCorr_boot (n : Nat) (f : CorrSt → CorrSt) : (s.modCorr n f).boot = s.boot := rfl
@[simp] theorem modCorr_fw (n : Nat) (f : CorrSt → CorrSt) : (s.modCorr n f).fw = s.fw := rfl
@[simp] theorem modCorr_pcie (n : Nat) (f : CorrSt → CorrSt) : (s.modCorr n f).pcie = s.pcie := rfl
@[simp] theorem modCorr_flash (n : Nat) (f : CorrSt → CorrSt) : (s.modCorr n f).flash = s.flash := rfl
@[simp] theorem modCorr_jtag (n : Nat) (f : CorrSt → CorrSt) : (s.modCorr n f).jtag = s.jtag := rfl
@[simp] theorem modCorr_pending (n : Nat) (f : CorrSt → CorrSt) : (s.modCorr n f).pending = s.pending := rfl

@[simp] theorem rd_modCorr (n : Nat) (f : CorrSt → CorrSt) (g : Fld) (i j : Nat) : (s.modCorr n f).rd g i j = s.rd g i j := rfl

/-! ### modSes -/

@[simp] theorem modSes_now (n : Nat) (f : SesSt → SesSt) : (s.modSes n f).now = s.now := rfl
@[simp] theorem modSes_regs (n : Nat) (f : SesSt → SesSt) : (s.modSes n f).regs = s.regs := rfl
@[simp] theorem modSes_freeCount (n : Nat) (f : SesSt → SesSt) : (s.modSes n f).freeCount = s.freeCount := rfl
@[simp] theorem modSes_evt (n : Nat) (f : SesSt → SesSt) : (s.modSes n f).evt = s.evt := rfl
@[simp] theorem modSes_acc (n : Nat) (f : SesSt → SesSt) : (s.modSes n f).acc = s.acc := rfl
@[simp] theorem modSes_bell (n : Nat) (f : SesSt → SesSt) : (s.modSes n f).bell = s.bell := rfl
@[simp] theorem modSes_jobs (n : Nat) (f : SesSt → SesSt) : (s.modSes n f).jobs = s.jobs := rfl
@[simp] theorem modSes_standing (n : Nat) (f : SesSt → SesSt) : (s.modSes n f).standing = s.standing := rfl
@[simp] theorem modSes_ration (n : Nat) (f : SesSt → SesSt) : (s.modSes n f).ration = s.ration := rfl
@[simp] theorem modSes_lanes (n : Nat) (f : SesSt → SesSt) : (s.modSes n f).lanes = s.lanes := rfl
@[simp] theorem modSes_billets (n : Nat) (f : SesSt → SesSt) : (s.modSes n f).billets = s.billets := rfl
@[simp] theorem modSes_corrs (n : Nat) (f : SesSt → SesSt) : (s.modSes n f).corrs = s.corrs := rfl
@[simp] theorem modSes_batches (n : Nat) (f : SesSt → SesSt) : (s.modSes n f).batches = s.batches := rfl
@[simp] theorem modSes_jnl (n : Nat) (f : SesSt → SesSt) : (s.modSes n f).jnl = s.jnl := rfl
@[simp] theorem modSes_powerFail (n : Nat) (f : SesSt → SesSt) : (s.modSes n f).powerFail = s.powerFail := rfl
@[simp] theorem modSes_ports (n : Nat) (f : SesSt → SesSt) : (s.modSes n f).ports = s.ports := rfl
@[simp] theorem modSes_cci (n : Nat) (f : SesSt → SesSt) : (s.modSes n f).cci = s.cci := rfl
@[simp] theorem modSes_cciTold (n : Nat) (f : SesSt → SesSt) : (s.modSes n f).cciTold = s.cciTold := rfl
@[simp] theorem modSes_anvils (n : Nat) (f : SesSt → SesSt) : (s.modSes n f).anvils = s.anvils := rfl
@[simp] theorem modSes_pipe (n : Nat) (f : SesSt → SesSt) : (s.modSes n f).pipe = s.pipe := rfl
@[simp] theorem modSes_profiles (n : Nat) (f : SesSt → SesSt) : (s.modSes n f).profiles = s.profiles := rfl
@[simp] theorem modSes_badBanks (n : Nat) (f : SesSt → SesSt) : (s.modSes n f).badBanks = s.badBanks := rfl
@[simp] theorem modSes_refs (n : Nat) (f : SesSt → SesSt) : (s.modSes n f).refs = s.refs := rfl
@[simp] theorem modSes_coefs (n : Nat) (f : SesSt → SesSt) : (s.modSes n f).coefs = s.coefs := rfl
@[simp] theorem modSes_hostWrites (n : Nat) (f : SesSt → SesSt) : (s.modSes n f).hostWrites = s.hostWrites := rfl
@[simp] theorem modSes_lats (n : Nat) (f : SesSt → SesSt) : (s.modSes n f).lats = s.lats := rfl
@[simp] theorem modSes_blw (n : Nat) (f : SesSt → SesSt) : (s.modSes n f).blw = s.blw := rfl
@[simp] theorem modSes_sfe (n : Nat) (f : SesSt → SesSt) : (s.modSes n f).sfe = s.sfe := rfl
@[simp] theorem modSes_eths (n : Nat) (f : SesSt → SesSt) : (s.modSes n f).eths = s.eths := rfl
@[simp] theorem modSes_rings (n : Nat) (f : SesSt → SesSt) : (s.modSes n f).rings = s.rings := rfl
@[simp] theorem modSes_jxs (n : Nat) (f : SesSt → SesSt) : (s.modSes n f).jxs = s.jxs := rfl
@[simp] theorem modSes_netOut (n : Nat) (f : SesSt → SesSt) : (s.modSes n f).netOut = s.netOut := rfl
@[simp] theorem modSes_power (n : Nat) (f : SesSt → SesSt) : (s.modSes n f).power = s.power := rfl
@[simp] theorem modSes_boot (n : Nat) (f : SesSt → SesSt) : (s.modSes n f).boot = s.boot := rfl
@[simp] theorem modSes_fw (n : Nat) (f : SesSt → SesSt) : (s.modSes n f).fw = s.fw := rfl
@[simp] theorem modSes_pcie (n : Nat) (f : SesSt → SesSt) : (s.modSes n f).pcie = s.pcie := rfl
@[simp] theorem modSes_flash (n : Nat) (f : SesSt → SesSt) : (s.modSes n f).flash = s.flash := rfl
@[simp] theorem modSes_jtag (n : Nat) (f : SesSt → SesSt) : (s.modSes n f).jtag = s.jtag := rfl
@[simp] theorem modSes_pending (n : Nat) (f : SesSt → SesSt) : (s.modSes n f).pending = s.pending := rfl

@[simp] theorem rd_modSes (n : Nat) (f : SesSt → SesSt) (g : Fld) (i j : Nat) : (s.modSes n f).rd g i j = s.rd g i j := rfl

/-! ### modBillet -/

@[simp] theorem modBillet_now (o : Nat) (f : Billet → Billet) : (s.modBillet o f).now = s.now := rfl
@[simp] theorem modBillet_regs (o : Nat) (f : Billet → Billet) : (s.modBillet o f).regs = s.regs := rfl
@[simp] theorem modBillet_freeCount (o : Nat) (f : Billet → Billet) : (s.modBillet o f).freeCount = s.freeCount := rfl
@[simp] theorem modBillet_evt (o : Nat) (f : Billet → Billet) : (s.modBillet o f).evt = s.evt := rfl
@[simp] theorem modBillet_acc (o : Nat) (f : Billet → Billet) : (s.modBillet o f).acc = s.acc := rfl
@[simp] theorem modBillet_bell (o : Nat) (f : Billet → Billet) : (s.modBillet o f).bell = s.bell := rfl
@[simp] theorem modBillet_jobs (o : Nat) (f : Billet → Billet) : (s.modBillet o f).jobs = s.jobs := rfl
@[simp] theorem modBillet_standing (o : Nat) (f : Billet → Billet) : (s.modBillet o f).standing = s.standing := rfl
@[simp] theorem modBillet_ration (o : Nat) (f : Billet → Billet) : (s.modBillet o f).ration = s.ration := rfl
@[simp] theorem modBillet_lanes (o : Nat) (f : Billet → Billet) : (s.modBillet o f).lanes = s.lanes := rfl
@[simp] theorem modBillet_corrs (o : Nat) (f : Billet → Billet) : (s.modBillet o f).corrs = s.corrs := rfl
@[simp] theorem modBillet_batches (o : Nat) (f : Billet → Billet) : (s.modBillet o f).batches = s.batches := rfl
@[simp] theorem modBillet_jnl (o : Nat) (f : Billet → Billet) : (s.modBillet o f).jnl = s.jnl := rfl
@[simp] theorem modBillet_powerFail (o : Nat) (f : Billet → Billet) : (s.modBillet o f).powerFail = s.powerFail := rfl
@[simp] theorem modBillet_ports (o : Nat) (f : Billet → Billet) : (s.modBillet o f).ports = s.ports := rfl
@[simp] theorem modBillet_cci (o : Nat) (f : Billet → Billet) : (s.modBillet o f).cci = s.cci := rfl
@[simp] theorem modBillet_cciTold (o : Nat) (f : Billet → Billet) : (s.modBillet o f).cciTold = s.cciTold := rfl
@[simp] theorem modBillet_anvils (o : Nat) (f : Billet → Billet) : (s.modBillet o f).anvils = s.anvils := rfl
@[simp] theorem modBillet_pipe (o : Nat) (f : Billet → Billet) : (s.modBillet o f).pipe = s.pipe := rfl
@[simp] theorem modBillet_profiles (o : Nat) (f : Billet → Billet) : (s.modBillet o f).profiles = s.profiles := rfl
@[simp] theorem modBillet_badBanks (o : Nat) (f : Billet → Billet) : (s.modBillet o f).badBanks = s.badBanks := rfl
@[simp] theorem modBillet_refs (o : Nat) (f : Billet → Billet) : (s.modBillet o f).refs = s.refs := rfl
@[simp] theorem modBillet_coefs (o : Nat) (f : Billet → Billet) : (s.modBillet o f).coefs = s.coefs := rfl
@[simp] theorem modBillet_hostWrites (o : Nat) (f : Billet → Billet) : (s.modBillet o f).hostWrites = s.hostWrites := rfl
@[simp] theorem modBillet_lats (o : Nat) (f : Billet → Billet) : (s.modBillet o f).lats = s.lats := rfl
@[simp] theorem modBillet_blw (o : Nat) (f : Billet → Billet) : (s.modBillet o f).blw = s.blw := rfl
@[simp] theorem modBillet_sfe (o : Nat) (f : Billet → Billet) : (s.modBillet o f).sfe = s.sfe := rfl
@[simp] theorem modBillet_eths (o : Nat) (f : Billet → Billet) : (s.modBillet o f).eths = s.eths := rfl
@[simp] theorem modBillet_rings (o : Nat) (f : Billet → Billet) : (s.modBillet o f).rings = s.rings := rfl
@[simp] theorem modBillet_jxs (o : Nat) (f : Billet → Billet) : (s.modBillet o f).jxs = s.jxs := rfl
@[simp] theorem modBillet_netOut (o : Nat) (f : Billet → Billet) : (s.modBillet o f).netOut = s.netOut := rfl
@[simp] theorem modBillet_thotor (o : Nat) (f : Billet → Billet) : (s.modBillet o f).thotor = s.thotor := rfl
@[simp] theorem modBillet_power (o : Nat) (f : Billet → Billet) : (s.modBillet o f).power = s.power := rfl
@[simp] theorem modBillet_boot (o : Nat) (f : Billet → Billet) : (s.modBillet o f).boot = s.boot := rfl
@[simp] theorem modBillet_fw (o : Nat) (f : Billet → Billet) : (s.modBillet o f).fw = s.fw := rfl
@[simp] theorem modBillet_pcie (o : Nat) (f : Billet → Billet) : (s.modBillet o f).pcie = s.pcie := rfl
@[simp] theorem modBillet_flash (o : Nat) (f : Billet → Billet) : (s.modBillet o f).flash = s.flash := rfl
@[simp] theorem modBillet_jtag (o : Nat) (f : Billet → Billet) : (s.modBillet o f).jtag = s.jtag := rfl
@[simp] theorem modBillet_pending (o : Nat) (f : Billet → Billet) : (s.modBillet o f).pending = s.pending := rfl

@[simp] theorem rd_modBillet (o : Nat) (f : Billet → Billet) (g : Fld) (i j : Nat) : (s.modBillet o f).rd g i j = s.rd g i j := rfl

/-! ### Registers -/

/-- A read after a write gives what the field's width holds of the value. -/
@[simp] theorem rd_wr_same (f : Fld) (v i j : Nat) : (s.wr f v i j).rd f i j = v % 2 ^ f.width := by
  simp [State.rd, State.wr]

/-- A write leaves every other element and field alone. -/
theorem rd_wr_ne (f g : Fld) (v i j a b : Nat) (h : g.key a b ≠ f.key i j) : (s.wr f v i j).rd g a b = s.rd g a b := by
  simp [State.rd, State.wr, kvGet_set_ne _ _ _ _ h]

/-- A field that follows a value holds it. -/
@[simp] theorem rd_follow_same (f : Fld) (v i j : Nat) : (s.follow f v i j).rd f i j = v % 2 ^ f.width := by
  unfold State.follow
  split
  · assumption
  · simp

/-- Every write of a register keeps the keys of the register file rising. -/
theorem wr_sorted (f : Fld) (v i j : Nat) (h : kvSorted s.regs) : kvSorted (s.wr f v i j).regs := kvSet_sorted h _ _ _

/-! ### What follows a command -/

/-- The outputs that follow the state change three things. -/
theorem outputs_regs (g : Fld) (a b : Nat) (h1 : g.key a b ≠ Rg.jnlGbOpen.key 0 0) (h2 : g.key a b ≠ Rg.jnlStaged.key 0 0) :
    s.outputs.rd g a b = s.rd g a b := by
  show ((s.wr Rg.jnlGbOpen s.billets.length).wr Rg.jnlStaged s.jnl.staging.length).rd g a b = s.rd g a b
  rw [rd_wr_ne _ _ _ _ _ _ _ _ h2, rd_wr_ne _ _ _ _ _ _ _ _ h1]

end Sys2Proof.Machine
end

