-- ==== Sys2Proof/Laws/Command.lean ====
section
/-! SUPPORT. What a command can do around its own effect: whether its unit hears it, whether its master may give it, and what
follows it. -/
namespace Sys2Proof.Machine

variable {s : State}

/-! ### Whether the engine hears a command -/

theorem awake_of_live (h : s.live = true) : s.awake = true := by
  simp only [State.live, Bool.and_eq_true] at h; exact h.1

theorem lit_of_live (h : s.live = true) : s.lit = true := by
  simp only [State.live, State.awake, Bool.and_eq_true] at h; exact h.1.1

theorem not_sealed_of_live (h : s.live = true) : s.powerFail ≠ .sealed := by
  simp only [State.live, State.awake, Bool.and_eq_true, beq_iff_eq] at h
  rw [h.1.2]; decide

/-- A ready engine gives a command its effect, and then what follows. -/
theorem effect_live {f : State → State} (h : s.live = true) : s.effect f = (f s).settle := by simp [State.effect, h]

theorem effectAwake_awake {f : State → State} (h : s.awake = true) : s.effectAwake f = (f s).settle := by
  simp [State.effectAwake, h]

theorem effectDrain_lit {f : State → State} (h : s.lit = true) (h' : s.powerFail ≠ .sealed) :
    s.effectDrain f = (f s).settle := by simp [State.effectDrain, h, h']

/-- An engine that is not ready, or has stopped, gives a command no effect. -/
theorem effect_not_live {f : State → State} (h : s.live = false) : s.effect f = s := by simp [State.effect, h]

theorem effectAwake_not_awake {f : State → State} (h : s.awake = false) : s.effectAwake f = s := by
  simp [State.effectAwake, h]

/-! ### Whether a master may give it -/

/-- A write with its right at an address that answers has its effect. -/
theorem withRight_granted {m a : Nat} {r : Right} (h : s.granted m a r) (k : State → State) : s.withRight m a r k = k s := by
  simp [State.withRight, State.guardWrite, h.1, h.2]

/-- A write without its right is denied. -/
theorem withRight_denied {m a : Nat} {r : Right} (h : s.gateAt a = .pass) (h' : s.rightAt m a r = false) (k : State → State) :
    s.withRight m a r k = s.deny m a true := by
  simp [State.withRight, State.guardWrite, h, h']

/-- A write that only T00 may make. -/
theorem guardWrite_proctor {m a : Nat} (h : s.proctorAt m a) (k : State → State) :
    s.guardWrite m a (s.isProctor m) k = k s := by simp [State.guardWrite, h.1, h.2]

/-- A read with its right at an address that answers gives the word. -/
theorem guardRead_granted {m a : Nat} {r : Right} (h : s.granted m a r) (k : State → State × Nat) :
    s.guardRead m a (s.rightAt m a r) k = (k s).1.answer m (k s).2 := by simp [State.guardRead, h.1, h.2]

theorem on_of_zero {f : Fld} {i j : Nat} (h : s.rd f i j = 0) : s.on f i j = false := by simp [State.on, h]

theorem on_of_one {f : Fld} {i j : Nat} (h : s.rd f i j = 1) : s.on f i j = true := by simp [State.on, h]

/-! ### What follows -/

/-- After the outputs have followed the state, they show it. -/
theorem outputs_settled (s : State) : s.outputs.settled := by
  refine ⟨?_, ?_, rfl⟩
  · show ((s.wr Rg.jnlGbOpen s.billets.length).wr Rg.jnlStaged s.jnl.staging.length).rd Rg.jnlGbOpen 0 0 = _
    rw [rd_wr_ne _ _ _ _ _ _ _ _ (by decide), rd_wr_same]; rfl
  · show ((s.wr Rg.jnlGbOpen s.billets.length).wr Rg.jnlStaged s.jnl.staging.length).rd Rg.jnlStaged 0 0 = _
    rw [rd_wr_same]; rfl

/-- Whatever runs on after a command, the outputs show the state then. -/
theorem settle_settled (s : State) : s.settle.settled := outputs_settled _

end Sys2Proof.Machine
end

