-- ==== Sys2Proof/Laws/Events.lean ====
section
/-! SUPPORT. What raising an event can do: the registers that it leaves alone, the count, the PEND bit and the queues
(R714 to R718). -/
namespace Sys2Proof.Machine

variable (s : State)

/-- A counter that saturates, read after it counted. -/
@[simp] theorem rd_bumpSat_same (f : Fld) (i j : Nat) :
    (s.bumpSat f i j).rd f i j = min (s.rd f i j + 1) (2 ^ f.width - 1) := by
  have h : min (s.rd f i j + 1) (2 ^ f.width - 1) < 2 ^ f.width :=
    Nat.lt_of_le_of_lt (Nat.min_le_right _ _) (Nat.sub_lt (Nat.two_pow_pos _) Nat.one_pos)
  rw [State.bumpSat, State.addSat, rd_wr_same, Nat.mod_eq_of_lt h]

theorem rd_bumpSat_ne (f g : Fld) (i j a b : Nat) (h : g.key a b ≠ f.key i j) :
    (s.bumpSat f i j).rd g a b = s.rd g a b := rd_wr_ne _ _ _ _ _ _ _ _ h

theorem rd_sendVector (v : Nat) (g : Fld) (a b : Nat) : (s.sendVector v).rd g a b = s.rd g a b := by
  unfold State.sendVector; split; rfl; split <;> rfl

theorem queues_sendVector (v : Nat) : (s.sendVector v).evt.queues = s.evt.queues := by
  unfold State.sendVector; split; rfl; split <;> rfl

/-- An entry for a tenant's queue changes LOST or DEPTH of that tenant and no other register. -/
theorem rd_pushEvent (t : Nat) (x : EvEntry) (g : Fld) (a b : Nat) (h1 : g.key a b ≠ Rg.qLost.key t 0)
    (h2 : g.key a b ≠ Rg.qDepth.key t 0) : (s.pushEvent t x).rd g a b = s.rd g a b := by
  unfold State.pushEvent
  simp only []
  split
  · exact rd_bumpSat_ne _ _ _ _ _ _ _ h1
  · exact rd_wr_ne _ _ _ _ _ _ _ _ h2

/-- What holds of a state and is kept by each turn of a loop holds after the loop. -/
theorem each_keeps {α : Type} (l : List α) (f : State → α → State) (P : State → Prop) (h : ∀ st, ∀ x ∈ l, P st → P (f st x)) :
    ∀ st, P st → P (st.each l f) := by
  induction l with
  | nil => intro st h; exact h
  | cons x l ih =>
    intro st hp
    exact ih (fun st y hy => h st y (by simp [hy])) _ (h st x (by simp) hp)

/-- A delivery changes the PEND word of the source, and LOST and DEPTH of the queues, and no other register. -/
theorem rd_deliver (e a0 a1 : Nat) (g : Fld) (a b : Nat) (h0 : g.key a b ≠ Rg.evtPend.key (e / 32) 0)
    (h1 : ∀ t < 64, g.key a b ≠ Rg.qLost.key t 0) (h2 : ∀ t < 64, g.key a b ≠ Rg.qDepth.key t 0) :
    (s.deliver e a0 a1).rd g a b = s.rd g a b := by
  unfold State.deliver
  simp only []
  have h : ((s.wr Rg.evtPend (s.rd Rg.evtPend (e / 32) ||| 2 ^ (e % 32)) (e / 32)).each (maskBits 64 (s.rd Rg.srcQmask e))
      (fun st t => st.pushEvent t { src := e, stamp := s.now, a0 := a0 % 2 ^ 32, a1 := a1 % 2 ^ 32,
                                    injected := s.evt.injecting.contains e })).rd g a b = s.rd g a b := by
    refine each_keeps _ _ (fun st => st.rd g a b = s.rd g a b) (fun st t ht hp => ?_) _ (rd_wr_ne _ _ _ _ _ _ _ _ h0)
    have ht' : t < 64 := by
      have := (List.mem_filter.mp ht).1
      simpa using this
    rw [rd_pushEvent st t _ g a b (h1 t ht') (h2 t ht'), hp]
  split
  · rw [rd_sendVector]; exact h
  · exact h

/-- A raise changes RAISED of its source, its PEND word, and LOST and DEPTH of the queues, and no other register. -/
theorem rd_raise (e a0 a1 : Nat) (g : Fld) (a b : Nat) (hr : g.key a b ≠ Rg.srcRaised.key e 0)
    (h0 : g.key a b ≠ Rg.evtPend.key (e / 32) 0) (h1 : ∀ t < 64, g.key a b ≠ Rg.qLost.key t 0)
    (h2 : ∀ t < 64, g.key a b ≠ Rg.qDepth.key t 0) : (s.raise e a0 a1).rd g a b = s.rd g a b := by
  have h : (s.bumpSat Rg.srcRaised e).rd g a b = s.rd g a b := rd_bumpSat_ne _ _ _ _ _ _ _ hr
  unfold State.raise
  show (if s.on Rg.srcEn e then (s.bumpSat Rg.srcRaised e).deliver e a0 a1 else s.bumpSat Rg.srcRaised e).rd g a b = _
  split
  · rw [rd_deliver _ _ _ _ _ _ _ h0 h1 h2, h]
  · exact h

/-- The same of a raise that has a rate limit. -/
theorem rd_raiseLim (n e sc a0 a1 : Nat) (g : Fld) (a b : Nat) (hr : g.key a b ≠ Rg.srcRaised.key e 0)
    (h0 : g.key a b ≠ Rg.evtPend.key (e / 32) 0) (h1 : ∀ t < 64, g.key a b ≠ Rg.qLost.key t 0)
    (h2 : ∀ t < 64, g.key a b ≠ Rg.qDepth.key t 0) : (s.raiseLim n e sc a0 a1).rd g a b = s.rd g a b := by
  have h : (s.bumpSat Rg.srcRaised e).rd g a b = s.rd g a b := rd_bumpSat_ne _ _ _ _ _ _ _ hr
  unfold State.raiseLim State.raiseWith
  show (if (s.limitOpen n e sc && s.on Rg.srcEn e) = true then (s.bumpSat Rg.srcRaised e).deliver e a0 a1
    else s.bumpSat Rg.srcRaised e).rd g a b = _
  split
  · rw [rd_deliver _ _ _ _ _ _ _ h0 h1 h2, h]
  · exact h

/-- After a delivery the PEND bit of the source is set. -/
theorem pend_deliver (e a0 a1 : Nat) (he : e < 1024) : ((s.deliver e a0 a1).rd Rg.evtPend (e / 32)).testBit (e % 32) = true := by
  have hk1 : ∀ t < 64, Rg.evtPend.key (e / 32) 0 ≠ Rg.qLost.key t 0 := by
    intro t ht; simp only [Fld.key, Rg.evtPend, Rg.qLost]; omega
  have hk2 : ∀ t < 64, Rg.evtPend.key (e / 32) 0 ≠ Rg.qDepth.key t 0 := by
    intro t ht; simp only [Fld.key, Rg.evtPend, Rg.qDepth]; omega
  unfold State.deliver
  simp only []
  have h : ((s.wr Rg.evtPend (s.rd Rg.evtPend (e / 32) ||| 2 ^ (e % 32)) (e / 32)).each (maskBits 64 (s.rd Rg.srcQmask e))
      (fun st t => st.pushEvent t { src := e, stamp := s.now, a0 := a0 % 2 ^ 32, a1 := a1 % 2 ^ 32,
                                    injected := s.evt.injecting.contains e })).rd Rg.evtPend (e / 32) =
      (s.rd Rg.evtPend (e / 32) ||| 2 ^ (e % 32)) % 2 ^ 32 := by
    refine each_keeps _ _ (fun st => st.rd Rg.evtPend (e / 32) = _) (fun st t ht hp => ?_) _ (rd_wr_same _ _ _ _ _)
    have ht' : t < 64 := by
      have := (List.mem_filter.mp ht).1
      simpa using this
    rw [rd_pushEvent st t _ _ _ _ (hk1 t ht') (hk2 t ht'), hp]
  have hb : ((s.rd Rg.evtPend (e / 32) ||| 2 ^ (e % 32)) % 2 ^ 32).testBit (e % 32) = true := by
    have : e % 32 < 32 := Nat.mod_lt _ (by decide)
    rw [Nat.testBit_mod_two_pow, Nat.testBit_or, Nat.testBit_two_pow_self]; simp [this]
  split
  · rw [rd_sendVector, h]; exact hb
  · rw [h]; exact hb

/-- A source with EN = 0 counts, and is delivered nowhere. -/
theorem raise_off (e a0 a1 : Nat) (h : s.rd Rg.srcEn e = 0) :
    s.raise e a0 a1 = (s.bumpSat Rg.srcRaised e).unmarkInjected e := by
  simp [State.raise, State.on, h]

end Sys2Proof.Machine
end

