-- ==== Sys2Proof/WellFormed.lean ====
section
/-! DEFINITION. The well-formed commands: the shape that the spec gives their operands beyond their types. A command that is
not well formed is one that no sender can send; what a rule answers to (a value out of range, an unknown name) is not asked
here. -/
namespace Sys2Proof
open Sys2Proof.Machine

/-- The characters of a line are the printable ASCII characters (R567). -/
def printable (t : Text) : Bool := t.all (fun c => decide (32 ≤ c.toNat ∧ c.toNat ≤ 126))

/-- A tag is a number from 0 to 65,535 in 1 to 5 digits (R573). -/
def tagShape (t : Text) : Bool :=
  !t.isEmpty && decide (t.length ≤ 5) && t.all (fun c => decide ('0' ≤ c ∧ c ≤ '9')) &&
  decide (t.foldl (fun n c => 10 * n + (c.toNat - 48)) 0 ≤ 65535)

/-- A check is written in four hexadecimal digits (R573). -/
def checkShape (t : Text) : Bool :=
  t.length == 4 && t.all (fun c => decide (('0' ≤ c ∧ c ≤ '9') ∨ ('A' ≤ c ∧ c ≤ 'F') ∨ ('a' ≤ c ∧ c ≤ 'f')))

/-- A typed line has no shape of its own; a machine request has a tag and a check. -/
def Machine.Form.wf : Form → Bool
  | .typed => true
  | .machine t c => tagShape t && checkShape c

/-- A list without repeats. -/
def noRepeats {α : Type} [BEq α] : List α → Bool
  | [] => true
  | x :: xs => !xs.contains x && noRepeats xs

/-- A long packet's length fits in its 16-bit word count. -/
def packetLength {α : Type} (l : List α) : Bool := decide (l.length ≤ 65535)

/-- A datagram's payload fits in an IPv4 packet. -/
def udpPayload (l : List Byte) : Bool := decide (l.length ≤ 65507)

/-- A sender's IPv4 address and UDP port. -/
def fromAddress (ip udp : Nat) : Bool := decide (ip < 2 ^ 32 ∧ udp < 2 ^ 16)

def Instr.wellFormed (i : Instr) : Bool :=
  match i with
  | .bellSourceChange .. => true
  | .periodWrite .. => true
  | .costOverrun .. => true
  | .frameStart .. => true
  | .forceCkpt .. => true
  | .deliverBatch .. => true
  | .flushReadComplete .. => true
  | .evict .. => true
  | .replayEnd prods => noRepeats (prods.map (fun p => p.1.val))
  | .portEnable .. => true
  | .portDisable .. => true
  | .frameEnd .. => true
  | .pixelLine _ _ _ px _ _ => packetLength px
  | .embeddedData _ _ _ _ bytes => packetLength bytes
  | .userDefinedPacket _ _ _ _ _ bytes => packetLength bytes
  | .shortPacket .. => true
  | .dtMismatch .. => true
  | .unboundPacket .. => true
  | .headerUncorrectable .. => true
  | .linkTimeout .. => true
  | .deskew .. => true
  | .escapeEntry .. => true
  | .timingCode .. => true
  | .pclkLost .. => true
  | .trailer _ words t => t.length == 4 && (words ++ t).all (fun w => decide (w < 65536))
  | .noFrameEnd .. => true
  | .portOverflow _ _ lines => decide (0 < lines)
  | .bindingWrite .. => true
  | .laneStart .. => true
  | .laneStop .. => true
  | .laneReset .. => true
  | .cciPush .. => true
  | .cciIssue .. => true
  | .cciTransactionDone .. => true
  | .cciStretchTimeout .. => true
  | .cciResultRead .. => true
  | .cciDisable .. => true
  | .pipeStripeStart .. => true
  | .tblDataAccess .. => true
  | .tableCommit .. => true
  | .refFill .. => true
  | .refClear .. => true
  | .partnerMissing .. => true
  | .streamEnable .. => true
  | .coefDataWrite .. => true
  | .finderJobStart .. => true
  | .finderJobDone .. => true
  | .decodeDone .. => true
  | .decodeTimeout .. => true
  | .sramCorrected .. => true
  | .latencyMarkExpiry .. => true
  | .latencyClear .. => true
  | .latencyUnitWrite .. => true
  | .continuityReset .. => true
  | .fieldLost v => decide (v < 850)
  | .fieldOk v => decide (950 < v ∧ v ≤ 3800)
  | .fieldOv v => decide (3800 < v)
  | .pulseStart .. => true
  | .pulseEnd .. => true
  | .strobeEnable .. => true
  | .sinkShort .. => true
  | .retryWaitEnd .. => true
  | .ledClear .. => true
  | .doutOutWrite .. => true
  | .doutClear .. => true
  | .doutPulseStart .. => true
  | .doutPulseEnd .. => true
  | .doutOverload .. => true
  | .doutSample _ _ mA => mA.length == 8
  | .tieProbeStep .. => true
  | .dinEdge .. => true
  | .encPosWrite .. => true
  | .quenchTimeout .. => true
  | .trimFlashStart .. => true
  | .trimFlashEnd .. => true
  | .trimCapture .. => true
  | .sfeChannelEnable .. => true
  | .sfeChannelDisable .. => true
  | .sfeRoutingWrite _ l => !l.isEmpty && noRepeats (l.map Prod.fst)
  | .sfeSlotHalf xs _ _ => noRepeats (xs.map (fun x => x.chan.val))
  | .sfeSample .. => true
  | .excLimit .. => true
  | .excLimitClear .. => true
  | .biasLimit .. => true
  | .guardLimit .. => true
  | .checkStart .. => true
  | .checkEnd .. => true
  | .checkNow .. => true
  | .firSwap .. => true
  | .linSwap .. => true
  | .firDataAccess .. => true
  | .firCommit .. => true
  | .linDataAccess .. => true
  | .linCommit .. => true
  | .result0Read .. => true
  | .resultWordRead .. => true
  | .calNow .. => true
  | .calStep .. => true
  | .flkEnWrite .. => true
  | .apply .. => true
  | .corrSettingsWrite .. => true
  | .stallTimeout .. => true
  | .ringConsWrite .. => true
  | .ringArm .. => true
  | .ringDisarm .. => true
  | .coalesceTimeout .. => true
  | .msixPendingSend .. => true
  | .pcieLinkUp width speed => decide (0 < width ∧ width ≤ 16 ∧ 0 < speed)
  | .functionLevelReset .. => true
  | .ethLinkDown .. => true
  | .ethLinkUp .. => true
  | .ptpSync .. => true
  | .jxHello _ ip udp bs => fromAddress ip udp && udpPayload bs
  | .jxAck _ ip udp bs => fromAddress ip udp && udpPayload bs
  | .jxBye _ ip udp bs => fromAddress ip udp && udpPayload bs
  | .badDgram _ ip udp bs => fromAddress ip udp && udpPayload bs
  | .jxData .. => true
  | .jxRetransmitTimeout .. => true
  | .jxKeepalive .. => true
  | .jxSessionTimeout .. => true
  | .jxClose .. => true
  | .typedCharacter .. => true
  | .lineComplete .. => true
  | .emptyCommand _ x => x.wf
  | .login _ x _ _ => x.wf
  | .logout _ x => x.wf
  | .modeVerb _ x _ => x.wf
  | .helpVerb _ x topic => x.wf && printable topic
  | .getVerb _ x paths => x.wf && paths.all printable
  | .setVerb _ x asg => x.wf && asg.all (fun a => printable a.1 && printable a.2)
  | .tableRead _ x _ _ _ _ _ => x.wf
  | .tableWrite _ x _ _ _ _ _ => x.wf
  | .stats _ x _ _ _ => x.wf
  | .coefRead _ x _ _ _ => x.wf
  | .coefWrite _ x _ _ _ _ => x.wf
  | .coefReset _ x _ _ => x.wf
  | .cciWrite _ x _ _ => x.wf
  | .cciRead _ x _ _ => x.wf
  | .cciVerbTimeout .. => true
  | .ack _ x _ _ => x.wf
  | .sfeRead _ x _ => x.wf
  | .firRead _ x _ _ _ _ => x.wf
  | .firWrite _ x _ _ _ _ => x.wf
  | .linRead _ x _ _ _ _ _ => x.wf
  | .linWrite _ x _ _ _ _ _ => x.wf
  | .linLoad _ x _ _ file => x.wf && printable file
  | .storeList _ x => x.wf
  | .storeWrite _ x name _ _ => x.wf && printable name
  | .storeWriteDone .. => true
  | .storeErase _ x name => x.wf && printable name
  | .eventPeek _ x _ => x.wf
  | .eventPop _ x _ => x.wf
  | .timeVerb _ x => x.wf
  | .timeAlarm _ x _ => x.wf
  | .resetEngine _ x => x.wf
  | .journalRead _ x _ _ _ => x.wf
  | .journalErase _ x _ => x.wf
  | .testJournal _ x _ => x.wf
  | .jobWorkDone .. => true
  | .tcpConnect .. => true
  | .tcpClose .. => true
  | .sessionClose .. => true
  | .sessionIdleTimeout .. => true
  | .loginLockExpiry .. => true
  | .break .. => true
  | .wakePattern .. => true
  | .xonXoff .. => true
  | .ctsChange .. => true
  | .outputDrain _ left => decide (left < 2048)
  | .snapLowRead .. => true
  | .snapHighRead .. => true
  | .rcRead .. => true
  | .mbindWrite .. => true
  | .masterUnbind .. => true
  | .accessTableWrite .. => true
  | .voteUp .. => true
  | .voteDown .. => true
  | .temperRequest .. => true
  | .domainQuiesced .. => true
  | .domainSaveDone .. => true
  | .domainRiseDone .. => true
  | .padRelease .. => true
  | .wakeEvent .. => true
  | .wakeDatagram _ _ _ bs => udpPayload bs
  | .thermalSample readings => readings.length == 6
  | .pendClear .. => true
  | .eventPopRead .. => true
  | .inject .. => true
  | .anvilFault .. => true
  | .anvilTestDone .. => true
  | .unitWatchdog .. => true
  | .dramUncorrectable .. => true
  | .domainReset .. => true
  | .blockReset .. => true
  | .fwStart .. => true
  | .fwCheckDone .. => true
  | .powerOnResetEnd .. => true
  | .imageLoadDone .. => true
  | .imageCheckDone .. => true
  | .pushGo .. => true
  | .memorySelfTestDone .. => true
  | .jtagInstruction .. => true
  | .jtagRegAccess .. => true
  | .flashAddrWrite .. => true
  | .flashDataAccess .. => true
  | .flashReadPage .. => true
  | .flashProgramPage .. => true
  | .flashEraseSector .. => true
  | .flashOpDone ok words => !ok || words.isEmpty || words.length == 64
  | .burnSvn .. => true
  | .revoke .. => true
  | .mbistRun .. => true
  | .testHold .. => true
  | .prbsError .. => true
  | .consoleAutoWrite .. => true
  | .registerWrite .. => true
  | .ptpSyncTimeout .. => true
  | .busFrameStart .. => true
  | .vioOutOfRange .. => true
  | .vioInRange .. => true
  | .icmpEchoRequest _ _ _ _ req => decide (req.length ≤ 65515)
  | .arpRequest .. => true
  | .pauseFrame .. => true
  | .bell => true
  | .bellInEdge => true
  | .holdoverEntry => true
  | .temperChangeComplete => true
  | .journalAppend => true
  | .journalWriteback => true
  | .checkpointStart => true
  | .checkpointDone => true
  | .pwrFail => true
  | .pwrFailArm => true
  | .sealWritten => true
  | .pipeStripeDone => true
  | .candidateDispatch => true
  | .rotationBegin => true
  | .pcieLinkDown => true
  | .perst => true
  | .timeAlarmFire => true
  | .wakeHoldExpiry => true
  | .wakeRelease => true
  | .registrarWatchdog => true
  | .dramCorrected => true
  | .fwUpdateBegin => true
  | .fwReady => true
  | .fwReadyTimeout => true
  | .vinValid => true
  | .vinInvalid => true
  | .resetN => true
  | .resetNRelease => true
  | .headerReadDone => true
  | .dramTrainingDone => true
  | .ready => true
  | .bootHoldExpiry => true
  | .jtagMbist => true
  | .testLogicReset => true

end Sys2Proof
end

