-- ==== Sys2Proof/Tests/Slice0.lean ====
section
/-! SUPPORT. Witnesses that the hypotheses of the statements can be met, ill-formed commands that the checks refuse, and the
manual's worked examples. -/
open Sys2Proof Sys2Proof.Machine
namespace Sys2Proof.Tests

/-! ### States for the witnesses -/

/-- A ready engine: all domains UP, no pad held. -/
def ready : State :=
  let s := State.reset
  let s1 := { s with boot := { s.boot with vin := true, por := false, held := false } }
  (((s1.wr Rg.bootReady 1).wr Rg.jnlReplay 0).wr Rg.pwPadHeld 0).each (upto 6) (fun st d => st.wr Rg.rollState 0 d)

/-- The ready engine with master 0 unbound. -/
def unbound : State := ready.wr Rg.mbindBound 0 0

/-- Port 0 enabled with its link up. -/
def portUp : State := (ready.wr Rg.portEn 1 0).wr Rg.portLink 1 0

/-- Lane 3 is bound to port 0, virtual channel 0, with frames of 640 by 480, and stopped. -/
def laneBound : State :=
  let s := ((portUp.wr Rg.lnPort 0 3).wr Rg.lnWidth 640 3).wr Rg.lnHeight 480 3
  let b := kvSet 7 (kvSet 0 (kvSet 0 [] (laneKey Rg.lnWidth 0) 640) (laneKey Rg.lnHeight 0) 480) (laneKey Rg.lnPort 0) 0
  (s.modLane 3 (fun l => { l with bound := b })).wr Rg.lnState 1 3

/-- Lane 3 runs. -/
def laneUp : State := laneBound.wr Rg.lnState 2 3

/-- Lane 3 has an open capture with some rows. -/
def capturing (rows : Nat) : State :=
  laneUp.modLane 3 (fun l => { l with capture := some { ordinal := some 1, frame := 1, rows := rows } })

/-- Parallel port 4 enabled with its link up. -/
def parUp : State := (ready.wr Rg.portEn 1 4).wr Rg.portLink 1 4

/-- The ready engine with one open Billet of lane 3: 640 by 480, 128 rows stored. -/
def aBillet : Billet :=
  { ordinal := 1, lane := 3, period := 0, span := 1, tail := 0, kdec := 0, deadline := 4, maxSym := 4, tMax := 1000,
    anvil := 0, frame := 1, stamp := 0, bind := (laneBound.lane 3).bound, durable := true,
    rows := List.replicate 128 [], corrs := [] }

def withBillet (b : Billet) : State := { ready with billets := [b] }

/-! ### Witnesses: capture lanes -/

theorem wit_PortSwitch :
    (ready.live = true ∧ ready.gateAt (portAddr 0) = .pass ∧ ready.rightAt 0 (portAddr 0) .set = true ∧ ready.rd Rg.portEn 0 = 0 ∧
      ready.budget + ready.portRate 0 ≤ 40000) ∧
    (let s := (upto 4).foldl (fun st p => (st.wr Rg.csiRate 3000 p).wr Rg.portEn (b2n (p != 0)) p) ready
     s.live = true ∧ s.gateAt (portAddr 0) = .pass ∧ s.rightAt 0 (portAddr 0) .set = true ∧ s.rd Rg.portEn 0 = 0 ∧
       40000 < s.budget + s.portRate 0) ∧
    (portUp.live = true ∧ portUp.rd Rg.portEn 0 = 1) := by decide

theorem wit_LinkDown :
    (portUp.live = true ∧ portUp.rd Rg.portLink 0 = 1 ∧ portUp.portLive 0 = true) ∧
    (parUp.live = true ∧ parUp.rd Rg.portLink 4 = 1) := by decide

theorem wit_Packets :
    (portUp.live = true ∧ portUp.portLive 0 = true ∧
      ((portUp.seeLink 0).holders 0 0).filter (fun h => (portUp.seeLink 0).isRunning h.1) = [] ∧ portUp.takers 0 0 = []) ∧
    (laneUp.live = true ∧ laneUp.portLive 0 = true ∧
      (laneUp.seeLink 0).holders 0 0 = [(3, 0)] ∧ (laneUp.seeLink 0).isRunning 3 = true) := by decide

theorem wit_PortOverflow :
    (portUp.live = true ∧ portUp.portLive 0 = true ∧
      ((portUp.addSat Rg.portOverflow 1 0).raise 344 0 1).isBound 3 = false) ∧
    (laneUp.live = true ∧ laneUp.portLive 0 = true ∧
      ((laneUp.addSat Rg.portOverflow 1 0).raise 344 0 1).isBound 3 = true ∧
      ((laneUp.addSat Rg.portOverflow 1 0).raise 344 0 1).bnd 3 Rg.lnPort = 0) ∧
    (parUp.live = true ∧ parUp.portLive 4 = true) := by decide

theorem wit_ParallelFraming :
    (parUp.live = true ∧ parUp.portLive 4 = true ∧ parUp.rd Rg.parSync 0 = 0) ∧
    (let s := parUp.wr Rg.parSync 1 0
     s.portLive 4 = true ∧ s.rd Rg.parSync 0 = 1 ∧ s.rd Rg.parFieldMode 0 = 0 ∧
       xyDecode 0x9D = some ((false, false, true), false) ∧ xyDecode 0xF1 = some ((true, true, true), false)) ∧
    (let s := parUp.wr Rg.parTrailEn 1 0
     s.portLive 4 = true ∧ s.rd Rg.parTrailEn 0 = 1 ∧ [0xC2, 0, 0, 0].getD 0 0 ≠ 0xC3 ∧
       (kvGet {} s.ports 4).lastTrailer = none ∧
       [0xC3, 57, trailerCrc [0x3132] 57 / 256, trailerCrc [0x3132] 57 % 256].getD 2 0 * 256 +
         [0xC3, 57, trailerCrc [0x3132] 57 / 256, trailerCrc [0x3132] 57 % 256].getD 3 0 = trailerCrc [0x3132] 57) := by decide +kernel

theorem wit_BindingWrites :
    (bindingFields[28]?).isSome = true ∧ bindingFields[29]? = none ∧
    (∀ f ∈ bindingFields[0]?, (ready.live = true ∧ ready.gateAt (f.base + 0x1000 * 3) = .pass ∧
      ready.rightAt 0 (f.base + 0x1000 * 3) .set = true ∧ ready.rd Rg.lnState 3 ≤ 1) ∧
     (laneUp.live = true ∧ laneUp.gateAt (f.base + 0x1000 * 3) = .pass ∧
      laneUp.rightAt 0 (f.base + 0x1000 * 3) .set = true ∧ 2 ≤ laneUp.rd Rg.lnState 3)) := by decide +kernel

theorem wit_LaneCommands :
    (ready.live = true ∧ ready.gateAt (laneAddr 3 0x18) = .pass ∧ ready.rightAt 0 (laneAddr 3 0x18) .run = true ∧
      ready.rd Rg.lnState 3 = 0) ∧
    (laneBound.live = true ∧ laneBound.laneMayStart 3 = true ∧ (laneBound.lane 3).capture = none) ∧
    (2 ≤ laneUp.rd Rg.lnState 3 ∧ (laneUp.lane 3).capture = none) ∧
    ((capturing 0).live = true ∧ 2 ≤ (capturing 0).rd Rg.lnState 3 ∧ ((capturing 0).lane 3).capture.isSome = true) := by decide +kernel

theorem wit_FrameEndMissing :
    ((capturing 0).live = true ∧ ((capturing 0).lane 3).capture = some { ordinal := some 1, frame := 1, rows := 0 } ∧
      (capturing 0).bnd 3 Rg.lnPort < 4 ∧ 0 < (capturing 0).bnd 3 Rg.lnHeight ∧ ((capturing 0).lane 3).partners = []) ∧
    ((capturing 10000).bnd 3 Rg.lnHeight ≤ 10000 ∧ ((capturing 10000).lane 3).capture.isSome = true) := by decide

/-- Lane 3 runs with a partner exposure on virtual channel 1. -/
def pairUp : State :=
  laneUp.modLane 3 (fun l => { l with bound := kvSet 0 (kvSet 0 l.bound (laneKey Rg.lnExposures 0) 1) (laneKey Rg.lnVc1 0) 1 })

theorem wit_Frames :
    (laneUp.live = true ∧ laneUp.portLive 0 = true ∧
      ∀ e : Bool, (laneUp.header 0 0 e).holders 0 0 = [(3, 0)] ∧ (laneUp.header 0 0 e).isRunning 3 = true ∧
        (laneUp.header 0 0 e).bnd 3 Rg.lnDt = 0x2A ∧ (laneUp.header 0 0 e).bnd 3 Rg.lnDt ≠ 0x2B ∧
        (laneUp.header 0 0 e).takers 0 0 = [(3, 0)] ∧
        ((laneUp.header 0 0 e).markCount 3 mkCrc Rg.lnCrcErr).takers 0 0 = [(3, 0)]) ∧
    (pairUp.live = true ∧ pairUp.portLive 0 = true ∧
      ∀ e : Bool, (pairUp.header 0 1 e).holders 0 1 = [(3, 1)] ∧ (pairUp.header 0 1 e).isRunning 3 = true ∧
        ((pairUp.header 0 1 false).markCount 3 mkEccFixed Rg.lnEccFixed).isRunning 3 = true ∧
        (pairUp.header 0 1 e).takers 0 1 = [(3, 1)] ∧
        ((pairUp.header 0 1 e).markCount 3 mkCrc Rg.lnCrcErr).takers 0 1 = [(3, 1)]) ∧
    ((capturing 0).portLive 0 = true ∧ ((capturing 0).header 0 0 false).takers 0 0 = [(3, 0)] ∧
      (((capturing 0).header 0 0 false).lane 3).capture = some { ordinal := some 1, frame := 1, rows := 0 }) := by
  decide +kernel

theorem wit_BusLines :
    (parUp.live = true ∧ parUp.portLive 4 = true) ∧
    ((parUp.wr Rg.parDeEn 1 0).lineActive 4 = true ∧
      ((parUp.wr Rg.parDeEn 0 0).wr Rg.parVStart 5 0).lineActive 4 = false) := by decide

/-- The conditions under which a command is heard: a ready engine, one that starts, and one that drains. -/
theorem wit_Complete :
    ready.live = true ∧ (ready.wr Rg.bootReady 0).awake = true ∧
    (let s : State := { ready with powerFail := .draining }
     s.lit = true ∧ s.powerFail ≠ .sealed) := by decide

/-! ### Witnesses: camera control, the Gradebook, the Pipe -/

/-- Master 1 of camera control enabled, with some transactions queued. -/
def cciWith (q : List CciTx) (active : Option CciTx) (r : List CciResult) : State :=
  (ready.wr Rg.cciEn 1 1).modCci 1 (fun x => { x with queue := q, triggered := true, active := active, results := r })

def aTx : CciTx := { tag := 7, lane := 0, trig := 0, regBytes := 2, read := true, dev := 0x36, reg := 0x300A, data := 0, dataBytes := 2 }

theorem wit_CciMaster :
    ((cciWith [] none []).live = true ∧ (cciWith [] none []).gateAt (cciAddr 1 0xC) = .pass ∧
      (cciWith [] none []).rightAt 0 (cciAddr 1 0xC) .run = true ∧ ((cciWith [] none []).cciOf 1).queue.length < 64) ∧
    (64 ≤ ((cciWith (List.replicate 64 aTx) none []).cciOf 1).queue.length) ∧
    (let s := cciWith [aTx] none []
     (s.cciOf 1).active = none ∧ (s.cciOf 1).queue = aTx :: [] ∧ s.rd Rg.cciEn 1 = 1 ∧ (s.cciOf 1).triggered = true ∧
       s.domainServes 0 = true ∧ s.padHeld 0 = false) ∧
    (((cciWith [] (some aTx) []).cciOf 1).active = some aTx ∧ aTx.loop = none ∧ aTx.session = none) ∧
    (let x : CciResult := { tag := 7, status := 0, rdata := 0x1234 }
     let s := cciWith [] none [x]
     s.gateAt (cciAddr 1 0x10) = .pass ∧ s.rightAt 0 (cciAddr 1 0x10) .look = true ∧ (s.cciOf 1).results = x :: []) ∧
    ((cciWith [aTx] none []).gateAt (cciAddr 1 0) = .pass ∧ (cciWith [aTx] none []).rightAt 0 (cciAddr 1 0) .set = true) := by
  decide

/-- Correspondent 5 holds a record's entitlement: it is not free. -/
def corrHeld : State := ready.modCorr 5 (fun x => { x with lanes := 8 })

theorem wit_Correspondents :
    (ready.live = true ∧ ready.gateAt (corrAddr 0) = .pass ∧ ready.corrRight 0 5 .run = true ∧ ready.applyOk 5 = true ∧
      (ready.wr Rg.corrLanes 8 5).applyOk 5 = true ∧ (ready.wr Rg.corrLanes 8 5).rd Rg.corrLanes 5 ≠ 0 ∧
      (ready.wr Rg.corrLanes 8 5).corrFree 5 = true ∧ (ready.wr Rg.corrQuota 0 5).applyOk 5 = false) ∧
    (ready.gateAt (corrAddr 0x14) = .pass ∧ ready.gateAt (corrAddr 0x18) = .pass ∧ ready.corrRight 0 5 .set = true) ∧
    (let s := ((ready.modCorr 5 (fun x => { x with stallSince := some 10, stallTold := false })).wr Rg.corrStallTimeout 100 5).wr
        Rg.corrStalled 1 5
     s.live = true ∧ (s.corr 5).stallSince = some 10 ∧ (s.corr 5).stallTold = false ∧ s.rd Rg.corrStallTimeout 5 ≠ 0 ∧
       s.rd Rg.corrStalled 5 = 1) ∧
    (corrHeld.live = true ∧ corrHeld.isProctor 0 = true ∧ corrHeld.corrFree 5 = false ∧ (corrHeld.corr 5).evicting = false ∧
      corrHeld.rd Rg.gbState 5 ≠ 3) ∧
    (let u := corrHeld.modCorr 5 (fun x => { x with evicting := true })
     u.evictReady 5 = true ∧ corrHeld.jnl.requests.any (isEvictOf 5) = false) ∧
    (let s := { corrHeld with batches := [(0, { ring := 0, epoch := 0, corr := 5, s0 := 1, n0 := 0, n1 := 1, recs := [] })] }
     s.isProctor 0 = true ∧ s.corrFree 5 = false ∧ (s.corr 5).evicting = false ∧ s.rd Rg.gbState 5 ≠ 3 ∧
       (s.modCorr 5 (fun x => { x with evicting := true })).evictReady 5 = false) ∧
    (unbound.live = true ∧ unbound.isProctor 0 = false ∧ ready.corrFree 5 = true) := by decide +kernel

theorem wit_Pipe :
    (let s := withBillet aBillet
     s.live = true ∧ s.pipe.running = none ∧ s.working = true ∧ s.domainServes 0 = true ∧
       s.pickJob .pipe (fun b => b.pipe.done) (s.billets.filter s.stripeReady) = some aBillet ∧
       s.takeArmed 453 aBillet.lane = (s, false) ∧ s.takeArmed 454 aBillet.lane = (s, false)) ∧
    (let s : State := { withBillet aBillet with pipe := { running := some (1, 0) } }
     let s0 := (({ s with pipe := { s.pipe with running := none } } : State).wr Rg.pipeIdle 1).jobStage .pipe 1 0 .done
     s.live = true ∧ s.pipe.running = some (1, 0) ∧ s0.billet? 1 = some aBillet ∧ aBillet.captureOpen = true ∧
       0 + 1 < stripeCount aBillet.bind) ∧
    (let s : State := { ready with pipe := { running := some (1, 0) } }
     s.live = true ∧ ((({ s with pipe := { s.pipe with running := none } } : State).wr Rg.pipeIdle 1).jobStage .pipe 1 0
       .done).billet? 1 = none) := by decide +kernel

/-- A Billet of order L with one partner exposure. -/
def pairBillet : Billet :=
  { aBillet with bind := kvSet 0 (kvSet 0 aBillet.bind (laneKey Rg.lnExposures 0) 1) (laneKey Rg.lnOrder 0) 1 }

theorem wit_PartnerMissing :
    (let s := withBillet pairBillet
     s.live = true ∧ s.billets.find? (fun b => b.lane == 3 && decide (1 ≤ cpGet b.bind Rg.lnExposures) && orderL b.bind &&
       !(b.pipe.missFrom.any (fun m => m.1 == 1)) && decide (s.partnerStripe b 1 < stripeCount b.bind)) = some pairBillet ∧
       s.partnerOf pairBillet 1 = none) := by decide +kernel

theorem wit_PipeTables :
    (ready.live = true ∧ ready.gateAt 0x140108 = .pass ∧ ready.rightAt 0 0x140108 .set = true ∧
      ready.rightAt 0 0x140108 .look = true ∧ ready.rd Rg.pipeTblAddr 0 < tblWords (ready.rd Rg.pipeTblTable 0)) ∧
    ((ready.wr Rg.pipeTblProfile 5 0).bankInUse ((ready.wr Rg.pipeTblProfile 5 0).tblSel 0) = false ∧
      ready.bankInUse (ready.tblSel 0) = true) ∧
    (ready.gateAt 0x14010C = .pass ∧ ready.rightAt 0 0x14010C .run = true ∧ ready.bankPasses (ready.tblSel 0) = true) ∧
    (ready.gateAt (0x100840 + 0x1000 * 63) = .pass ∧ ready.rightAt 0 (0x100840 + 0x1000 * 63) .run = true) ∧
    (ready.gateAt 0x140280 = .pass ∧ ready.rightAt 0 0x140280 .run = true ∧ ready.rightAt 0 0x140280 .set = true) := by
  decide +kernel

theorem wit_Streams :
    (ready.live = true ∧ ready.gateAt (0x100A00 + 0x1000 * 63 + 0x40 * 3) = .pass ∧
      ready.rightAt 0 (0x100A00 + 0x1000 * 63 + 0x40 * 3) .set = true ∧ ready.rd Rg.osEn 63 3 = 0) ∧
    ((ready.wr Rg.outLive 16).rd Rg.osEn 63 3 = 0 ∧ 16 ≤ (ready.wr Rg.outLive 16).rd Rg.outLive) ∧
    (let s := (((ready.wr Rg.osBase 4096 63 3).wr Rg.osSlots 2 63 3).wr Rg.osStride 640 63 3)
     s.rd Rg.osEn 63 3 = 0 ∧ s.rd Rg.outLive < 16 ∧ s.streamFit 63 3 = true) ∧
    ((ready.wr Rg.osEn 1 63 3).rd Rg.osEn 63 3 = 1) ∧
    (ready.gateAt (0x1C0014 + 4 * 3) = .pass ∧ ready.coefRight 0 .set = true ∧
      ready.rd Rg.osEn (ready.rd Rg.outCoefLane 0) (ready.rd Rg.outCoefStream 0) = 0) ∧
    (let s := ready.wr Rg.osEn 1 0 0
     s.rd Rg.osEn (s.rd Rg.outCoefLane 0) (s.rd Rg.outCoefStream 0) = 1 ∧
       (s.wr Rg.outCoefBusy 1).rd Rg.osEn (s.rd Rg.outCoefLane 0) (s.rd Rg.outCoefStream 0) = 1) := by decide

theorem wit_Journal :
    (let b : JBody := .acked 5 1
     let s : State := { ready with jnl := { ready.jnl with requests := [b] } }
     s.lit = true ∧ s.powerFail ≠ .sealed ∧ s.ackFlush = s ∧ s.jnl.requests = b :: [] ∧ s.jnl.staging.length < stagingSize) ∧
    (let s : State := { ready with jnl := { ready.jnl with staging := List.replicate stagingSize { serial := 1, body := .acked 5 1 } } }
     stagingSize ≤ s.jnl.staging.length) := by decide +kernel

/-! ### Witnesses: finding and decoding, latency -/

/-- A found candidate of a family, as the Finder measures it. -/
def aFound (family : Nat) : Found :=
  { family := family, code := family, corners := [], orientation := 0, moduleSize := 64, barHeight := 0, minEdge := 100, blur := 0,
    skew := 0, ratio := 100, quiet := [], structureOk := true, inverted := false, opened := 0 }

/-- A Billet whose candidate 2 runs on core 1 of Anvil 0. -/
def decodingBillet : Billet :=
  { aBillet with cands := [{ num := 2, found := aFound 0, stage := .decoding 0 1 10 }] }

def decoding : State := (withBillet decodingBillet).modAnvil 0 (fun x => { x with cores := [(1, 1, 2)] })

theorem wit_FinderJobs :
    (let b := { aBillet with pipe := { aBillet.pipe with done := 1 } }
     let s := withBillet b
     s.live = true ∧ (s.anvil 0).job = none ∧ s.working = true ∧ s.anvilUsable 0 = true ∧
       s.pickJob .finder Billet.finderNext (s.billets.filter (s.finderReady 0)) = some b) ∧
    (1 ≠ ready.rd Rg.anvEpoch 0) ∧
    (let b := { aBillet with captureOpen := false, reset := true }
     let s := (withBillet b).modAnvil 0 (fun x => { x with job := some (1, 0) })
     s.live = true ∧ (s.anvil 0).job = some (1, 0) ∧ (s.modAnvil 0 (fun x => { x with job := none })).billet? 1 = some b ∧
       b.cands = [] ∧ b.extras = [] ∧ b.refound = none ∧ b.finderOpen = false) ∧
    ready.domainServes (anvilDomain 7) = true := by decide +kernel

theorem wit_Dispatch :
    (ready.live = true ∧ ready.working = true ∧ ready.headWaiting = none) ∧
    (let s := withBillet { aBillet with cands := [{ num := 2, found := aFound 0 }] }
     s.working = true ∧ s.headWaiting.isSome = true ∧ s.idleCore = some (0, 0)) := by decide +kernel

theorem wit_DecodeJobs :
    (decoding.live = true ∧ (decoding.anvil 0).cores.find? (fun e => e.1 == 1) = some (1, 1, 2) ∧
      decoding.billet? 1 = some decodingBillet ∧ (decodingBillet.cands.find? (fun c => c.num == 2)).isSome = true) ∧
    (DecodeOut.fits (.failed 0) 0 = true ∧
      (match decodingBillet.judgeOut (aFound 0) (.failed 0) with | .error r => r | .ok _ => 0) = 1) ∧
    (let out : DecodeOut := .symbol { chars := 3, data := [] }
     out.fits (aFound 0).family = true ∧ ∃ f, ({ decodingBillet with symset := [(80, 1, 0)] } : Billet).judgeOut (aFound 0) out =
       .ok f) ∧
    1 ≠ decoding.rd Rg.anvEpoch 0 := by
  refine ⟨by decide +kernel, by decide +kernel, ⟨by decide, _, rfl⟩, by decide⟩

theorem wit_LatencyAndContinuity :
    (let s := ready.modLat 3 (fun y => { y with marks := [(100, 7)] })
     s.live = true ∧ (s.lat 3).marks = (100, 7) :: []) ∧
    (ready.gateAt (latAddr 3 0) = .pass ∧ ready.rightAt 0 (latAddr 3 0) .run = true ∧ ready.rightAt 0 (latAddr 3 0) .set = true ∧
      ready.latMayName 0 1 63 = true ∧ latFields[2]? = some Rg.latEn) ∧
    (ready.gateAt (0x100D00 + 0x1000 * 63) = .pass ∧ ready.rightAt 0 (0x100D00 + 0x1000 * 63) .set = true) := by decide

/-! ### Witnesses: Bellows -/

theorem wit_FieldOutputs :
    (ready.live = true ∧ (ready.wr Rg.blwField 0).rd Rg.blwField ≠ 1 ∧ (ready.wr Rg.blwField 0).rd Rg.blwField ≠ 2 ∧
      (ready.wr Rg.blwField 1).rd Rg.blwField ≠ 0) ∧
    (ready.gateAt (0x400500 + 0x20 * 7) = .pass ∧ ready.rightAt 0 (0x400500 + 0x20 * 7) .set = true ∧
      ready.rightAt 0 (0x400500 + 0x20 * 7) .run = true) ∧
    (let s := (ready.wr Rg.blwField 0).modDout 7 (fun d => { d with pend := [{ start := 10, width := 5 }] })
     s.live = true ∧ (s.dout 7).pend = { start := 10, width := 5 } :: [] ∧ s.bellowsServes = true ∧
       ((s.reach 10).modDout 7 (fun d => { d with pend := [] })).doutMay 7 = true ∧
       (((s.wr Rg.doutTied 1 7).reach 10).modDout 7 (fun d => { d with pend := [] })).doutMay 7 = false) ∧
    (let s := ready.modDout 7 (fun d => { d with active := some { start := 10, width := 5 }, on := true })
     (s.dout 7).active = some { start := 10, width := 5 } ∧ (s.dout 7).on = true ∧ s.bellowsServes = true ∧
       s.padHeld 4 = false) ∧
    ((ready.modDout 7 (fun d => { d with off := .waiting 50 })).dout 7).off = .waiting 50 := by decide

theorem wit_FieldSamples :
    (ready.bellowsServes = true ∧ (ready.wr Rg.rollState 3 5).live = true ∧ (ready.wr Rg.rollState 3 5).bellowsServes = false) ∧
    (let s0 := ready.reach (ready.blw.lastDoutSample + 2500)
     let s1 := State.doutScan { s0 with blw := { s0.blw with lastDoutSample := s0.now } } 0 0 []
     s1.tieSuspects = []) ∧
    (let r : State := ready.modDout 6 (fun d => { d with high := 3 })
     r.tieSuspects = [6]) ∧
    (let p : TieProbe := { a := 6, b := 2, rest := [], start := 10 }
     let s : State := { ready with blw := { ready.blw with probe := some p } }
     s.live = true ∧ s.blw.probe = some p ∧ (true && false) = false ∧ ready.blw.probe = none) := by decide

theorem wit_FieldInputs :
    (ready.live = true ∧ ready.bellowsServes = true ∧ (ready.wr Rg.rollState 3 5).bellowsServes = false) := by decide

/-- The field is good, and sink 6 has settings of its own. -/
def sinkReady : State := ((ready.wr Rg.blwField 0).wr Rg.ledISet 500 6)

theorem wit_Strobes :
    (ready.live = true ∧ ready.gateAt (0x400100 + 0x80 * 7) = .pass ∧ ready.rightAt 0 (0x400100 + 0x80 * 7) .set = true ∧
      ready.rightAt 0 (0x400100 + 0x80 * 7) .run = true) ∧
    (let t := (((ready.wr Rg.ledEn 1 7).wr Rg.ledWidth 1000 7).wr Rg.ledMaxPulses 1 7).wr Rg.ledTrimEn 0 7
     t.rd Rg.ledEn 7 = 1 ∧ t.strobeFits 7 = true) ∧
    (let t := (((ready.wr Rg.ledEn 1 7).wr Rg.ledWidth 0x3FFFFF 7).wr Rg.ledMaxPulses 15 7).wr Rg.ledTrimEn 0 7
     t.rd Rg.ledEn 7 = 1 ∧ t.strobeFits 7 = false) ∧
    ((ready.wr Rg.ledEn 0 7).rd Rg.ledEn 7 = 0) ∧
    (let s := sinkReady.modLed 6 (fun l => { l with pend := [{ start := 10, width := 5000 }] })
     let t := (s.reach 10).modLed 6 (fun l => { l with pend := [] })
     s.live = true ∧ (s.led 6).pend = { start := 10, width := 5000 } :: [] ∧ s.bellowsServes = true ∧ t.fieldOk = true ∧
       (t.led 6).off = .clear ∧ t.padHeld 3 = false ∧ 50 ≤ t.ledSetpoint 6 ∧ t.evt.armed = [] ∧
       (t.wr Rg.blwField 1).fieldOk = false) ∧
    (let a : ActivePulse := { start := 10, stop := 5010, current := 500, retry := false }
     let s := sinkReady.modLed 6 (fun l => { l with active := some a })
     (s.led 6).active = some a ∧ 9 * a.current ≤ 10 * min 450 4095 ∧ s.shortDue 6 = some 3010 ∧ s.ledPartner 6 = none) ∧
    ((ready.modLed 6 (fun l => { l with off := .waiting 50 })).led 6).off = .waiting 50 := by decide

theorem wit_QuenchAndTrim :
    (let b := kvSet 0 (kvSet 0 [] (Rg.ledEn.key 0 0) 1) (Rg.ledTrimEn.key 0 0) 1
     let s := (ready.modLed 7 (fun l => { l with lastRef := some 0, flashDue := some 0, force := b })).wr Rg.saSlots 255 0 |>.wr
       Rg.blwField 0
     s.live = true ∧ s.bellowsServes = true ∧ s.flashAt 7 = some (4000, 0)) ∧
    (let s := ready.wr Rg.ledQen 1 7
     s.live = true ∧ s.rd Rg.ledQen 7 = 1 ∧ s.bellowsServes = true) ∧
    (let s := ready.modLed 7 (fun l => { l with flash := some { start := 4000, current := 500, slot := 0 } })
     (s.led 7).flash = some { start := 4000, current := 500, slot := 0 } ∧
       (s.wr Rg.saEn 0 (s.rd Rg.ledTrimChan 7)).rd Rg.saEn (s.rd Rg.ledTrimChan 7) = 0 ∧
       (let c := s.rd Rg.ledTrimChan 7
        let t := ((s.wr Rg.saEn 1 c).wr Rg.saPreset 0 c).wr Rg.saBlank 0 c
        t.rd Rg.ledTrimChan 7 = c ∧ t.rd Rg.saEn c = 1 ∧ t.rd Rg.saPreset c ≠ 3 ∧ t.rd Rg.saBlank c < 2)) ∧
    (ready.gateAt (0x400100 + 0x80 * 7) = .pass ∧ ready.rightAt 0 (0x400100 + 0x80 * 7) .run = true) := by decide

/-! ### Witnesses: the SFE -/

/-- Channel 2 runs alone with slot 0. -/
def chanUp : State := ((ready.wr Rg.saEn 1 2).wr Rg.saSlots 1 2)

theorem wit_Rotation :
    (let s := (ready.wr Rg.calRotEn 1).modRot (fun r => { r with lastBegin := some 7 })
     s.live = true ∧ s.domainUp 4 = true ∧ s.rd Rg.calPhase = 0 ∧ s.rd Rg.calParked = 0 ∧ s.sfe.rot.stopped = false ∧
       s.sfe.rot.now = false ∧ s.rd Rg.calRotEn = 1 ∧ s.sfe.rot.lastBegin = some 7 ∧ s.rotGroup s.sfe.rot.nextGroup = some 0) ∧
    (let s := { ((ready.wr Rg.calRotEn 1).wr Rg.calPhase 1).modRot (fun r => { r with lastBegin := some 0 }) with now := 10 ^ 12 }
     s.rd Rg.calPhase ≠ 0 ∧ s.rd Rg.calRotEn = 1 ∧ s.sfe.rot.late = false ∧ s.sfe.rot.lastBegin = some 0 ∧
       0 + msTicks s.rotInterval ≤ s.now) ∧
    (ready.gateAt 0x3C2000 = .pass ∧ ready.rightAt 0 0x3C2000 .run = true) := by decide

theorem wit_ChannelChecks :
    (let s := (chanUp.wr Rg.sfeToneEn 1).wr Rg.saCheckS 10 2
     s.live = true ∧ s.gateAt (sfeAddr 2 8) = .pass ∧ s.rightAt 0 (sfeAddr 2 8) .run = true ∧ s.chanOn 2 = true ∧
       s.rd Rg.sfeToneEn = 1 ∧ s.rd Rg.saCheckS 2 ≠ 0) ∧
    (let s := ((chanUp.wr Rg.sfeToneEn 1).wr Rg.saCheckS 10 2).modChan 2 (fun c => { c with checkDue := true })
     s.chanRuns 2 = true ∧ s.rd Rg.saChecking 2 = 0 ∧ s.handingOver 2 = false ∧ (s.chan 2).checkDue = true ∧
       s.nextSlot 2 (ceilDiv s.now 31250) = some 0) ∧
    (let s := (chanUp.wr Rg.saChecking 1 2).modChan 2 (fun c => { c with checkStart := some 0 })
     s.rd Rg.saChecking 2 = 1 ∧ (s.chan 2).checkStart = some 0 ∧ s.rd Rg.saExcSel 2 = 0 ∧
       10 * s.rd Rg.saZShort 2 ≤ 10 * s.rd Rg.saZOpen 2 ∧ 10 * s.rd Rg.saZOpen 2 ≠ 0xFFFFFFFF) := by decide

theorem wit_SfeFrontEnd :
    (ready.live = true ∧ ready.gateAt (sfeAddr 23 0) = .pass ∧ ready.rightAt 0 (sfeAddr 23 0) .set = true ∧
      ready.chanOn 23 = false ∧ ready.freeSlots 7 (presetPositions (ready.rd Rg.saPreset 23)) = some 3) ∧
    (let s := (ready.wr Rg.saEn 1 7).wr Rg.saSlots 255 7
     s.chanOn 23 = false ∧ s.freeSlots 7 (presetPositions (s.rd Rg.saPreset 23)) = none) ∧
    (let s := (ready.wr Rg.saXpP 0 23).wr Rg.saXpN 1 23
     let t := ((s.wr Rg.saEn 1 23).wr Rg.saSlots 1 23).wr Rg.saMod (s.groupMod 7) 23
     t.routingLegal = true) ∧
    (let s := (ready.wr Rg.saXpP 0 23).wr Rg.saXpN 0 23
     let t := ((s.wr Rg.saEn 1 23).wr Rg.saSlots 1 23).wr Rg.saMod (s.groupMod 7) 23
     t.routingLegal = false) ∧
    chanUp.chanOn 2 = true ∧
    (let e : RouteFld × Word := (.xpP 2, 5)
     ready.rightAt 0 e.1.addr .set = true ∧ ready.gateAt e.1.addr = .pass ∧ ready.routeOpen e.1 = true ∧
       (ready.wr e.1.fld 5 e.1.idx).routingLegal = true ∧ chanUp.routeOpen e.1 = false) ∧
    (ready.domainUp 4 = true ∧ (ready.wr Rg.excMode 2 3).rd Rg.excMode 3 = 2 ∧ ready.rd Rg.excLimit 3 = 0 ∧
      ready.gateAt (0x3A0808 + 0x20 * 3) = .pass ∧ ready.rightAt 0 (0x3A0808 + 0x20 * 3) .run = true ∧
      (ready.wr Rg.xpBias 1 15).rd Rg.xpBias 15 ≠ 0 ∧ (ready.wr Rg.grdEn 1 3).rd Rg.grdEn 3 = 1) ∧
    (let s := (chanUp.wr Rg.saPreset 0 2).wr Rg.flkChan 2
     s.live = true ∧ s.gateAt 0x3C2100 = .pass ∧ s.rightAt 0 0x3C2100 .set = true ∧ (s.flkChanOk && s.chanOn (s.rd Rg.flkChan)) =
       true ∧ s.rd Rg.flkEn = 0 ∧ (ready.flkChanOk && ready.chanOn (ready.rd Rg.flkChan)) = false) := by decide

theorem wit_SfeBanks :
    (ready.live = true ∧ ready.gateAt 0x3C1008 = .pass ∧ ready.rd Rg.firSelChan 0 < 24 ∧ ready.firRight 0 .set = true ∧
      ready.firRight 0 .look = true ∧ ready.firInUse (ready.rd Rg.firSelChan 0) (ready.rd Rg.firSelBank 0) = false ∧
      ready.gateAt 0x3C100C = .pass ∧ ready.rightAt 0 0x3C100C .run = true ∧ ready.rightAt 0 0x3C100C .set = true) ∧
    (let s := (ready.wr Rg.saEn 1 0).wr Rg.sdFirSrc 1 0
     s.firInUse 0 0 = true ∧ s.firRight 0 .set = true) ∧
    ((ready.wr Rg.firSelChan 24 0).rd Rg.firSelChan 0 = 24) ∧
    (ready.gateAt (sfeDigAddr 23 0x14) = .pass ∧ ready.rightAt 0 (sfeDigAddr 23 0x14) .run = true ∧
      ready.rightAt 0 (sfeDigAddr 23 0x14) .set = true ∧ ready.firValid 23 (1 - ready.rd Rg.sdFirActive 23) = true ∧
      ready.chanOn 23 = false ∧ chanUp.firValid 2 (1 - chanUp.rd Rg.sdFirActive 2) = true ∧ chanUp.chanOn 2 = true) ∧
    (let s : State := { ready with sfe := { ready.sfe with badFir := [47] } }
     s.firValid 23 (1 - s.rd Rg.sdFirActive 23) = false) ∧
    (ready.gateAt 0x3C1018 = .pass ∧ ready.rightAt 0 0x3C1018 .set = true ∧ ready.rightAt 0 0x3C1018 .look = true ∧
      ready.linInUse (ready.rd Rg.linSelBank 0) = false ∧ ready.rd Rg.linAddr 0 < linWords (ready.rd Rg.linSelKind 0) ∧
      (chanUp.wr Rg.sdLinMode 1 2).linInUse 0 = true) ∧
    (ready.gateAt 0x3C101C = .pass ∧ ready.rightAt 0 0x3C101C .run = true ∧ ready.rightAt 0 0x3C101C .set = true) ∧
    (ready.gateAt (sfeDigAddr 23 0x1C) = .pass ∧ ready.rightAt 0 (sfeDigAddr 23 0x1C) .run = true ∧
      ready.linValid (1 - ready.rd Rg.sdLinBank 23) = true ∧
      (let s : State := { ready with sfe := { ready.sfe with badLin := [1] } }
       s.linValid (1 - s.rd Rg.sdLinBank 23) = false)) := by decide

theorem wit_LinCommit :
    (ready.linSetPoints 0 0 2).linPasses 0 = true ∧ (ready.linSetPoints 0 0 1).linPasses 0 = false := by decide +kernel

theorem wit_SfeResults :
    (let d : SampleDue := { stamp := 31250, acc := {} }
     let s := chanUp.modChan 2 (fun c => { c with due := some d })
     s.live = true ∧ (s.chan 2).due = some d) ∧
    (ready.domainUp 4 = true ∧ (ready.wr Rg.rollState 3 4).live = true ∧ (ready.wr Rg.rollState 3 4).domainUp 4 = false) ∧
    (ready.gateAt (sfeDigAddr 23 0) = .pass ∧ ready.rightAt 0 (sfeDigAddr 23 0) .look = true ∧
      ready.gateAt (sfeDigAddr 23 12) = .pass ∧ ready.rightAt 0 (sfeDigAddr 23 12) .look = true) ∧
    ((kvGet {} (ready.modHold 0 (fun _ => { held := some (23, 1, 2, 3) })).acc.sfeHolding 0).held = some (23, 1, 2, 3) ∧
      (kvGet {} ready.acc.sfeHolding 0).held = none) := by decide

/-! ### Witnesses: delivery -/

/-- A gap notice owed to correspondent 5, of ring 2 of the PCI Express function 0, whose master is bound to T00. -/
def ringReadied : State :=
  let s := (((ready.wr Rg.pcieLink 1).wr Rg.ringArmed 1 2).wr Rg.ringSlotsLog2 4 2)
  let t := (s.wr Rg.mbindBound 1 (fnMaster 0)).wr Rg.mbindTenant 0 (fnMaster 0)
  t.modCorr 5 (fun x => { x with
    kind := 1, route := 2, owed := [{ ordinal := 1, lane := 3, frame := 1, reason := 1, period := 0, stamp := 0 }] })

def aBatch : Batch := { ring := 2, epoch := 0, corr := 5, s0 := 1, n0 := 0, n1 := 1, recs := [], written := true }

theorem wit_RingArming :
    (let s := (((ready.wr Rg.ringPageList 0x10000 2).wr Rg.ringProdAddr 0x20008 2).wr Rg.ringSlotsLog2 4 2)
     s.live = true ∧ s.gateAt (0x340000 + 0x40 * 2) = .pass ∧ s.rightAt 0 (0x340000 + 0x40 * 2) .set = true ∧
       s.rd Rg.ringArm 2 = 0 ∧ s.armOk 2 = true ∧ (s.wr Rg.ringProdAddr 0 2).armOk 2 = false ∧ s.rd Rg.ringArmed 2 = 0) ∧
    (let s := (ready.wr Rg.ringArmed 1 2)
     s.rd Rg.ringArmed 2 = 1 ∧ s.batch? 2 = none ∧ (State.batch? { s with batches := [(2, aBatch)] } 2).isSome = true) := by decide

theorem wit_RingBatches :
    (ringReadied.live = true ∧ ringReadied.ringReady 2 = true ∧
      roundRobin (ringReadied.ring 2).lastCorr (ringReadied.ringCands 2) = some 5) ∧
    ready.ringReady 2 = false ∧
    (let s : State := { ringReadied with batches := [(2, aBatch)] }
     s.live = true ∧ s.batch? 2 = some aBatch ∧ aBatch.written = true ∧ aBatch.flushed = false ∧ aBatch.open_ = false ∧
       aBatch.epoch = s.rd Rg.ringEpoch 2 ∧ s.rd Rg.ringArmed 2 = 1 ∧ s.rd Rg.pcieLink = 1) ∧
    ((ready.modRing 2 (fun x => { x with coalFrom := some 9 })).ring 2).coalFrom = some 9 ∧
    (let s := ready.wr Rg.ringProd 7 2
     s.gateAt (0x340018 + 0x40 * 2) = .pass ∧ s.rightAt 0 (0x340018 + 0x40 * 2) .set = true ∧
       sub32 7 (s.rd Rg.ringCons 2) ≤ sub32 (s.rd Rg.ringProd 2) (s.rd Rg.ringCons 2) ∧
       sub32 (s.rd Rg.ringProd 2) (s.rd Rg.ringCons 2) < sub32 8 (s.rd Rg.ringCons 2)) := by decide

theorem wit_PcieLink :
    (let s := ready.wr Rg.pcieLink 1
     s.live = true ∧ s.domainUp 3 = true ∧ s.rd Rg.pcieLink = 1 ∧ s.evt.msixPending = []) ∧
    (ready.domainUp 3 = true ∧ ready.rd Rg.pcieLink = 0 ∧ ready.padHeld 1 = false ∧ linkShapeOk 4 3 = true ∧
      linkShapeOk 1 1 = true) := by decide

/-- Ethernet port 1 is up. -/
def ethUp : State := (ready.wr Rg.ethEn 1 1).wr Rg.ethLink 1 1

theorem wit_EtherPorts :
    (ethUp.live = true ∧ ethUp.rd Rg.ethLink 1 = 1 ∧ ethUp.ethLive 1 = true ∧ ethUp.rd Rg.ethPtpLock 1 = 0 ∧
      ethUp.rd Rg.ethIp 1 = (BitVec.ofNat 32 (ethUp.rd Rg.ethIp 1)).toNat) ∧
    (let s := ready.wr Rg.ethEn 1 1
     s.rd Rg.ethLink 1 = 0 ∧ s.rd Rg.ethEn 1 = 1 ∧ s.domainUp 3 = true ∧ s.padHeld 1 = false) ∧
    ((ethUp.modEth 1 (fun x => { x with lastSync := some 9 })).eth 1).lastSync = some 9 ∧
    (let s := ethUp.wr Rg.ethPtpEn 1 1
     s.rd Rg.ethPtpEn 1 = 1 ∧ 1000 ≤ (4 * (s.now : Int) + (s.eth 1).base - (-1000)).natAbs) := by decide

/-- Context 61 holds a session of correspondent 5 on port 1. -/
def jxUp : State := ((((ethUp.wr Rg.jxsState 1 61).wr Rg.jxsCorr 5 61).wr Rg.jxsPort 1 61).wr Rg.jxsToken (61 * 256) 61)

theorem wit_Jexnus :
    (jxUp.live = true ∧ jxUp.ethLive 1 = true ∧ jxClassify [] = .bad) ∧
    (let b := jxDgram 5 (61 * 256) 5 [1]
     jxClassify b = .bye ∧ jxUp.tokenCtx (beAt b 4 4) = some 61) ∧
    (let b := jxDgram 4 (61 * 256) 5 (zeros 20)
     jxClassify b = .ack ∧ jxUp.tokenCtx (beAt b 4 4) = some 61) ∧
    (let b := jxDgram 4 (61 * 256) 5 (beBytes 6 9 ++ beBytes 6 9 ++ zeros 8)
     jxClassify b = .ack ∧ jxUp.tokenCtx (beAt b 4 4) = some 61 ∧
       (seqAhead (jxUp.hiSent (jxUp.rd Rg.jxsCorr 61)) (beAt b 22 6) || !seqNotBehind (beAt b 16 6) (beAt b 22 6)) = true) ∧
    (let b := jxDgram 1 0 5 (beBytes 4 77 ++ zeros 10)
     jxClassify b = .hello ∧ jxUp.domainUp 3 = true ∧ jxUp.rd Rg.corrJxCode (beAt b 10 2) ≠ beAt b 16 4) ∧
    (jxUp.jxLive 61 = true ∧ ready.jxLive 61 = false ∧ jxUp.rd Rg.jxsState 61 = 1) ∧
    (let s := (jxUp.modCorr 5 (fun x => { x with owed := [{ ordinal := 1, lane := 3, frame := 1, reason := 1, period := 0, stamp := 0 }] })).wr
       Rg.mbindBound 1 (jxMaster 61) |>.modJx 61 (fun y => { y with window := 8 })
     (s.corr 5).sending = [] ∧ (s.corr 5).evicting = false ∧ s.mayTake (jxMaster 61) 5 = true ∧
       (s.takeRecs 5 (min 64 ((s.jx 61).window - seqDist (s.rd Rg.jxsAcked 61) (s.hiSent 5)))).2.length = 1) ∧
    ((jxUp.modJx 61 (fun y => { y with timerFrom := some 9 })).jx 61).timerFrom = some 9 ∧
    (jxUp.gateAt (0x369000 + 0x40 * 61) = .pass ∧ jxUp.rightAt 0 (0x369000 + 0x40 * 61) .run = true) := by decide +kernel

/-! ### Witnesses: the start, power, the journal -/

/-- The start has come to a phase. -/
def atPhase (p : Nat) : State :=
  let s := State.reset
  ({ s with boot := { s.boot with vin := true, por := false, held := false } } : State).wr Rg.bootPhase p

theorem wit_PowerOn :
    ((let s : State := { State.reset with boot := { State.reset.boot with vin := false } }
      s.boot.vin = false) ∧ State.reset.boot.vin = true ∧ State.reset.boot.por = true ∧ State.reset.boot.held = false) := by decide

theorem wit_StartPhases :
    ((atPhase 1).inPhase 1 = true ∧ (atPhase 2).inPhase 2 = true ∧ (atPhase 2).boot.selfRefresh = false ∧
      (atPhase 4).inPhase 4 = true ∧ (atPhase 5).inPhase 5 = true ∧ (atPhase 5).boot.pushed = false ∧
      (atPhase 5).boot.warm = false ∧ (atPhase 5).boot.second = false) ∧
    ((atPhase 5).imageCause { } = 0 ∧ (atPhase 5).imageCause { sigOk := false } ≠ 0) ∧
    ((atPhase 9).inPhase 9 = true ∧ (atPhase 9).gateAt 0xB0 = .pass ∧ (atPhase 9).rightAt 0 0xB0 .run = true) ∧
    ((atPhase 6).inPhase 6 = true ∧ (atPhase 6).boot.mbist = none ∧ (atPhase 6).boot.tested = false ∧
      (atPhase 6).boot.dramOnly = false ∧ SelfTest.fails {} (atPhase 6).testMask = 0) ∧
    ((atPhase 8).inPhase 8 = true ∧ (atPhase 8).thotor.storeTorn = false) ∧
    (let s : State := { ready with boot := { ready.boot with readyAt := some 9 } }
     s.live = true ∧ s.boot.readyAt = some 9) := by decide

theorem wit_ReadyGoesOn :
    (let s := atPhase 8
     let s1 := (s.wr Rg.bootReady 1).wr Rg.bootTimeUs ((s.now - s.boot.since) / 250)
     let s2 : State := { s1 with boot := { s1.boot with awaitBell := true, readyAt := some s.now }, acc := {} }
     let s3 := s2.each (maskBits 5 s.boot.pads) State.releaseBank
     (s3.raise 42 (s3.rd Rg.bootCause) (s3.rd Rg.bootCount)).thotor.storeTorn = false) := by decide

theorem wit_ResetPin :
    (ready.boot.vin = true ∧ ready.boot.held = false ∧ (ready.wr Rg.supplyVioHOk 1).rd Rg.supplyVioHOk = 1 ∧
      ready.powerFail = .off ∧ ready.boot.por = false ∧ (ready.wr Rg.supplyVioHOk 1).rd Rg.bootReady = 1) ∧
    (({ ready with powerFail := .sealed } : State).boot.vin = true) ∧ (({ ready with powerFail := .draining } : State).boot.vin =
      true) ∧ (ready.wr Rg.supplyVioHOk 0).rd Rg.supplyVioHOk = 0 := by decide

theorem wit_Rolls :
    (ready.live = true ∧ ready.tenantOf 0 = some 0 ∧ ready.gateAt 0x50000 = .pass ∧ ready.rightAt 0 0x50000 .run = true ∧
      ready.gateAt 0x50004 = .pass ∧ ready.rightAt 0 0x50004 .run = true ∧ ready.gateAt 0x50008 = .pass ∧
      ready.rightAt 0 0x50008 .set = true ∧ temperOk 5 = true ∧ temperOk 6 = false ∧ temperOk 15 = true) ∧
    (let s := ready.wr Rg.rollState 1 5
     s.live = true ∧ s.rd Rg.rollState 5 = 1 ∧ s.quiesced 5 = true ∧ ready.rd Rg.rollState 5 ≠ 1) ∧
    ((ready.wr Rg.rollState 2 5).rd Rg.rollState 5 = 2 ∧ 5 ∉ ready.power.resetting) ∧
    ((ready.wr Rg.rollState 4 5).rd Rg.rollState 5 = 4 ∧ ready.boot.coldRise = false) ∧
    (ready.gateAt 0x50024 = .pass ∧ ready.rightAt 0 0x50024 .run = true) := by decide

theorem wit_Waking :
    (let s := ready.wr Rg.wakeEn (2 ^ 25 + 2 ^ 15)
     s.live = true ∧ s.wakeOwn 25 = true ∧ (s.rd Rg.wakeEn).testBit 25 = true) ∧
    ({ ready with power := { ready.power with wakeUntil := some 9 } } : State).power.wakeUntil = some 9 ∧
    (let s := (((ready.wr Rg.wakeEn (2 ^ 15)).wr Rg.rollState 3 3).wr Rg.wakeCode 7)
     let bs := beBytes 2 0x574B ++ beBytes 2 1 ++ beBytes 4 7
     s.live = true ∧ s.domainServes 3 = false ∧ (s.rd Rg.wakeEn).testBit 15 = true ∧ s.rd Rg.wakeUdp < 2 ^ 16 ∧
       s.rd Rg.ethIp 1 < 2 ^ 32 ∧ bs.length = 8 ∧ beAt bs 0 2 = 0x574B ∧ beAt bs 4 4 = s.rd Rg.wakeCode ∧ s.rd Rg.wakeCode ≠ 0) ∧
    (let s : State := { ready.wr Rg.pcieLink 1 with power := { ready.power with wakePin := true } }
     s.live = true ∧ s.power.wakePin = true ∧ s.rd Rg.pcieLink = 1) ∧
    ((ready.wr Rg.csiWakeEn 1 3).rd Rg.csiWakeEn 3 = 1 ∧ ready.domainServes 0 = true) := by decide

theorem wit_PowerFailure :
    (let s := (ready.wr Rg.jnlPfEn 1).wr Rg.jnlPfArmed 1
     s.live = true ∧ s.sealable = true ∧ s.rd Rg.jnlPfEn = 1 ∧ s.rd Rg.jnlPfArmed = 1) ∧
    (let s := (ready.wr Rg.jnlPfEn 1).wr Rg.jnlPfArmed 0
     s.sealable = true ∧ s.rd Rg.jnlPfArmed = 0) ∧
    (let s : State := { ready with powerFail := .draining }
     s.lit = true ∧ s.powerFail = .draining ∧ s.drained = true) := by decide

theorem wit_JournalLog :
    (let e : JEntry := { serial := 1, body := .acked 5 1 }
     let s : State := { ready with jnl := { ready.jnl with staging := [e] } }
     s.live = true ∧ s.jnl.staging = e :: []) ∧
    (let s : State := { ready with jnl := { ready.jnl with ckptDue := true } }
     s.ckptWanted = true ∧ s.rd Rg.jnlCkptBusy = 0 ∧ s.rd Rg.jnlReplay = 0) ∧
    (let s : State := { ready with jnl := { ready.jnl with writing := true } }
     s.live = true ∧ s.jnl.writing = true ∧ s.appendTurn.rd Rg.jnlCkptSlot = 0) ∧
    (ready.gateAt 0x20000 = .pass ∧ ready.rightAt 0 0x20000 .run = true) ∧
    ((atPhase 7).awake = true ∧ (atPhase 7).rd Rg.bootPhase = 7 ∧ (atPhase 7).boot.held = false) := by decide

/-! ### Witnesses: resets, update, test -/

theorem wit_Resets :
    (ready.live = true ∧ ready.gateAt 0x47004 = .pass ∧ ready.ownsPower 0 = true ∧ ready.domainUp 5 = true ∧
      (ready.wr Rg.rollState 3 5).domainUp 5 = false ∧ ready.domainUp 3 = true ∧ (ready.wr Rg.rollState 3 3).domainUp 3 = false) ∧
    (ready.gateAt (Block.unit 23).addr = .pass ∧ ready.ownsBlock 0 (.unit 23) = true ∧ ready.gateAt (Block.ring 255).addr = .pass ∧
      ready.ownsBlock 0 (.ring 255) = true ∧ ready.domainServes 3 = true ∧ ready.gateAt (Block.lane 63).addr = .pass ∧
      ready.ownsBlock 0 (.lane 63) = true) ∧
    (domainOfUnit 8 = some 0 ∧ domainOfUnit 23 = some 5 ∧ ready.domainServes 5 = true) ∧
    ((ready.takeArmed 40 0xFFFFF).1 = ready ∧ ready.power.retired.contains 0xFFFFF = false) := by decide

theorem wit_AnvilFaults :
    (ready.live = true ∧ ready.anvilUsable 7 = true) ∧
    (let s := ready.modAnvil 7 (fun x => { x with testing := true })
     s.live = true ∧ (s.anvil 7).testing = true ∧ s.domainServes (anvilDomain 7) = true) := by decide

theorem wit_Update :
    (ready.live = true ∧ ready.gateAt 0x80 = .pass ∧ ready.isProctor 0 = true ∧ ready.fw.checking = false ∧ ready.rd Rg.fwState = 0) ∧
    (let s : State := { ready with fw := { ready.fw with checking := true } }
     s.fw.checking = true ∧ s.imageCause {} = 0 ∧ s.imageCause { readOk := false } ≠ 0) ∧
    (let s : State := { ready.wr Rg.fwState 1 with now := ready.lastBell }
     s.rd Rg.fwState = 1 ∧ s.now = s.lastBell ∧ s.fwQuiet = true) ∧
    (let s : State := { ready with fw := { ready.fw with running := true, cause := .update } }
     s.live = true ∧ s.fw.running = true ∧ s.fw.cause = .update) ∧
    (ready.fw.running = false ∧ (ready.raise 39 24 0).fwFresh = false ∧
      (let s : State := { ready with fw := { ready.fw with prev := some 1, readyAt := some 0 } }
       s.fw.running = false ∧ (s.raise 39 24 0).fwFresh = true)) := by decide

theorem wit_FlashAndFuses :
    (ready.live = true ∧ ready.isProctor 0 = true ∧ ready.flash.op = none ∧ ready.gateAt 0xC0 = .pass ∧ ready.gateAt 0xC4 = .pass ∧
      ready.rightAt 0 0xC4 .look = true ∧ ready.gateAt 0xC8 = .pass ∧ ready.gateAt 0xBC = .pass) ∧
    (ready.rd Rg.bootMinSvn < 63 ∧ 0 ≤ ready.rd Rg.bootMinSvn ∧ (ready.rd Rg.bootRevoked).testBit 1 = false ∧
      ((ready.wr Rg.bootRevoked 2).rd Rg.bootRevoked).testBit 1 = true) ∧
    (let s : State := { ready with flash := { ready.flash with op := some (1, 0) } }
     s.live = true ∧ s.flash.op = some (1, 0)) := by decide

theorem wit_TestAndInjection :
    (ready.live = true ∧ ready.gateAt 0x420100 = .pass ∧ ready.isProctor 0 = true ∧ ready.rd Rg.testHold ≠ b2n true ∧
      ready.rd Rg.testHold = b2n false) ∧
    (ready.gateAt 0x420110 = .pass ∧ (ready.wr Rg.injEn 1).rd Rg.injEn = 1 ∧ ready.boot.mbist = none) ∧
    (((ready.wr Rg.injEn 1).wr Rg.testPrbsPcie 8).prbsOn 3 = true ∧ ((ready.wr Rg.injEn 1).wr Rg.testPrbsEth 2).prbsOn 5 = true) ∧
    (ready.gateAt Rg.thConsoleAuto.base = .pass ∧ ready.rightAt 0 Rg.thConsoleAuto.base .set = true) ∧
    (jtagTestOnly 0x21 = true ∧ ready.testMode = false ∧ jtagTestOnly 0x20 = false ∧ jtagTestOnly 0xFE = false) ∧
    (let s : State := { ready.wr Rg.bootPhase 10 with jtag := { ready.jtag with ir := 0x21 } }
     s.awake = true ∧ s.jtag.ir = 0x21 ∧ s.testMode = true ∧ s.boot.mbist = none) ∧
    (ready.gateAt 0x420000 = .pass ∧ ready.rightAt 0 0x420000 .run = true ∧ ready.injectOpen 70 = false) ∧
    (let s := (ready.wr Rg.injEn 1).wr Rg.injGroups (2 ^ 2)
     s.injectOpen 70 = true ∧ detectorDomain 70 0 = none ∧ s.rd Rg.injFull = 0) := by decide

/-! ### Witnesses: registers and Thotor -/

theorem wit_Registers :
    (ready.live = true ∧ ready.gateAt (wordAddr 0x4000) = .pass ∧ ready.mayRead 0 (wordAddr 0x4000) = true) ∧
    (let s := ready.wr Rg.mbindTenant 5 0
     s.live = true ∧ s.gateAt (wordAddr 0x4001) = .pass ∧ s.mayRead 0 (wordAddr 0x4001) = false ∧ s.tenantOf 0 = some 5) ∧
    (wordAddr 0x12000 = 0x48000 + 0x40 * 0) ∧
    (ready.mayWrite 0 (wordAddr 0x4001) (ready.updsAt 0 (wordAddr 0x4001) 125000) = true ∧
      (let s := ready.wr Rg.mbindTenant 5 0
       s.mayWrite 0 (wordAddr 0x4001) (s.updsAt 0 (wordAddr 0x4001) 125000) = false)) := by decide +kernel

theorem wit_RegisterPairs :
    (ready.isPairWord 0 0x8 0 = true ∧ ready.isPairWord 0 0xC 1 = true) := by decide +kernel

theorem wit_BindingWords :
    (ready.gateAt (0x200 + 4 * 95) = .pass ∧
      ready.mayWrite 0 (0x200 + 4 * 95) (ready.updsAt 0 (0x200 + 4 * 95) (7 * 2 ^ 16)) = true ∧
      ready.mayWrite 0 (0x200 + 4 * 95) (ready.updsAt 0 (0x200 + 4 * 95) 1) = true) ∧
    (ready.gateAt (0x40100 + 4 * 31) = .pass ∧ ready.mayWrite 0 (0x40100 + 4 * 31) (ready.updsAt 0 (0x40100 + 4 * 31) 1) = true) ∧
    (let s : State := { ready with jtag := { ready.jtag with ir := 0x20 } }
     let d := 125000 * 2 ^ 32 + 0x10004 * 2 ^ 8 + 3
     s.live = true ∧ s.jtag.ir = 0x20 ∧ d % 2 = 1 ∧ d / 2 % 2 = 1 ∧ s.gateAt (d / 2 ^ 8 % 2 ^ 24 / 4 * 4) = .pass ∧
       s.mayWrite 1 (d / 2 ^ 8 % 2 ^ 24 / 4 * 4) (s.updsAt 1 (d / 2 ^ 8 % 2 ^ 24 / 4 * 4) (d / 2 ^ 32)) = true) := by decide +kernel

/-- Session 2 is open and logged in to T00 over TCP. -/
def sesUp : State :=
  let s := ((ready.wr Rg.sesState 1 2).wr Rg.sesLogged 1 2)
  (s.wr Rg.mbindBound 1 (sesMaster 2)).wr Rg.mbindTenant 0 (sesMaster 2)

/-- The same after the first Bell: the Door admits. -/
def sesBell : State := { sesUp with boot := { sesUp.boot with awaitBell := false } }

theorem wit_SessionLinks :
    (let s := (ready.wr Rg.thTcpEn 2).wr Rg.ethEn 1 1 |>.wr Rg.ethLink 1 1
     s.live = true ∧ (s.rd Rg.thTcpEn).testBit 1 = true ∧ s.domainUp 3 = true ∧ s.ethLive 1 = true ∧ s.freeSession = some 2) ∧
    ((upto 16).foldl (fun st n => st.wr Rg.sesState 1 n) ready).freeSession = none ∧
    (isUart 2 = false ∧ sesUp.sesOpen 2 = true ∧ sesUp.gateAt (0x380000 + 0x40 * 2) = .pass ∧
      sesUp.rightAt 0 (0x380000 + 0x40 * 2) .run = true ∧ (sesUp.wr Rg.sesIdleS 600 2).rd Rg.sesIdleS 2 ≠ 0) ∧
    ((sesUp.modSes 2 (fun y => { y with lockUntil := some 9 })).ses 2).lockUntil = some 9 ∧
    ((ready.wr Rg.sesFlow 2 1).flowOf 1 = 2 ∧ (ready.wr Rg.sesFlow 1 1).flowOf 1 = 1 ∧ ready.flowOf 15 ≠ 2) ∧
    (ready.live = true ∧ (ready.wr Rg.supplyVioHOk 1).live = true ∧ (ready.wr Rg.supplyVioHOk 1).rd Rg.supplyVioHOk = 1 ∧
      (ready.wr Rg.supplyVioHOk 0).live = true ∧ (ready.wr Rg.supplyVioHOk 0).rd Rg.supplyVioHOk = 0) := by decide

theorem wit_Characters :
    (sesUp.live = true ∧ sesUp.sesHears 2 = true ∧ (sesUp.ses 2).skip = 0 ∧ (sesUp.ses 2).held < 1024 ∧ (sesUp.ses 2).esc = 0 ∧
      (sesUp.ses 2).lastCr = false ∧ isUart 2 = false) ∧
    (let s := sesUp.modSes 2 (fun y => { y with out := List.replicate 2049 'x' })
     s.sesOpen 2 = true ∧ (s.ses 2).stopped = false ∧ 2048 < (s.ses 2).out.length) := by decide +kernel

theorem wit_SessionVerbs :
    (sesUp.turn 2 .typed ∧ sesUp.turn 2 (.machine ['1'] ['0', '0', '0', '0'])) ∧
    (let s := sesUp.wr Rg.thCode 77 5 |>.wr Rg.thAllow 4 5
     (s.taken 2).loginLocked 2 = false ∧ (s.taken 2).loginFits 2 5 77 = true ∧ (s.taken 2).loginFits 2 5 78 = false) ∧
    ((sesUp.modSes 2 (fun y => { y with lockUntil := some 9 })).taken 2).loginLocked 2 = true ∧
    sesUp.turnOf 2 .typed 0 := by
  unfold State.turnOf State.turn; decide

theorem wit_TableAndCciVerbs :
    (tableArgs 15 1 0 0 16 = true ∧ (sesUp.taken 2).allowed 0 [(0x14, none, .look)] ∧ (sesUp.taken 2).allowed 0 [(0x14, none, .set)] ∧
      (sesUp.taken 2).bankInUse 31 = false ∧ (sesUp.taken 2).bankInUse 0 = true ∧
      ((sesUp.wr Rg.mbindTenant 5 (sesMaster 2)).taken 2).holds 5 0x14 none .look = false) ∧
    ((sesUp.taken 2).allowed 0 [(0x10, some 63, .look)] ∧ (sesUp.taken 2).rd Rg.lnPosted 63 = 0 ∧
      (sesUp.taken 2).targetAway 0x1C = false ∧ (sesUp.taken 2).allowed 0 [(0x10, some 63, .set)] ∧
      (sesUp.taken 2).rd Rg.osEn 63 3 = 0 ∧ (sesUp.wr Rg.lnPosted 1 63).rd Rg.lnPosted 63 ≠ 0) ∧
    (let a : CciArgs := { dev := 0x36, reg := 0x300A }
     a.good = true ∧ (sesUp.taken 2).allowed 0 [(8, none, .run)] ∧ ((sesUp.wr Rg.cciEn 1 3).taken 2).rd Rg.cciEn 3 = 1 ∧
       ((sesUp.taken 2).cciOf 3).queue.length < 64 ∧ (sesUp.taken 2).rd Rg.cciEn 3 = 0) ∧
    ((sesUp.modSes 2 (fun y => { y with wait := some (.cci 3 true 2 9, .typed) })).ses 2).wait = some (.cci 3 true 2 9, .typed) ∧
    (let s := sesUp.modCorr 5 (fun x => { x with kind := 3, route := 2, acked := 0 })
     (s.taken 2).allowed 0 [(0x30, some 5, .run)] ∧ ((s.taken 2).corr 5).kind = 3 ∧ ((s.taken 2).corr 5).route = 2 ∧
       ((sesUp.taken 2).corr 5).kind ≠ 3 ∧
       (let u := (s.modCorr 5 (fun x => { x with sent := [{ lostRec { ordinal := 1, lane := 3, frame := 1, reason := 0, period := 1, stamp := 0 } {} with seq := 9 }] })).taken 2
        seqAhead (u.hiSent 5) 7 = false ∧ seqAhead (u.corr 5).acked 7 = true)) := by
  unfold State.allowed; decide +kernel

theorem wit_SfeAndStoreVerbs :
    ((sesUp.taken 2).allowed 0 [(0x3C, some 23, .look)] ∧ (sesUp.taken 2).allowed 0 [(0x3C, some 23, .set)] ∧
      firArgs 23 1 112 16 = true ∧ (sesUp.taken 2).firInUse 23 1 = false ∧
      (((sesUp.wr Rg.saEn 1 23).wr Rg.sdFirSrc 1 23).taken 2).firInUse 23 0 = true) ∧
    ((sesUp.taken 2).allowed 0 [(0x3C, none, .look)] ∧ (sesUp.taken 2).allowed 0 [(0x3C, none, .set)] ∧
      linArgs 1 15 1 0 12 = true ∧ (sesUp.taken 2).linInUse 1 = false) ∧
    ((sesUp.taken 2).storeFind (lower ['a']) = none ∧
      (let s : State := { sesUp with thotor := { sesUp.thotor with store := [{ name := ['a'], bytes := [0, 2] ++ zeros 18 }] } }
       ((s.taken 2).storeFind (lower ['A'])).isSome = true ∧ storeLoad ([0, 2] ++ zeros 18) = some (0, 2))) ∧
    (storeName ['z', '_'] = true ∧ 5 + 96 ≤ 1024 ∧
      (storePut (sesUp.taken 2).thotor.store ['z', '_'] (overlay [] 5 (zeros 96))).length ≤ 64) ∧
    (sesUp.turnOf 2 .typed 0 ∧ (sesUp.wr Rg.mbindTenant 5 (sesMaster 2)).turnOf 2 .typed 5) ∧
    ((sesUp.modSes 2 (fun y => { y with wait := some (.store ['a'] 0 [1] 9, .typed) })).ses 2).wait =
      some (.store ['a'] 0 [1] 9, .typed) := by
  unfold State.allowed State.turnOf State.turn; decide +kernel

theorem wit_EngineVerbs :
    ((sesUp.taken 2).allowed 0 [(4, none, .look)] ∧ (sesUp.taken 2).allowed 0 [(4, none, .run)] ∧
      (sesUp.taken 2).allowed 0 [(0, none, .look)] ∧ (sesUp.taken 2).allowed 0 [(0, none, .set)]) ∧
    ({ ready with thotor := { ready.thotor with alarm := some 9 } } : State).thotor.alarm = some 9 ∧
    ((sesUp.wr Rg.thCode 77 0).rd Rg.thCode 0 = 77 ∧ (sesBell.taken 2).eraseOk = false ∧
      (let s : State := { sesUp with corrs := [], billets := [] }
       ((s.wr Rg.bellAdmitPause 1).taken 2).eraseOk = true)) ∧
    (let s := sesBell.modCorr 5 (fun x => { x with kind := 3, route := 2, lanes := 1 })
     (s.taken 2).corrFree 5 = false ∧ ((s.taken 2).corr 5).kind ≠ 0 ∧
       (s.taken 2).allowed 0 [(2, none, .look), (0x30, some 5, .look)] ∧
       (match ((s.taken 2).doorJob 2 5 1 2 [0, 1, 48]).2 with | .accepted _ => true | _ => false) = true ∧
       (s.taken 2).allowed 0 [(0x42, none, .run), (0x30, some 5, .look)] ∧
       (match ((s.taken 2).doorJob 2 5 2 (ceilDiv 6250000 (max 1 (s.taken 2).periodTicks) + 2) []).2 with
        | .accepted _ => true | _ => false) = true) ∧
    (let b : Billet := { aBillet with job := some { session := 2, corr := 5, code := 2, args := [], work := 0 }, lane := 0xFF }
     let s := withBillet b
     s.live = true ∧ s.billet? 1 = some b ∧ b.job.isSome = true ∧ s.fw.running = false) := by
  unfold State.allowed; decide +kernel

/-! ### The statements about the whole block, the access rules and the Bell -/

/-- Tenant 5 holds no right on lane 3 through master 2. -/
def stranger : State := (ready.wr Rg.mbindBound 1 2).wr Rg.mbindTenant 5 2

theorem wit_Whole :
    ready.pending = [] ∧ ready.pumps = ready ∧
    (State.reset.live = false ∧ State.reset.awake = false) ∧
    (match step State.reset with | .next t => t.now == 1 | _ => false) = true := by decide +kernel

theorem wit_SettledStep :
    State.reset.settled ∧ (∃ t, step State.reset = .next t) := by
  refine ⟨?_, ⟨_, rfl⟩⟩
  unfold State.settled; decide +kernel

theorem wit_DeniedWrite :
    (stranger.live = true ∧ stranger.gateAt (laneAddr 3 0x18) = .pass ∧ stranger.rightAt 2 (laneAddr 3 0x18) .run = false) ∧
    (stranger.gateAt 0x10004 = .pass ∧ stranger.rightAt 2 0x10004 .set = false) ∧
    (targetOf (laneAddr 3 0x18) = some 0x10 ∧ targetOf 0x10004 = some 1) := by decide +kernel

theorem wit_Numbers :
    (0 < 10 ^ 25 ∧ 10 ^ 25 - 1 < 10 ^ 25 ∧ 65535 < 2 ^ 16) ∧
    (isTag (tx "7") = true ∧ isTag (tx "99999") = true ∧ trimmed (tx "get bell.period") = tx "get bell.period") := by decide

theorem wit_EventSources :
    ready.rd Rg.srcEn 66 = 1 ∧ (ready.wr Rg.srcEn 0 66).rd Rg.srcEn 66 = 0 := by decide

theorem wit_ColdStart :
    Rg.bellPeriod.key 0 0 ≠ Rg.bootCause.key 0 0 ∧ Rg.bellPeriod.key 0 0 ≠ Rg.pwPadHeld.key 0 0 ∧
    coldKept.any (fun g => g.hasKey (Rg.bellPeriod.key 0 0)) = false ∧
    coldKept.any (fun g => g.hasKey (Rg.wakeTrip.key 0 0)) = true := by decide

theorem wit_InternalBell :
    ready.awake = true ∧ ready.bell.srcPend = none ∧ ready.rd Rg.bellHoldover = 0 ∧ ready.rd Rg.bellSrcAct = 0 := by decide

theorem wit_NominalPeriod :
    ready.awake = true ∧ ready.granted 0 0x10004 .set ∧ 250000 ≠ ready.periodTicks ∧ 12500 ≠ ready.periodTicks ∧
    5000000 ≠ ready.periodTicks := by
  unfold State.granted; decide +kernel

/-- The ready engine that follows BELL_IN, `t` ticks after its last Bell. -/
def following (t : Nat) : State := { ready.wr Rg.bellSrcAct 1 with now := ready.lastBell + t }

theorem wit_BellEvents :
    ((following 117187).awake = true ∧ (following 117187).bell.srcPend = none ∧ (following 117187).rd Rg.bellHoldover = 0 ∧
      (following 117187).rd Rg.bellSrcAct = 1 ∧ (following 117187).bell.catchUp = false) ∧
    16 * ((following 117187).now - (following 117187).lastBell) < 15 * (following 117187).periodTicks ∧
    15 * (following 117188).periodTicks ≤ 16 * ((following 117188).now - (following 117188).lastBell) ∧
    (ready.granted 0 0x10000 .set ∧ 0 = ready.rd Rg.bellSrc ∧ 1 ≠ ready.rd Rg.bellSrc ∧
      (ready.wr Rg.bellSrc 1).rd Rg.bellHoldover = 0) ∧
    (ready.live = true ∧ (ready.wr Rg.pwRamping 1).awake = true ∧ (ready.wr Rg.pwRamping 1).rd Rg.pwRamping = 1) := by
  unfold State.granted; decide +kernel

theorem wit_BeforeLogin :
    let s := (sesUp.wr Rg.sesLogged 0 2).wr Rg.mbindBound 0 (sesMaster 2)
    s.turn 2 .typed ∧ s.tenantOf (sesMaster 2) = none := by
  unfold State.turn; decide +kernel

/-! ### Ill-formed commands, one for each check of WellFormed -/

theorem smoke_tag_letters : (Instr.login 2 (.machine (tx "x") (tx "0000")) 0 0).wellFormed = false := by decide
theorem smoke_tag_empty : (Instr.login 2 (.machine [] (tx "0000")) 0 0).wellFormed = false := by decide
theorem smoke_tag_long : (Instr.login 2 (.machine (tx "000001") (tx "0000")) 0 0).wellFormed = false := by decide
theorem smoke_tag_range : (Instr.login 2 (.machine (tx "65536") (tx "0000")) 0 0).wellFormed = false := by decide
theorem smoke_check : (Instr.logout 2 (.machine (tx "5") (tx "D32"))).wellFormed = false := by decide
theorem smoke_check_digits : (Instr.logout 2 (.machine (tx "5") (tx "D32G"))).wellFormed = false := by decide
theorem smoke_form_good : (Instr.logout 2 (.machine (tx "65535") (tx "d3F1"))).wellFormed = true := by decide
theorem smoke_printable : (Instr.helpVerb 2 .typed ['\n']).wellFormed = false := by decide
theorem smoke_paths : (Instr.getVerb 2 .typed [tx "bell.period", ['\t']]).wellFormed = false := by decide
theorem smoke_values : (Instr.setVerb 2 .typed [(tx "bell.period", ['\r'])]).wellFormed = false := by decide
theorem smoke_file : (Instr.linLoad 2 .typed 0 0 ['\n']).wellFormed = false := by decide
theorem smoke_store_name : (Instr.storeWrite 2 .typed ['\n'] 0 []).wellFormed = false := by decide
theorem smoke_store_erase : (Instr.storeErase 2 .typed ['\n']).wellFormed = false := by decide
theorem smoke_replay : (Instr.replayEnd [(0, 1), (0, 2)]).wellFormed = false := by decide
theorem smoke_pixels : (Instr.pixelLine 0 0 0x2A (List.replicate 65536 0) true false).wellFormed = false := by decide +kernel
theorem smoke_trailer : (Instr.trailer 4 [] [0xC3, 0, 0]).wellFormed = false := by decide
theorem smoke_trailer_word : (Instr.trailer 4 [65536] [0xC3, 0, 0, 0]).wellFormed = false := by decide
theorem smoke_overflow : (Instr.portOverflow 0 0 0).wellFormed = false := by decide
theorem smoke_field_lost : (Instr.fieldLost 850).wellFormed = false := by decide
theorem smoke_field_ok : (Instr.fieldOk 950).wellFormed = false := by decide
theorem smoke_field_over : (Instr.fieldOv 3800).wellFormed = false := by decide
theorem smoke_routing : (Instr.sfeRoutingWrite 0 []).wellFormed = false := by decide
theorem smoke_slots : (Instr.sfeSlotHalf [{ chan := 3, stream := 0, exceeds := false }, { chan := 3, stream := 0, exceeds := false }] 0 0).wellFormed = false :=
  by decide
theorem smoke_pcie_width : (Instr.pcieLinkUp 0 1).wellFormed = false := by decide
theorem smoke_pcie_speed : (Instr.pcieLinkUp 1 0).wellFormed = false := by decide
theorem smoke_sender : (Instr.jxBye 0 (2 ^ 32) 7 []).wellFormed = false := by decide
theorem smoke_sender_port : (Instr.jxBye 0 7 65536 []).wellFormed = false := by decide
theorem smoke_readings : (Instr.thermalSample []).wellFormed = false := by decide
theorem smoke_drain : (Instr.outputDrain 0 2048).wellFormed = false := by decide
theorem smoke_flash : (Instr.flashOpDone true [1]).wellFormed = false := by decide

/-! ### The manual's worked examples -/

/-- Chapter 3, one trailer on a 16-bit bus: T2 and T3 are 0x29 and 0xB1. -/
theorem test_trailer : trailerCrc [0x3132, 0x3334, 0x3536, 0x3738] 0x39 = 0x29B1 := by decide +kernel

/-- Chapter 4, one pixel of L05: black level, shading and linearisation. -/
theorem test_pixel_black : alignPix 10 412 = 421888 ∧ blackPix 65536 17495 421888 = 380516 := by decide

theorem test_pixel_shading :
    gridCoord 700 1280 = (17, 526) ∧ gridCoord 600 1024 = (18, 786) ∧
    shadeGain (fun i j => if i = 17 then (if j = 18 then 5120 else 5200) else (if j = 18 then 5160 else 5240)) 1280 1024 700 600
      = 5202 ∧ shadePix 5202 380516 = 483263 := by decide +kernel

theorem test_pixel_lin : linPix (fun i => 4096 * i) 483263 = 483248 ∧ 483248 / 1024 = 471 := by decide

/-- Chapter 5, column 100 of stream 0: s = 25,696, phase 32, and 178 with 182 gives 180. -/
theorem test_scaler :
    scalePos 256 100 = 25696 ∧ scaleTap bilinear 255 1280 256 (fun x => if x = 401 then 178 else 182) 100 = 180 := by decide

/-- Chapter 7: the 20 codewords of the example tag, and row 4 of its modules. -/
theorem test_slate_words : slateEncode false [0, 0, 0, 0, 0, 0xC8, 9, 1] =
    [0, 0, 0, 0, 0, 0xC8, 9, 1, 0x14, 0xD1, 0xE2, 0x2D, 0xEC, 0x8D, 0x2C, 0x47, 0x4D, 2, 0x8C, 3] := by decide +kernel

theorem test_slate_row : (upto 14).map (slateDark false (slateEncode false [0, 0, 0, 0, 0, 0xC8, 9, 1]) 4) =
    [false, false, false, true, false, true, true, false, true, false, false, true, false, false] := by decide +kernel

/-- Chapter 10: ones through the wrap give the full output 4,096. -/
theorem test_cic : ((cicRun (List.replicate 176 true) 0 [0, 0, 0] [0, 0, 0]).1).getD 10 0 = 4096 ∧
    (cicRun (List.replicate 128 true) 0 [0, 0, 0] [0, 0, 0]).2.1.getD 2 0 = -2688 := by decide +kernel

/-- Chapter 13, one machine-mode request: its check, and those of the two lines of its answer. -/
theorem test_machine_request : readMachine (tx "#5 get pipe.idle*D321") = some (tx "5", tx "get pipe.idle", tx "D321") ∧
    checked (tx "#5 pipe.idle=1") = tx "#5 pipe.idle=1*FF7C" ∧ checked (tx "#5 ok") = tx "#5 ok*27D9" := by decide +kernel

/-- The same request on session 2 of a ready engine answers those two lines. -/
theorem test_get_pipe_idle :
    (match exec (.getVerb 2 (.machine (tx "5") (tx "D321")) [tx "pipe.idle"]) (sesUp.wr Rg.sesMode 1 2) with
      | .next t => ((t.ses 2).out == tx "#5 pipe.idle=1*FF7C" ++ ['\r', '\n'] ++ tx "#5 ok*27D9" ++ ['\r', '\n']) | _ => false)
      = true := by decide +kernel

/-- Chapter 6, the record of L05's Data Matrix: its size, and bytes 4 to 11. -/
def exampleRec : Rec :=
  { ordinal := 40312, cand := some 0, kind := .symbol, endCode := 0, seq := 1000418, lane := 5, frame := 126, period := 0,
    stamp := 525045000, flags := 0x200, payload := [16, 16, 0, 1, 0, 0, 0, 0] ++ List.replicate 8 0xFF ++ [0x4C, 0x4F, 0x54, 0x34, 0x34, 0x31, 0x37, 0x42] }

theorem test_record : exampleRec.size = 128 ∧ (exampleRec.bytes 3).length = 128 ∧
    ((exampleRec.bytes 3).drop 2).take 10 = [0x00, 0x02, 0x03, 0x00, 0xE2, 0x43, 0x0F, 0, 0, 0] ∧
    ((exampleRec.bytes 3).drop 24).take 10 = [0x08, 0x8D, 0x4B, 0x1F, 0, 0, 0, 0, 24, 0] := by decide +kernel

/-- Nothing spells a command as a word: the table gives its rows no bits. -/
theorem test_no_word : decodeTableWord 32 0 = none ∧ (State.reset.withFetchWord 32 0).pending = [] := by decide

end Sys2Proof.Tests
end

