-- ==== Sys2Proof/Proofs/InternalBell.lean ====
section
/-! SUPPORT. What BELL does, and the Bell of the internal source. -/
namespace Sys2Proof.Machine

variable {s : State}

/-! ### What BELL does -/

/-- An engine that is awake hears BELL: its next Bell, where it has one, sounds. -/
theorem exec_bell_awake (h : s.awake = true) : exec .bell s = .next s.bellNow.settle :=
  congrArg Host.Outcome.next (effectAwake_awake h)

/-- With no change of source pending, none takes effect. -/
theorem srcTaken_of_none (h : s.bell.srcPend = none) : s.srcTaken = s := by
  simp only [State.srcTaken, h]

/-- With no change of source pending, BELL sounds the next Bell at its own tick, and uses up one held edge. -/
theorem bellNow_of_nextBell {t : Nat} {adv : Bool} (hpend : s.bell.srcPend = none) (hnext : s.nextBell = some (t, adv)) :
    s.bellNow = (s.modBell (fun b => { b with held := b.held.drop 1, holdFirst := none })).soundBell t adv := by
  simp only [State.bellNow, hnext, srcTaken_of_none hpend]

/-! ### The internal source -/

/-- The internal source places the next Bell one nominal Period after the last; its instant is known ahead (R18, R24). -/
theorem nextBell_internal (hpend : s.bell.srcPend = none) (hhold : s.rd Rg.bellHoldover = 0) (hsrc : s.rd Rg.bellSrcAct = 0) :
    s.nextBell = some (s.lastBell + s.periodTicks, true) := by
  simp [State.nextBell, hpend, on_of_zero hhold, hsrc]

/-- Settles O17: the internal source gives the tick, and BELL sounds at the tick that it is given. -/
theorem internalBell : Obligations.InternalBell := by
  intro s hawake hpend hhold hsrc
  have hnext := nextBell_internal hpend hhold hsrc
  refine ⟨hnext, ?_⟩
  rw [exec_bell_awake hawake, bellNow_of_nextBell hpend hnext]

end Sys2Proof.Machine
end

