-- ==== Sys2Proof/Proofs/CciMaster.lean ====
section
/-! SUPPORT. What the commands of a camera control master do: the queue, the bus and the results (R170 to R174). -/
namespace Sys2Proof.Machine

variable {s : State} {c : Nat} {t : CciTx}

/-! ### A ready engine hears the commands -/

theorem exec_cciPush_live (h : s.live = true) (m : MasterId) (c : CciId) (data : Word) :
    exec (.cciPush m c data) s = .next (doCciPush m c data s).settle :=
  congrArg Host.Outcome.next (effect_live h)

theorem exec_cciIssue_live (h : s.live = true) (c : CciId) (stuck : Bool) :
    exec (.cciIssue c stuck) s = .next (doCciIssue c stuck s).settle :=
  congrArg Host.Outcome.next (effect_live h)

theorem exec_cciTransactionDone_live (h : s.live = true) (c : CciId) (status : Fin 3) (rdata : Word) :
    exec (.cciTransactionDone c status rdata) s = .next (doCciTransactionDone c status rdata s).settle :=
  congrArg Host.Outcome.next (effect_live h)

theorem exec_cciStretchTimeout_live (h : s.live = true) (c : CciId) :
    exec (.cciStretchTimeout c) s = .next (doCciStretchTimeout c s).settle :=
  congrArg Host.Outcome.next (effect_live h)

theorem exec_cciResultRead_live (h : s.live = true) (m : MasterId) (c : CciId) :
    exec (.cciResultRead m c) s = .next (doCciResultRead m c s).settle :=
  congrArg Host.Outcome.next (effect_live h)

theorem exec_cciDisable_live (h : s.live = true) (m : MasterId) (c : CciId) :
    exec (.cciDisable m c) s = .next (doCciDisable m c s).settle :=
  congrArg Host.Outcome.next (effect_live h)

/-! ### The queue -/

/-- A queue with room takes the transaction; one that finds the queue empty and waits for no trigger may go (R170). -/
theorem cciPush_of_room (h : (s.cciOf c).queue.length < 64) :
    s.cciPush c t = s.modCci c (fun x =>
      { x with queue := x.queue ++ [t], triggered := x.triggered || (x.queue.isEmpty && t.trig == 0) }) :=
  if_neg (Nat.not_le.mpr h)

/-- A full queue drops the transaction and sets FULL (R171). -/
theorem cciPush_of_full (h : 64 ≤ (s.cciOf c).queue.length) : s.cciPush c t = s.wr Rg.cciFull 1 c := if_pos h

theorem doCciPush_granted {m : MasterId} {c : CciId} {data : Word} (h : s.granted m.val (cciAddr c.val 0xC) .run) :
    doCciPush m c data s = s.cciPush c.val (s.cciFromRegs c.val data.toNat) := withRight_granted h _

theorem doCciDisable_granted {m : MasterId} {c : CciId} (h : s.granted m.val (cciAddr c.val 0) .set) :
    doCciDisable m c s = (s.wr Rg.cciEn 0 c.val).cciFlush c.val := withRight_granted h _

/-! ### The bus -/

/-- An idle, enabled master that is powered and not held takes the triggered head of its queue: onto the bus, or with nine
clocks and a STOP to BUS_STUCK where SDA is stuck low (R170, R173). -/
theorem cciIssue_of_ready {rest : List CciTx} (hidle : (s.cciOf c).active = none) (hhead : (s.cciOf c).queue = t :: rest)
    (hen : s.rd Rg.cciEn c = 1) (htrig : (s.cciOf c).triggered = true) (hserves : s.domainServes 0 = true)
    (hfree : s.padHeld 0 = false) (stuck : Bool) :
    s.cciIssue c stuck =
      let s1 := s.modCci c (fun y => ({ y with queue := rest }).rearm)
      if stuck then (s1.modCci c (fun y => { y with wire := [.clocks 9, .stop] })).cciEnd c t 4 0
      else s1.modCci c (fun y => { y with active := some t, wire := t.wire }) := by
  simp only [State.cciIssue, hidle, hhead, on_of_one hen, htrig, hserves, hfree, Bool.not_false, Bool.and_self, if_true]

/-! ### Results -/

/-- A result enters the result queue, which holds 64: a full one loses its oldest (R172). -/
def CciSt.addResult (x : CciSt) (r : CciResult) : CciSt :=
  { x with results := (if 64 ≤ x.results.length then x.results.drop 1 else x.results) ++ [r] }

/-- The state in which transaction `t` has left the bus with a STOP, and its result waits to be read. -/
def State.cciEnded (s : State) (c : Nat) (t : CciTx) (status rdata : Nat) : State :=
  (s.modCci c (fun x => { x with active := none, wire := x.wire ++ [.stop] })).modCci c
    (fun x => x.addResult { tag := t.tag, status := status, rdata := rdata })

/-- Status 0 raises nothing. -/
theorem cciResult_ok (s : State) (c : Nat) (t : CciTx) (rdata : Nat) :
    s.cciResult c t 0 rdata = s.modCci c (fun x => x.addResult { tag := t.tag, status := 0, rdata := rdata }) := by
  simp [State.cciResult, CciSt.addResult]

/-- A status of 1 to 4 raises the event of the master (R172). -/
theorem cciResult_error (s : State) (c : Nat) (t : CciTx) {status : Nat} (rdata : Nat) (h : 1 ≤ status ∧ status ≤ 4) :
    s.cciResult c t status rdata =
      (s.modCci c (fun x => x.addResult { tag := t.tag, status := status, rdata := rdata })).raise (360 + c) c status :=
  if_pos h

/-- A transaction of neither a loop (R256) nor a verb (R621) ends in the result queue. -/
theorem cciEnd_plain (hloop : t.loop = none) (hsession : t.session = none) (s : State) (c status rdata : Nat) :
    s.cciEnd c t status rdata = s.cciResult c t status rdata := by
  simp only [State.cciEnd, hloop, hsession]

section Done

variable (hactive : (s.cciOf c).active = some t) (hloop : t.loop = none) (hsession : t.session = none)
include hactive hloop hsession

/-- The transaction on the bus puts a STOP on it and leaves a result, with as much data as it reads. -/
theorem cciDone_plain (status rdata : Nat) :
    s.cciDone c status rdata =
      (s.modCci c (fun x => { x with active := none, wire := x.wire ++ [.stop] })).cciResult c t status
        (rdata % 2 ^ (8 * t.dataBytes)) := by
  simp only [State.cciDone, hactive, cciEnd_plain hloop hsession]

theorem cciDone_ok (rdata : Nat) : s.cciDone c 0 rdata = s.cciEnded c t 0 (rdata % 2 ^ (8 * t.dataBytes)) :=
  (cciDone_plain hactive hloop hsession 0 rdata).trans (cciResult_ok _ _ _ _)

theorem cciDone_error {status : Nat} (h : 1 ≤ status ∧ status ≤ 4) (rdata : Nat) :
    s.cciDone c status rdata = (s.cciEnded c t status (rdata % 2 ^ (8 * t.dataBytes))).raise (360 + c) c status :=
  (cciDone_plain hactive hloop hsession status rdata).trans (cciResult_error _ _ _ _ h)

end Done

/-- A read of CCI_RESULT takes the oldest result: its data go to CCI_RDATA, its status and tag into the word (R174). -/
theorem cciPop_cons {x : CciResult} {rest : List CciResult} (h : (s.cciOf c).results = x :: rest) :
    s.cciPop c = ((s.modCci c (fun y => { y with results := rest })).wr Rg.cciRdata x.rdata c,
      2 ^ 31 + x.status * 2 ^ 28 + x.tag * 2 ^ 16) := by
  simp only [State.cciPop, h]

theorem doCciResultRead_granted {m : MasterId} {c : CciId} (h : s.granted m.val (cciAddr c.val 0x10) .look) :
    doCciResultRead m c s = (s.cciPop c.val).1.answer m.val (s.cciPop c.val).2 := guardRead_granted h _

/-- Settles O24: each command, where it is heard and may act, has the effect that the lemmas above give for it. -/
theorem cciMaster : Obligations.CciMaster := by
  refine ⟨fun c s hlive => ⟨?push, ?issue, ?done, ?read, ?disable⟩, fun s hlive =>
    ⟨exec_cciPush_live hlive, exec_cciIssue_live hlive, exec_cciTransactionDone_live hlive, exec_cciStretchTimeout_live hlive,
      exec_cciResultRead_live hlive, exec_cciDisable_live hlive⟩⟩
  case push =>
    intro m v hgrant
    rw [exec_cciPush_live hlive, doCciPush_granted hgrant]
    exact ⟨fun hroom => by rw [cciPush_of_room hroom], fun hfull => by rw [cciPush_of_full hfull]⟩
  case issue =>
    intro t rest hidle hhead hen htrig hserves hfree
    have hissue := cciIssue_of_ready hidle hhead hen htrig hserves hfree
    rw [exec_cciIssue_live hlive, exec_cciIssue_live hlive, doCciIssue, doCciIssue, hissue, hissue]
    exact ⟨rfl, rfl⟩
  case done =>
    intro t v hactive hloop hsession
    have hok : doCciTransactionDone c 0 v s = _ := cciDone_ok hactive hloop hsession v.toNat
    have hnack : doCciTransactionDone c 1 v s = _ := cciDone_error hactive hloop hsession (status := 1) (by decide) v.toNat
    have hstretch : doCciStretchTimeout c s = _ := cciDone_error hactive hloop hsession (status := 3) (by decide) 0
    rw [exec_cciTransactionDone_live hlive, exec_cciTransactionDone_live hlive, exec_cciStretchTimeout_live hlive, hok, hnack,
      hstretch, Nat.zero_mod]
    exact ⟨rfl, rfl, rfl⟩
  case read =>
    intro m x rest hgrant hresults
    rw [exec_cciResultRead_live hlive, doCciResultRead_granted hgrant, cciPop_cons hresults]
  case disable =>
    intro m hgrant
    rw [exec_cciDisable_live hlive, doCciDisable_granted hgrant, State.cciFlush]

end Sys2Proof.Machine
end

