-- ==== Sys2Proof/Proofs/BeforeLogin.lean ====
section
/-! SUPPORT. What a session that is not logged in answers to a command that needs login (R583). -/
namespace Sys2Proof.Machine

variable {s : State} {n : Nat} {x : Form}

/-! ### A line whose turn it is -/

/-- A session whose turn it is notes when the line came, and executes its command. -/
theorem lineOf_turn (h : s.turn n x) (query early : Bool) (k : State → State × Reply) :
    s.lineOf n x query early k =
      (s.modSes n (fun y => { y with lastLine := s.now })).command n x query early k := by
  obtain ⟨-, hreads, hlines, htyped, -⟩ := h
  have hmode : ¬(x = .typed ∧ s.sesMachine n = true) := fun ⟨hx, hm⟩ => by simp [htyped hx] at hm
  simp [State.lineOf, hreads, hlines, hmode]

/-! ### Before login -/

/-- Before login, a command that needs login, and that the session does not remember, fails with error 201 (R583); it is not
executed, and its line is not counted. -/
theorem command_before_login (hnew : s.recall n x = none) (hout : s.rd Rg.sesLogged n = 0) (query : Bool)
    (k : State → State × Reply) : s.command n x query false k = s.finish n x query (.err 201 []) := by
  have hrecall : (if query then none else s.recall n x) = none := by rw [hnew, ite_self]
  simp [State.command, hrecall, on_of_zero hout]

/-- So does the text of a line whose verb needs login. -/
theorem runText_before_login (hnew : s.recall n x = none) (hout : s.rd Rg.sesLogged n = 0) {t v : Text} {ws : List Text}
    (hwords : wordsOf t = v :: ws) (hverb : earlyVerb v = false) :
    s.runText n x t = s.finish n x (queryVerb v) (.err 201 []) := by
  simp only [State.runText, hwords, hverb]
  exact command_before_login hnew hout _ _

/-- A command that a ready engine executes as a line of a session, and that needs login, is refused before login, whatever its
verb would do. -/
theorem exec_before_login {c : Instr} {query : Bool} {k : State → State × Reply} (h : s.turn n x)
    (hout : s.rd Rg.sesLogged n = 0) (hline : exec c s = .next (s.effect (fun st => st.lineOf n x query false k))) :
    exec c s =
      .next ((s.modSes n (fun y => { y with lastLine := s.now })).finish n x query (.err 201 [])).settle := by
  have ⟨hlive, _, _, _, hnew⟩ := h
  rw [hline, effect_live hlive, lineOf_turn h, command_before_login hnew hout]

/-- Settles O60: each of these commands is a line of its session that needs login, by its definition; what its verb would do
does not matter. -/
theorem beforeLogin : Obligations.BeforeLogin := by
  intro n x s hturn u hout query refused
  have hquery {c : Instr} {k : State → State × Reply}
      (hline : exec c s = .next (s.effect (fun st => st.lineOf n.val x true false k))) : query c :=
    exec_before_login hturn hout hline
  have hrefused {c : Instr} {k : State → State × Reply}
      (hline : exec c s = .next (s.effect (fun st => st.lineOf n.val x false false k))) : refused c :=
    exec_before_login hturn hout hline
  refine ⟨?values, ?tables, ?lanes, ?cameras, ?channels, ?linAndStore, ?engine, ?texts⟩
  case values => exact fun _ _ => ⟨hquery rfl, hrefused rfl⟩
  case tables => exact fun _ _ _ _ _ _ => ⟨hrefused rfl, hrefused rfl⟩
  case lanes => exact fun _ _ _ _ _ _ => ⟨hrefused rfl, hrefused rfl, hrefused rfl, hrefused rfl⟩
  case cameras => exact fun _ _ => ⟨hrefused rfl, hrefused rfl⟩
  case channels => exact fun _ _ _ _ _ => ⟨hrefused rfl, hrefused rfl, hrefused rfl⟩
  case linAndStore =>
    exact fun _ _ _ _ _ _ _ _ =>
      ⟨hrefused rfl, hrefused rfl, hrefused rfl, hrefused rfl, hrefused rfl, hrefused rfl⟩
  case engine =>
    exact fun _ _ _ _ =>
      ⟨hrefused rfl, hrefused rfl, hrefused rfl, hrefused rfl, hrefused rfl, hrefused rfl, hrefused rfl, hrefused rfl,
        hrefused rfl⟩
  case texts =>
    obtain ⟨-, -, -, -, hnew⟩ := hturn
    exact fun _ _ _ hwords hverb => runText_before_login hnew hout hwords hverb

end Sys2Proof.Machine
end

