-- ==== Sys2Proof/Proofs/EventRaise.lean ====
section
/-! SUPPORT. The configuration of the event sources after a cold start, and what a raise without a rate limit counts and
delivers (R714, R716, R717). -/
namespace Sys2Proof.Machine

variable (s : State)

/-! ### The cold start -/

/-- Of sparse data thinned out by key, a kept key reads as before, and any other as unlisted. -/
theorem kvGet_keep {α : Type} (d : α) (p : Nat → Bool) (m : Kv α) (q : Nat) :
    kvGet d (kvKeep p m) q = if p q then kvGet d m q else d := by
  induction m with
  | nil => simp [kvKeep]
  | cons e m ih =>
    unfold kvKeep at ih ⊢
    by_cases hp : p e.1
    · by_cases hq : q = e.1
      · subst hq; simp [kvGet, hp]
      · simp [kvGet, hp, hq, ih]
    · by_cases hq : q = e.1
      · subst hq; simpa [hp] using ih
      · simp [kvGet, hp, hq, ih]

/-- After a cold start every register but CAUSE and PAD_HELD holds what it held, where it outlasts a loss of power, or its
reset value. -/
theorem rd_coldBegin (cause : Nat) (vin held : Bool) (f : Fld) (i j : Nat) (hcause : f.key i j ≠ Rg.bootCause.key 0 0)
    (hpad : f.key i j ≠ Rg.pwPadHeld.key 0 0) :
    (s.coldBegin cause vin held).rd f i j =
      if coldKept.any (fun g => g.hasKey (f.key i j)) then s.rd f i j else f.reset i j := by
  unfold State.coldBegin
  rw [rd_wr_ne _ _ _ _ _ _ _ _ hpad, rd_wr_ne _ _ _ _ _ _ _ _ hcause]
  exact kvGet_keep _ (fun k => coldKept.any (fun g => g.hasKey k)) _ _

/-- A field that is no array has one key. -/
theorem hasKey_single {f : Fld} (h1 : f.n1 = 1) (h2 : f.n2 = 1) (k : Nat) : f.hasKey k = (f.key 0 0 == k) := by
  simp [Fld.hasKey, h1, h2]

/-- What outlasts a loss of power lies in the first 256 bytes of BAR0. -/
theorem coldKept_key_lt {k : Nat} (h : coldKept.any (fun f => f.hasKey k) = true) : k < 0x100 * 8 := by
  have hlow : ∀ f ∈ coldKept, f.n1 = 1 ∧ f.n2 = 1 ∧ f.key 0 0 < 0x100 * 8 := by decide
  obtain ⟨f, hf, hk⟩ := List.any_eq_true.mp h
  obtain ⟨h1, h2, hlt⟩ := hlow f hf
  rw [hasKey_single h1 h2, beq_iff_eq] at hk
  exact hk ▸ hlt

/-- A cold start puts every field of the sources' block, SRC_0 to SRC_1023, at its reset value. -/
theorem rd_coldBegin_source (cause : Nat) (vin held : Bool) {f : Fld} {i j : Nat} (hlo : 0x41000 * 8 ≤ f.key i j)
    (hhi : f.key i j < 0x45000 * 8) : (s.coldBegin cause vin held).rd f i j = f.reset i j := by
  have hcause : f.key i j ≠ Rg.bootCause.key 0 0 := by
    simp only [Rg.bootCause, Fld.key] at hlo ⊢; omega
  have hpad : f.key i j ≠ Rg.pwPadHeld.key 0 0 := by
    simp only [Rg.pwPadHeld, Fld.key] at hhi ⊢; omega
  rw [rd_coldBegin _ _ _ _ _ _ _ hcause hpad, if_neg]
  intro hkept
  have := coldKept_key_lt hkept
  omega

/-! ### A raise -/

@[simp] theorem rd_unmarkInjected (e : Nat) (g : Fld) (a b : Nat) : (s.unmarkInjected e).rd g a b = s.rd g a b := rfl

/-- A raise of a source with EN = 1 counts, and is delivered. -/
theorem raise_on (e a0 a1 : Nat) (h : s.rd Rg.srcEn e = 1) :
    s.raise e a0 a1 = ((s.bumpSat Rg.srcRaised e).deliver e a0 a1).unmarkInjected e := by
  simp [State.raise, on_of_one h]

/-- A delivery counts nothing in RAISED. -/
theorem raised_deliver (e a0 a1 : Nat) {n : Nat} (he : e < 1024) (hn : n < 1024) :
    (s.deliver e a0 a1).rd Rg.srcRaised n = s.rd Rg.srcRaised n := by
  apply rd_deliver
  · simp only [Fld.key, Rg.srcRaised, Rg.evtPend]; omega
  · intro t _; simp only [Fld.key, Rg.srcRaised, Rg.qLost]; omega
  · intro t _; simp only [Fld.key, Rg.srcRaised, Rg.qDepth]; omega

/-- Every raise counts in RAISED of its source, which saturates, whether EN is 1 or 0 (R714, R716). -/
theorem raised_raise (e a0 a1 : Nat) (he : e < 1024) :
    (s.raise e a0 a1).rd Rg.srcRaised e = min (s.rd Rg.srcRaised e + 1) (2 ^ 32 - 1) := by
  have hcount : (s.bumpSat Rg.srcRaised e).rd Rg.srcRaised e = min (s.rd Rg.srcRaised e + 1) (2 ^ 32 - 1) :=
    rd_bumpSat_same s _ _ _
  rw [State.raise, rd_unmarkInjected]
  split
  case isTrue => rw [raised_deliver _ _ _ _ he he, hcount]
  case isFalse => exact hcount

/-- After a raise of a source with EN = 1 its PEND bit is set. -/
theorem pend_raise_on (e a0 a1 : Nat) (he : e < 1024) (h : s.rd Rg.srcEn e = 1) :
    ((s.raise e a0 a1).rd Rg.evtPend (e / 32)).testBit (e % 32) = true := by
  rw [raise_on _ _ _ _ h, rd_unmarkInjected]
  exact pend_deliver _ e a0 a1 he

/-- A raise of a source with EN = 0 sets no PEND bit. -/
theorem pend_raise_off (e a0 a1 : Nat) {g : Nat} (hg : g < 32) (h : s.rd Rg.srcEn e = 0) :
    (s.raise e a0 a1).rd Rg.evtPend g = s.rd Rg.evtPend g := by
  rw [raise_off _ _ _ _ h, rd_unmarkInjected]
  refine rd_bumpSat_ne s _ _ _ _ _ _ ?_
  simp only [Fld.key, Rg.srcRaised, Rg.evtPend]; omega

/-- A raise of a source with EN = 0 leaves the event unit as it is, but for the mark of an injection. -/
theorem evt_raise_off (e a0 a1 : Nat) (h : s.rd Rg.srcEn e = 0) :
    (s.raise e a0 a1).evt = { s.evt with injecting := s.evt.injecting.erase e } := by
  rw [raise_off _ _ _ _ h]; rfl

/-- Settles O12: a cold start resets the sources' block, every raise counts, and EN decides whether it is delivered. -/
theorem eventRaised : Obligations.EventRaised := by
  refine ⟨fun cause vin held e s => ?cold, fun e a0 a1 s => ⟨raised_raise s _ _ _ e.isLt, ?on, fun hoff => ?off⟩⟩
  case cold =>
    have he := e.isLt
    refine ⟨rd_coldBegin_source s cause vin held ?_ ?_, rd_coldBegin_source s cause vin held ?_ ?_,
      rd_coldBegin_source s cause vin held ?_ ?_, rd_coldBegin_source s cause vin held ?_ ?_⟩ <;>
    · simp only [Fld.key, Rg.srcEn, Rg.srcQmask, Rg.srcVecEn, Rg.srcPins]; omega
  case on => exact pend_raise_on s _ _ _ e.isLt
  case off =>
    rw [evt_raise_off s _ _ _ hoff]
    exact ⟨fun g => pend_raise_off s _ _ _ g.isLt hoff, rfl, rfl, rfl⟩

end Sys2Proof.Machine
end

