-- ==== Sys2Proof/Proofs/Heard.lean ====
section
-- Proofs are elaborated one by one, and none waits for the kernel's checks of the tests: this bounds the memory.
set_option deprecated.oldSectionVars true
/-! SUPPORT. What a command that is heard answers: the state of its own effect, settled. What a loop does over no element and
over one more. -/
namespace Sys2Proof.Machine

variable {s t : State} {c : Instr} {f : State → State}

/-- A ready engine settles the effect of a command that acts in a ready engine only. -/
theorem exec_live (h : s.live = true) (hexec : exec c s = .next (s.effect f)) (heff : f s = t) : exec c s = .next t.settle := by
  rw [hexec, effect_live h, heff]

/-- An engine that is powered and runs settles the effect of a command that acts before READY too. -/
theorem exec_awake (h : s.awake = true) (hexec : exec c s = .next (s.effectAwake f)) (heff : f s = t) :
    exec c s = .next t.settle := by
  rw [hexec, effectAwake_awake h, heff]

/-- A powered engine that is not sealed settles the effect of a command that acts while it drains too. -/
theorem exec_lit (h : s.lit = true) (hseal : s.powerFail ≠ .sealed) (hexec : exec c s = .next (s.effectDrain f))
    (heff : f s = t) : exec c s = .next t.settle := by
  rw [hexec, effectDrain_lit h hseal, heff]

/-- Every engine settles the effect of a command that acts in the dark too. -/
theorem exec_dark (hexec : exec c s = .next (s.effectDark f)) (heff : f s = t) : exec c s = .next t.settle := by
  rw [hexec, State.effectDark, heff]

/-! ### What every command answers -/

/-- What a command answers: the state as it was, where its unit cannot hear it, or a state that has settled. -/
def Answers (s : State) (o : Host.Outcome State Fault Refusal) : Prop := o = .next s ∨ ∃ u : State, o = .next u.settle

/-- A command that acts under a condition. -/
theorem answers_if (p : Prop) [Decidable p] (u : State) : Answers s (.next (if p then u.settle else s)) := by
  split
  case isTrue => exact .inr ⟨u, rfl⟩
  case isFalse => exact .inl rfl

/-- A command that acts in every state. -/
theorem answers_settle (u : State) : Answers s (.next u.settle) := .inr ⟨u, rfl⟩

/-! ### Loops over few elements -/

@[simp] theorem each_nil {α : Type} (s : State) (f : State → α → State) : s.each [] f = s := rfl

@[simp] theorem each_cons {α : Type} (s : State) (x : α) (l : List α) (f : State → α → State) :
    s.each (x :: l) f = (f s x).each l f := rfl

end Sys2Proof.Machine
end

