-- ==== Sys2Proof/Proofs/BellEvents.lean ====
section
-- Proofs are elaborated one by one, and none waits for the kernel's checks of the tests: this bounds the memory.
set_option deprecated.oldSectionVars true
/-! SUPPORT. The Bell's sources, holdover, the cost overrun and the end of a Temper change (R19 to R25, R51, R695). -/
namespace Sys2Proof.Machine

variable {s : State}

/-! ### BELL_IN (R20, R21) -/

section BellIn

variable (hpend : s.bell.srcPend = none) (hhold : s.rd Rg.bellHoldover = 0) (hsrc : s.rd Rg.bellSrcAct = 1)
  (hcatch : s.bell.catchUp = false)
include hpend hhold hsrc hcatch

/-- Outside holdover and catch-up an edge is judged against the last Bell alone. -/
theorem edge_bellIn : s.edge = s.edgePlain s.now := by
  simp [State.edge, hpend, hsrc, hcatch, on_of_zero hhold]

/-- An edge earlier than 15/16 of the Period after the last Bell is ignored (R20). -/
theorem edge_early (h : 16 * (s.now - s.lastBell) < 15 * s.periodTicks) :
    s.edge = ((s.bumpSat Rg.bellEarly).raise 66 0 (s.rd Rg.bellEarly + 1)).modBell (fun b => { b with lastEdge := some s.now }) :=
  (edge_bellIn hpend hhold hsrc hcatch).trans (if_pos (decide_eq_true h))

/-- Any other edge makes the Bell (R20). -/
theorem edge_onTime (h : 15 * s.periodTicks ≤ 16 * (s.now - s.lastBell)) :
    s.edge = (s.modBell (fun b => { b with lastEdge := some s.now, lastValid := some s.now })).soundBell s.now false :=
  have hlate : ¬s.isEarly s.now s.lastBell = true := by simpa [State.isEarly] using h
  (edge_bellIn hpend hhold hsrc hcatch).trans (if_neg hlate)

/-- Holdover is due 17/16 of the Period after the last Bell (R21). -/
theorem holdoverDue_bellIn : s.holdoverDue = some (s.sixteenths s.lastBell 17) := by
  simp [State.holdoverDue, hpend, hsrc, hcatch, on_of_zero hhold]

/-- Holdover begins with E0064 and its first Bell (R21). -/
theorem holdoverEnter_bellIn :
    s.holdoverEnter = (((((s.wr Rg.bellHoldover 1).wr Rg.bellSrcAct 1).modBell (fun b =>
      { b with lastEdge := none, inRow := 0, held := [], catchUp := false, srcPend := none, holdFirst := none })).reach
        (s.sixteenths s.lastBell 17)).raise 64 0 s.period).soundBell (s.sixteenths s.lastBell 17) false := by
  simp [State.holdoverEnter, holdoverDue_bellIn hpend hhold hsrc hcatch, hpend, hsrc, hcatch]

end BellIn

/-! ### A change of source (R25) -/

theorem doBellSourceChange_granted {m : MasterId} {v : Fin 4} (h : s.granted m.val 0x10000 .set) :
    doBellSourceChange m v s = s.srcWrite v.val := withRight_granted h _

theorem srcWrite_same {v : Nat} (h : v = s.rd Rg.bellSrc) : s.srcWrite v = s := if_pos h

/-- Outside holdover a new source waits for its first event. -/
theorem srcWrite_other {v : Nat} (h : v ≠ s.rd Rg.bellSrc) (hhold : (s.wr Rg.bellSrc v).rd Rg.bellHoldover = 0) :
    s.srcWrite v = (s.wr Rg.bellSrc v).modBell
      (fun b => { b with held := [], catchUp := false, srcPend := some (v, s.lastBell) }) := by
  have hoff : ((s.wr Rg.bellSrc v).modBell (fun b => { b with held := [], catchUp := false })).on Rg.bellHoldover = false :=
    on_of_zero hhold
  simp only [State.srcWrite, if_neg h, hoff, Bool.false_eq_true, false_and, if_false]
  rfl

/-! ### Temper (R695) -/

/-- A ramp that runs ends at its instant, and the level in force is reported. -/
theorem temperChangeComplete_ramping (h : s.rd Rg.pwRamping = 1) :
    doTemperChangeComplete s =
      (((s.reach (s.rd Rg.bellStamp + usTicks (absDiff (s.rd Rg.pwVcore) (levelMv (s.rd Rg.pwActive)) / 10 + 1))).wr
        Rg.pwRamping 0).wr Rg.pwVcore (levelMv (s.rd Rg.pwActive))).raise 25 0 (s.rd Rg.pwActive) := by
  simp [doTemperChangeComplete, State.temperDone, State.on, h]

/-- Settles O19: each command, where it is heard, has the effect that the lemmas above give for it. -/
theorem bellEvents : Obligations.BellEvents := by
  refine ⟨?bellIn, ?source, ⟨?overrun, ?temper⟩, fun s => ⟨?live, ?awake⟩⟩
  case bellIn =>
    intro s hawake hpend hhold hsrc hcatch
    exact ⟨fun h => exec_awake hawake rfl (edge_early hpend hhold hsrc hcatch h),
      fun h => exec_awake hawake rfl (edge_onTime hpend hhold hsrc hcatch h),
      exec_awake hawake rfl (holdoverEnter_bellIn hpend hhold hsrc hcatch)⟩
  case source =>
    intro m v s hawake hgrant
    have hwrite := doBellSourceChange_granted (v := v) hgrant
    exact ⟨fun h => exec_awake hawake rfl (hwrite.trans (srcWrite_same h)),
      fun h hhold => exec_awake hawake rfl (hwrite.trans (srcWrite_other h hhold))⟩
  case overrun => exact fun _ _ _ _ _ hlive => ⟨exec_live hlive rfl rfl, exec_live hlive rfl rfl⟩
  case temper => exact fun _ hawake hramp => exec_awake hawake rfl (temperChangeComplete_ramping hramp)
  case live => exact fun hlive _ _ _ => exec_live hlive rfl rfl
  case awake =>
    exact fun hawake => ⟨exec_awake hawake rfl rfl, exec_awake hawake rfl rfl, fun _ _ => exec_awake hawake rfl rfl,
      exec_awake hawake rfl rfl, exec_awake hawake rfl rfl, fun _ _ => exec_awake hawake rfl rfl⟩

end Sys2Proof.Machine
end

