-- ==== Sys2Proof/Proofs/CapturePorts.lean ====
section
-- Proofs are elaborated one by one, and none waits for the kernel's checks of the tests: this bounds the memory.
set_option deprecated.oldSectionVars true
/-! SUPPORT. What the commands of the capture ports do: enable and disable, links, packets, bus lines and overflow (R127 to
R145, R178). -/
namespace Sys2Proof.Machine

variable {s : State} {p : Nat}

/-! ### Kinds of ports (R126) -/

theorem isCsi_of_lt (h : p < 4) : isCsi p = true := decide_eq_true h

theorem isCsi_of_ge (h : 4 ≤ p) : isCsi p = false := decide_eq_false (Nat.not_lt.mpr h)

/-! ### Enable and disable (R127, R129) -/

theorem portEnableNow_fits (hoff : s.rd Rg.portEn p = 0) (h : s.budget + s.portRate p ≤ 40000) :
    s.portEnableNow p =
      let t := (s.wr Rg.portEn 1 p).syncBudget
      { t with ports := kvMod {} t.ports p (fun x => { x with lastSeen := s.now }) } := by
  simp only [State.portEnableNow, on_of_zero hoff, Bool.false_eq_true, if_false, if_pos h]
  rfl

theorem portEnableNow_over (hoff : s.rd Rg.portEn p = 0) (h : 40000 < s.budget + s.portRate p) :
    s.portEnableNow p = s.raise 364 p 0 := by
  simp only [State.portEnableNow, on_of_zero hoff, Bool.false_eq_true, if_false, if_neg (Nat.not_le.mpr h)]

theorem portDisableNow_on (hon : s.rd Rg.portEn p = 1) :
    s.portDisableNow p = ((s.loseLink p).wr Rg.portEn 0 p).syncBudget := if_pos (on_of_one hon)

theorem doPortEnable_granted {m : MasterId} {p : PortId} (h : s.granted m.val (portAddr p.val) .set) :
    doPortEnable m p s = s.portEnableNow p.val := withRight_granted h _

theorem doPortDisable_granted {m : MasterId} {p : PortId} (h : s.granted m.val (portAddr p.val) .set) :
    doPortDisable m p s = s.portDisableNow p.val := withRight_granted h _

/-! ### What takes a link down (R134, R141) -/

theorem linkTimedOut_up (h : s.rd Rg.portLink p = 1) :
    s.linkTimedOut p = (s.reach ((kvGet {} s.ports p).lastSeen + s.linkTimeout p)).loseLink p := if_pos (on_of_one h)

theorem pclkLost_up (hpar : 4 ≤ p) (h : s.rd Rg.portLink p = 1) : s.pclkLost p = s.loseLink p := by
  simp [State.pclkLost, isCsi_of_ge hpar, on_of_one h]

theorem deskew_live (hcsi : p < 4) (h : s.portLive p = true) (ok : Bool) :
    s.deskew p ok = if ok then s.wr Rg.portDeskewed 1 p else s.loseLink p := by
  simp [State.deskew, isCsi_of_lt hcsi, h]

/-! ### Overflow (R178) -/

/-- The port counts and reports the lines that it drops. -/
def State.overflowCounted (s : State) (p k : Nat) : State := (s.addSat Rg.portOverflow k p).raise (344 + p) p k

theorem doPortOverflow_live {p : PortId} {n : LaneId} {k : Nat} (hlive : s.portLive p.val = true) (hk : 0 < k) :
    doPortOverflow p n k s = s.portOverflow p.val n.val k := by
  simp [doPortOverflow, hlive, hk]

section Overflow

variable {n k : Nat}

/-- The lane of a MIPI port counts and marks the lines as well. -/
theorem portOverflow_lane (hcsi : p < 4) (hbound : (s.overflowCounted p k).isBound n = true)
    (hport : (s.overflowCounted p k).bnd n Rg.lnPort = p) :
    s.portOverflow p n k = (s.overflowCounted p k).laneOverflow n k := by
  simp only [State.overflowCounted] at hbound hport
  simp [State.portOverflow, State.overflowCounted, isCsi_of_lt hcsi, hbound, hport]

theorem portOverflow_unbound (hcsi : p < 4) (hbound : (s.overflowCounted p k).isBound n = false) :
    s.portOverflow p n k = s.overflowCounted p k := by
  simp only [State.overflowCounted] at hbound
  simp [State.portOverflow, State.overflowCounted, isCsi_of_lt hcsi, hbound]

/-- On a parallel bus each line keeps its number, and the lanes that take it count and mark it. -/
theorem portOverflow_bus (hpar : 4 ≤ p) :
    s.portOverflow p n k =
      (s.overflowCounted p k).each (List.range k) (fun st _ => st.busLine p (fun u i => u.laneOverflow i 1)) := by
  simp [State.portOverflow, State.overflowCounted, isCsi_of_ge hpar]

end Overflow

/-- Settles O20: each command, where it is heard and may act, has the effect that the lemmas above give for it. -/
theorem ports : Obligations.Ports := by
  refine ⟨fun m p s hlive hgrant => ⟨?fits, ?beyond, ?disable⟩, fun p s hlive => ⟨?silence, ?pclk, ?deskew⟩, ?overflow, ?all⟩
  case fits =>
    exact fun hoff h => exec_live hlive rfl ((doPortEnable_granted hgrant).trans (portEnableNow_fits hoff h))
  case beyond =>
    exact fun hoff h => exec_live hlive rfl ((doPortEnable_granted hgrant).trans (portEnableNow_over hoff h))
  case disable =>
    exact fun hon => exec_live hlive rfl ((doPortDisable_granted hgrant).trans (portDisableNow_on hon))
  case silence => exact fun hup => exec_live hlive rfl (linkTimedOut_up hup)
  case pclk => exact fun hpar hup => exec_live hlive rfl (pclkLost_up hpar hup)
  case deskew =>
    exact fun hcsi h => ⟨exec_live hlive rfl (deskew_live hcsi h true), exec_live hlive rfl (deskew_live hcsi h false)⟩
  case overflow =>
    intro p n k s hlive hport hk
    have hdo := doPortOverflow_live (n := n) hport hk
    exact ⟨fun hcsi h => exec_live hlive rfl (hdo.trans (portOverflow_unbound hcsi h)),
      fun hpar => exec_live hlive rfl (hdo.trans (portOverflow_bus hpar)),
      fun hcsi hb hp => exec_live hlive rfl (hdo.trans (portOverflow_lane hcsi hb hp))⟩
  case all =>
    exact fun s hlive => ⟨fun _ _ => exec_live hlive rfl rfl, fun _ _ => exec_live hlive rfl rfl,
      fun _ => exec_live hlive rfl rfl, fun _ => exec_live hlive rfl rfl, fun _ _ => exec_live hlive rfl rfl,
      fun _ _ _ => exec_live hlive rfl rfl⟩

/-! ### Headers (R131, R133, R134) -/

section Header

variable {c : Nat} {ecc : Bool}

/-- A packet that no running lane takes counts as unbound; a corrected header counts for the lanes of its channel all the
same. -/
theorem header_unbound (h : ((s.seeLink p).holders p c).filter (fun h => (s.seeLink p).isRunning h.1) = []) :
    s.header p c ecc =
      (if ecc then (s.seeLink p).each ((s.seeLink p).holders p c) (fun st h => st.markCount h.1 mkEccFixed Rg.lnEccFixed)
       else s.seeLink p).bumpSat Rg.portUnbound p := by
  simp [State.header, h]

/-- A header on the channel of one running lane. -/
theorem header_one {n : Nat} (hone : (s.seeLink p).holders p c = [(n, 0)]) (hrun : (s.seeLink p).isRunning n = true) :
    s.header p c ecc = if ecc then (s.seeLink p).markCount n mkEccFixed Rg.lnEccFixed else s.seeLink p := by
  simp [State.header, hone, hrun]

end Header

/-- A packet whose payload is right leaves nothing of its payload. -/
@[simp] theorem payload_ok (s : State) (p c : Nat) : s.payload p c true = s := rfl

/-- The one lane that holds a channel takes its packets while it runs. -/
theorem takers_one {c n e : Nat} (hone : s.holders p c = [(n, e)]) (hrun : s.isRunning n = true) :
    s.takers p c = [(n, e)] := by
  simp [State.takers, hone, hrun]

theorem doShortPacket_live {p : PortId} (h : s.portLive p.val = true) (vc : Fin 16) (ecc : Bool) :
    doShortPacket p vc ecc s = s.header p.val vc.val ecc := if_pos h

theorem doUnboundPacket_live {p : PortId} {vc : Fin 16} (h : s.portLive p.val = true) (hnone : s.takers p.val vc.val = []) :
    doUnboundPacket p vc s = s.header p.val vc.val false := by simp [doUnboundPacket, h, hnone]

theorem doDtMismatch_live {p : PortId} (h : s.portLive p.val = true) (vc : Fin 16) (ecc crcOk : Bool) :
    doDtMismatch p vc ecc crcOk s = s.dtMismatch p.val vc.val ecc crcOk := if_pos h

theorem doEmbeddedData_live {p : PortId} (h : s.portLive p.val = true) (hcsi : p.val < 4) (vc : Fin 16) (ecc crcOk : Bool)
    (bytes : List Byte) : doEmbeddedData p vc ecc crcOk bytes s = s.embedded p.val vc.val ecc crcOk bytes := by
  simp [doEmbeddedData, h, isCsi_of_lt hcsi]

theorem doHeaderUncorrectable_live {p : PortId} (h : s.portLive p.val = true) (hcsi : p.val < 4) :
    doHeaderUncorrectable p s = s.headerLost p.val := by simp [doHeaderUncorrectable, h, isCsi_of_lt hcsi]

/-- A packet of another data type on the channel of one running lane. -/
theorem dtMismatch_one {c n : Nat} (hone : (s.seeLink p).holders p c = [(n, 0)]) (hrun : (s.seeLink p).isRunning n = true) :
    s.dtMismatch p c false true = (s.seeLink p).markCount n mkDtMismatch Rg.lnDtMismatch := by
  simp [State.dtMismatch, header_one hone hrun, takers_one hone hrun]

/-- An embedded-data packet of the one running lane of its channel: its capture keeps four. -/
theorem embedded_one {c n : Nat} (hone : (s.seeLink p).holders p c = [(n, 0)]) (hrun : (s.seeLink p).isRunning n = true)
    (bytes : List Byte) :
    s.embedded p c false true bytes = (s.seeLink p).modLane n (fun l =>
      { l with capture := l.capture.map (fun x =>
        { x with embedded := if x.embedded.length < 4 then x.embedded ++ [bytes.take 4096] else x.embedded }) }) := by
  simp [State.embedded, header_one hone hrun, takers_one hone hrun]

/-! ### Parallel buses (R137 to R140, R144, R145) -/

theorem doBusFrameStart_live {p : PortId} (hpar : 4 ≤ p.val) (h : s.portLive p.val = true)
    (hsync : s.rd Rg.parSync (p.val - 4) = 0) : doBusFrameStart p s = s.busFrameStart p.val := by
  simp [doBusFrameStart, isCsi_of_ge hpar, h, hsync]

theorem doTimingCode_live {p : PortId} {xy : Fin 256} (hpar : 4 ≤ p.val) (h : s.portLive p.val = true)
    (hsync : s.rd Rg.parSync (p.val - 4) = 1) : doTimingCode p xy s = s.timingCode p.val xy.val := by
  simp [doTimingCode, isCsi_of_ge hpar, h, hsync]

/-- A code with H = 1, read without a correction, notes its bits; with FIELD_MODE = 0 it begins no bus frame. -/
theorem timingCode_blank {xy : Nat} {f v : Bool} (hfield : s.rd Rg.parFieldMode (p - 4) = 0)
    (hcode : xyDecode xy = some ((f, v, true), false)) :
    s.timingCode p xy = { s with ports := kvMod {} s.ports p (fun y =>
      { y with lastF := some (b2n f), blank := v || y.blank, active := false }) } := by
  simp [State.timingCode, hcode, hfield]

theorem doTrailer_live {p : PortId} {words t : List Nat} (hpar : 4 ≤ p.val) (h : s.portLive p.val = true)
    (hen : s.rd Rg.parTrailEn (p.val - 4) = 1) : doTrailer p words t s = s.trailer p.val words t := by
  simp [doTrailer, isCsi_of_ge hpar, h, hen]

/-- A trailer of another tag is an error of every lane on the line. -/
theorem trailer_badTag {words t : List Nat} (h : t.getD 0 0 ≠ 0xC3) :
    s.trailer p words t = s.each (s.lanesAtLine p ((kvGet {} s.ports p).busLine - 1)) (fun st n =>
      st.markCount n mkTrailer Rg.lnTrailer) := by
  rw [State.trailer, if_pos (bne_iff_ne.mpr h)]

/-- A good trailer, the first of its frame, only notes its counter. -/
theorem trailer_good {words t : List Nat} (htag : t.getD 0 0 = 0xC3)
    (hcrc : t.getD 2 0 * 256 + t.getD 3 0 = trailerCrc words (t.getD 1 0)) (hfirst : (kvGet {} s.ports p).lastTrailer = none) :
    s.trailer p words t = { s with ports := kvMod {} s.ports p (fun y => { y with lastTrailer := some (t.getD 1 0) }) } := by
  simp only [State.trailer, htag, hcrc, hfirst, bne_self_eq_false, Bool.false_eq_true, if_false]

/-- Settles O21: each command, where it is heard and may act, has the effect that the lemmas above give for it. -/
theorem portInputs : Obligations.PortInputs := by
  refine ⟨fun p c ecc s hlive hport => ⟨?unbound, ?one, ?uncorrectable⟩,
    fun p s hlive hpar hport => ⟨?busFrame, ?timing, ?trailer⟩, ?all⟩
  case unbound =>
    exact fun hnone => ⟨exec_live hlive rfl ((doShortPacket_live hport c ecc).trans (header_unbound hnone)),
      fun htakers => exec_live hlive rfl ((doUnboundPacket_live hport htakers).trans (header_unbound hnone))⟩
  case one =>
    exact fun n hone hrun => ⟨exec_live hlive rfl ((doShortPacket_live hport c true).trans (header_one hone hrun)),
      exec_live hlive rfl ((doShortPacket_live hport c false).trans (header_one hone hrun)),
      exec_live hlive rfl ((doDtMismatch_live hport c false true).trans (dtMismatch_one hone hrun)),
      fun hcsi bytes => exec_live hlive rfl
        ((doEmbeddedData_live hport hcsi c false true bytes).trans (embedded_one hone hrun bytes))⟩
  case uncorrectable => exact fun hcsi => exec_live hlive rfl (doHeaderUncorrectable_live hport hcsi)
  case busFrame => exact fun hsync => exec_live hlive rfl (doBusFrameStart_live hpar hport hsync)
  case timing =>
    exact fun xy f v hsync hfield hcode =>
      exec_live hlive rfl ((doTimingCode_live hpar hport hsync).trans (timingCode_blank hfield hcode))
  case trailer =>
    intro words t hen
    have hdo := doTrailer_live (words := words) (t := t) hpar hport hen
    exact ⟨fun htag => exec_live hlive rfl (hdo.trans (trailer_badTag htag)),
      fun htag hcrc hfirst => exec_live hlive rfl (hdo.trans (trailer_good htag hcrc hfirst))⟩
  case all =>
    exact fun s hlive => ⟨fun _ _ _ => exec_live hlive rfl rfl, fun _ _ => exec_live hlive rfl rfl,
      fun _ _ _ _ => exec_live hlive rfl rfl, fun _ _ _ _ _ => exec_live hlive rfl rfl, fun _ => exec_live hlive rfl rfl,
      fun _ => exec_live hlive rfl rfl, fun _ _ => exec_live hlive rfl rfl, fun _ _ _ => exec_live hlive rfl rfl⟩

end Sys2Proof.Machine
end

