-- ==== Sys2Proof/Proofs/Frames.lean ====
section
-- Proofs are elaborated one by one, and none waits for the kernel's checks of the tests: this bounds the memory.
set_option deprecated.oldSectionVars true
/-! SUPPORT. What the packets of frames on a MIPI port, and the lines of a parallel bus, do (R131 to R133, R137, R150 to R157). -/
namespace Sys2Proof.Machine

variable {s : State} {p c : Nat}

/-! ### Frame starts (R150) -/

/-- The one exposure of the one lane that holds a channel begins its frame: a corrected header counts for the lane, in the mark
of a partner frame too. -/
theorem frameArrives_one {n e fn : Nat} {ecc : Bool} (hcsi : p < 4) (hlive : s.portLive p = true)
    (hone : (s.header p c false).holders p c = [(n, e)]) :
    s.frameArrives p c fn ecc =
      let q := if ecc then
          (if e = 0 then (s.header p c false).bumpSat Rg.lnEccFixed n
           else (s.header p c false).markCount n mkEccFixed Rg.lnEccFixed)
        else s.header p c false
      if e = 0 then q.frameStart n fn ecc else if q.isRunning n then q.partnerStart n e fn else q := by
  simp [State.frameArrives, hlive, isCsi_of_lt hcsi, hone]

theorem frameArrives_exposure0 {n fn : Nat} {ecc : Bool} (hcsi : p < 4) (hlive : s.portLive p = true)
    (hone : (s.header p c false).holders p c = [(n, 0)]) :
    s.frameArrives p c fn ecc =
      (if ecc then (s.header p c false).bumpSat Rg.lnEccFixed n else s.header p c false).frameStart n fn ecc := by
  simp [frameArrives_one hcsi hlive hone]

/-- A partner exposure begins its frame in a running lane only. -/
theorem frameArrives_partner {n e fn : Nat} {ecc : Bool} (hcsi : p < 4) (hlive : s.portLive p = true) (he : 0 < e)
    (hone : (s.header p c false).holders p c = [(n, e)])
    (hrun : (if ecc then (s.header p c false).markCount n mkEccFixed Rg.lnEccFixed else s.header p c false).isRunning n = true) :
    s.frameArrives p c fn ecc =
      (if ecc then (s.header p c false).markCount n mkEccFixed Rg.lnEccFixed else s.header p c false).partnerStart n e fn := by
  have hne : e ≠ 0 := by omega
  simp [frameArrives_one hcsi hlive hone, hne, hrun]

/-- On a parallel port the lanes of a sub-window begin a frame unless they have begun it. -/
theorem frameArrives_bus {fn : Nat} {ecc : Bool} (hpar : 4 ≤ p) (hlive : s.portLive p = true) :
    s.frameArrives p c fn ecc =
      let hs := (s.holders p c).filter (fun h => !(kvGet {} s.ports p).started.contains h.1)
      State.each { s with ports := kvMod {} s.ports p (fun x => { x with started := x.started ++ hs.map Prod.fst }) }
        hs (fun st h => st.frameStart h.1 0 false) := by
  simp only [State.frameArrives, hlive, isCsi_of_ge hpar, Bool.not_true, Bool.false_eq_true, if_false]

/-! ### Lines (R133, R137, R154) -/

section Packet

variable {n e : Nat} {ecc : Bool} (hcsi : p < 4) (hlive : s.portLive p = true)
  (hone : (s.header p c ecc).holders p c = [(n, e)]) (hrun : (s.header p c ecc).isRunning n = true)
include hcsi hlive hone hrun

/-- A line of the binding's data type brings a row to the lane. -/
theorem pixelLine_row {dt : Nat} {px : List Nat} {crcOk : Bool} (hdt : (s.header p c ecc).bnd n Rg.lnDt = dt) :
    s.pixelLine p c dt px crcOk ecc =
      if e = 0 then (s.header p c ecc).lineIn n px crcOk else (s.header p c ecc).partnerLine n e px crcOk := by
  simp [State.pixelLine, hlive, isCsi_of_lt hcsi, hone, hrun, hdt]

/-- A line of another data type is a mismatch. -/
theorem pixelLine_mismatch {dt : Nat} {px : List Nat} {crcOk : Bool} (hdt : (s.header p c ecc).bnd n Rg.lnDt ≠ dt) :
    s.pixelLine p c dt px crcOk ecc =
      (if crcOk then s.header p c ecc else (s.header p c ecc).markCount n mkCrc Rg.lnCrcErr).markCount n mkDtMismatch
        Rg.lnDtMismatch := by
  simp [State.pixelLine, hlive, isCsi_of_lt hcsi, hone, hrun, hdt]

end Packet

/-- The one lane that holds a channel counts a wrong payload CRC. -/
theorem payload_one {n e : Nat} (hone : s.holders p c = [(n, e)]) (crcOk : Bool) :
    s.payload p c crcOk = if crcOk then s else s.markCount n mkCrc Rg.lnCrcErr := by
  simp [State.payload, hone]

/-- An active line of a parallel bus. -/
theorem pixelLine_bus {dt : Nat} {px : List Nat} {crcOk ecc : Bool} (hpar : 4 ≤ p) (hlive : s.portLive p = true) :
    s.pixelLine p c dt px crcOk ecc =
      if s.lineActive p then s.busLine p (fun st n => st.lineIn n (st.busPixels n p (st.busWords p px)) true)
      else s.idleLine p := by
  simp [State.pixelLine, hlive, isCsi_of_ge hpar]

/-! ### Frame ends and packets that are no lines (R133, R155) -/

theorem doFrameEnd_one {p : PortId} {c : Fin 16} {n e : Nat} {ecc : Bool} (hcsi : p.val < 4) (hlive : s.portLive p.val = true)
    (hone : (s.header p.val c.val ecc).holders p.val c.val = [(n, e)])
    (hrun : (s.header p.val c.val ecc).isRunning n = true) :
    doFrameEnd p c ecc s =
      if e = 0 then (s.header p.val c.val ecc).frameEnd0 n else (s.header p.val c.val ecc).partnerEnd n e 0 := by
  simp [doFrameEnd, hlive, isCsi_of_lt hcsi, takers_one hone hrun]

/-- The state in which a long packet that is no line is taken: its header and its payload have been checked. -/
def State.packetIn (s : State) (p c : Nat) (ecc crcOk : Bool) : State := (s.header p c ecc).payload p c crcOk

section Long

variable {n e : Nat} {ecc crcOk : Bool} (htake : (s.packetIn p c ecc crcOk).takers p c = [(n, e)])
include htake

theorem dtMismatch_taken :
    s.dtMismatch p c ecc crcOk = (s.packetIn p c ecc crcOk).markCount n mkDtMismatch Rg.lnDtMismatch := by
  simp only [State.packetIn] at htake ⊢
  simp [State.dtMismatch, htake]

/-- The first four embedded-data packets of a frame are kept, each up to 4,096 bytes. -/
theorem embedded_taken (bytes : List Byte) :
    s.embedded p c ecc crcOk bytes =
      let keep (l : List (List Byte)) := if l.length < 4 then l ++ [bytes.take 4096] else l
      if e = 0 then (s.packetIn p c ecc crcOk).modLane n (fun l =>
        { l with capture := l.capture.map (fun x => { x with embedded := keep x.embedded }) })
      else (s.packetIn p c ecc crcOk).modLane n (fun l => { l with partners := l.partners.map (fun f =>
        if f.exposure == e && !f.closed then { f with embedded := keep f.embedded } else f) }) := by
  simp only [State.packetIn] at htake ⊢
  simp only [State.embedded, htake, each_cons, each_nil]

end Long

/-- A user-defined packet is passed on to the open Billet of the lane that takes it. -/
theorem doUserDefinedPacket_taken {p : PortId} {c : Fin 16} {n e o : Nat} {ecc crcOk : Bool} {x : Capture} {ty : Fin 8}
    {bytes : List Byte} (hcsi : p.val < 4) (hlive : s.portLive p.val = true)
    (htake : (s.packetIn p.val c.val ecc crcOk).takers p.val c.val = [(n, e)])
    (hcap : ((s.packetIn p.val c.val ecc crcOk).lane n).capture = some x) (hord : x.ordinal = some o) :
    doUserDefinedPacket p c ty crcOk ecc bytes s = (s.packetIn p.val c.val ecc crcOk).passPacket o n (0x30 + ty.val) bytes := by
  simp only [State.packetIn] at htake hcap ⊢
  simp [doUserDefinedPacket, hlive, isCsi_of_lt hcsi, htake, hcap, hord]

/-- Settles O23: each packet, where it is heard and its port is live, has the effect that the lemmas above give for it. -/
theorem frames : Obligations.Frames := by
  refine ⟨fun p c n ecc s hlive hcsi hport => ⟨?start, fun e hone hrun => ⟨?done, fun crcOk => ⟨?line, ?long⟩⟩⟩,
    fun p c s hlive hpar hport => ⟨?bus, ?busStart⟩, ?all⟩
  case start =>
    exact fun fn => ⟨fun hone => exec_live hlive rfl (frameArrives_exposure0 hcsi hport hone),
      fun e he hone hrun => exec_live hlive rfl (frameArrives_partner hcsi hport he hone hrun)⟩
  case done => exact exec_live hlive rfl (doFrameEnd_one hcsi hport hone hrun)
  case line =>
    exact fun dt px => ⟨fun hdt => exec_live hlive rfl (pixelLine_row hcsi hport hone hrun hdt),
      fun hdt => exec_live hlive rfl (pixelLine_mismatch hcsi hport hone hrun hdt)⟩
  case long =>
    have hin : s.packetIn p.val c.val ecc crcOk = _ := payload_one hone crcOk
    rw [← hin]
    exact fun htake => ⟨exec_live hlive rfl ((doDtMismatch_live hport c ecc crcOk).trans (dtMismatch_taken htake)),
      fun bytes => exec_live hlive rfl
        ((doEmbeddedData_live hport hcsi c ecc crcOk bytes).trans (embedded_taken htake bytes)),
      fun x o ty bytes hcap hord => exec_live hlive rfl (doUserDefinedPacket_taken hcsi hport htake hcap hord)⟩
  case bus =>
    exact fun dt px crcOk ecc => ⟨fun h => exec_live hlive rfl ((pixelLine_bus hpar hport).trans (if_pos h)),
      fun h => exec_live hlive rfl ((pixelLine_bus hpar hport).trans (if_neg (by simp [h])))⟩
  case busStart => exact fun fn ecc => exec_live hlive rfl (frameArrives_bus hpar hport)
  case all =>
    exact fun s hlive => ⟨fun _ _ _ _ => exec_live hlive rfl rfl, fun _ _ _ => exec_live hlive rfl rfl,
      fun _ _ _ _ _ _ => exec_live hlive rfl rfl, fun _ _ _ _ _ _ => exec_live hlive rfl rfl⟩

end Sys2Proof.Machine
end

