-- ==== Sys2Proof/Proofs/Correspondents.lean ====
section
-- Proofs are elaborated one by one, and none waits for the kernel's checks of the tests: this bounds the memory.
set_option deprecated.oldSectionVars true
/-! SUPPORT. Correspondents: APPLY, single settings, the stall timeout and eviction (R86, R110, R120, R121, R515 to R517,
R524). -/
namespace Sys2Proof.Machine

variable {s : State} {m : MasterId} {c : CorrId}

/-! ### APPLY and settings (R110, R516) -/

theorem doApply_granted (hgate : s.gateAt (corrAddr 0) = .pass) (h : s.corrRight m.val c.val .run = true) :
    doApply m c s = s.applyStaged c.val := by
  simp [doApply, State.guardWrite, hgate, h]

theorem applyStaged_bad {c : Nat} (h : s.applyOk c = false) : s.applyStaged c = s := by
  simp [State.applyStaged, h]

/-- A free correspondent that is given lanes opens its subscription: action 1. -/
theorem applyStaged_opens {c : Nat} (hok : s.applyOk c = true) (hlanes : s.rd Rg.corrLanes c ≠ 0) (hfree : s.corrFree c = true) :
    s.applyStaged c =
      (s.jreq (.settings c (s.rd Rg.corrKind c) (s.rd Rg.corrRoute c) (s.rd Rg.corrQuota c) (s.rd Rg.corrNoticeCap c)
        (s.settingsNow c).resume (s.settingsNow c).stallTimeout (s.settingsNow c).jxCode)).jreq
        (.subscribe 0 c (s.rd Rg.corrTenant c) 1 (s.rd Rg.corrLanes c) (s.rd Rg.corrSymMask c)) := by
  simp only [State.applyStaged, hok, hlanes, hfree, Bool.not_true, Bool.false_eq_true, if_false, if_true]
  rfl

theorem doCorrSettingsWrite_granted {f : CorrSetting} {v : Word}
    (hgate : s.gateAt (corrAddr (if f = .jxCode then 0x18 else 0x14)) = .pass) (h : s.corrRight m.val c.val .set = true) :
    doCorrSettingsWrite m c f v s = s.corrSetting c.val f v.toNat := by
  simp [doCorrSettingsWrite, State.guardWrite, hgate, h]

/-- A word of JX_CODE is taken whole. -/
theorem corrSetting_jxCode {c : Nat} (v : Word) :
    s.corrSetting c .jxCode v.toNat = s.settingsEntry c { s.settingsNow c with jxCode := v.toNat } := by
  simp only [State.corrSetting, Nat.mod_eq_of_lt v.isLt]

/-! ### The stall timeout (R524) -/

/-- A stall that has lasted STALL_TIMEOUT and has not been reported is reported. -/
theorem stallTimeout_due {c t : Nat} (hsince : (s.corr c).stallSince = some t) (htold : (s.corr c).stallTold = false)
    (hms : s.rd Rg.corrStallTimeout c ≠ 0) (hstalled : s.rd Rg.corrStalled c = 1) :
    s.stallTimeout c = ((s.reach (t + msTicks (s.rd Rg.corrStallTimeout c))).modCorr c (fun x =>
      { x with stallTold := true })).raise 642 c (s.rd Rg.corrStallTimeout c) := by
  simp [State.stallTimeout, hsince, htold, hms, on_of_one hstalled]

/-! ### Eviction (R86, R120) -/

theorem ready_of_live (h : s.live = true) : s.on Rg.bootReady = true := by
  simp only [State.live, Bool.and_eq_true] at h; exact h.2

theorem doEvict_proctor (hlive : s.live = true) (h : s.isProctor m.val = true) : doEvict m c s = s.evict c.val := by
  simp [doEvict, h, ready_of_live hlive]

theorem evict_marks {c : Nat} (hfree : s.corrFree c = false) (hev : (s.corr c).evicting = false) (hgb : s.rd Rg.gbState c ≠ 3) :
    s.evict c = (s.modCorr c (fun x => { x with evicting := true })).evictGo c := by
  simp [State.evict, hfree, hev, hgb]

/-- What is marked is marked. -/
theorem evicting_marked (s : State) (c : Nat) : ((s.modCorr c (fun x => { x with evicting := true })).corr c).evicting = true := by
  simp [State.corr, State.modCorr]

/-- An eviction is journaled once nothing of the correspondent is at work. -/
theorem evictGo_ready {c : Nat} (hev : (s.corr c).evicting = true) (hready : s.evictReady c = true)
    (hnone : s.jnl.requests.any (isEvictOf c) = false) : s.evictGo c = s.jreq (.evict 0 c (s.corr c).tenant 0 0) := by
  simp [State.evictGo, hev, hready, hnone]

theorem evictGo_busy {c : Nat} (h : s.evictReady c = false) : s.evictGo c = s := by simp [State.evictGo, h]

/-- Another master, a free correspondent, and one that is being evicted or has been, change nothing. -/
theorem doEvict_idle (h : s.isProctor m.val = false ∨ s.corrFree c.val = true ∨ (s.corr c.val).evicting = true ∨
    s.rd Rg.gbState c.val = 3) : doEvict m c s = s := by
  rcases h with h | h | h | h <;> simp [doEvict, State.evict, h]

/-- Settles O25: each command, where it is heard and may act, has the effect that the lemmas above give for it. -/
theorem correspondents : Obligations.Correspondents := by
  refine ⟨fun m c s hlive hgate hright => ⟨?bad, ?opens⟩, fun c s hlive => ⟨?setting, ?stall⟩,
    fun m c s hlive => ⟨?evict, ?idle⟩, ?all⟩
  case bad => exact fun h => exec_live hlive rfl ((doApply_granted hgate hright).trans (applyStaged_bad h))
  case opens =>
    exact fun hok hlanes hfree =>
      exec_live hlive rfl ((doApply_granted hgate hright).trans (applyStaged_opens hok hlanes hfree))
  case setting =>
    exact fun m v hright => ⟨fun hgate => ⟨exec_live hlive rfl (doCorrSettingsWrite_granted (f := .resume) hgate hright),
        exec_live hlive rfl (doCorrSettingsWrite_granted (f := .stallTimeout) hgate hright)⟩,
      fun hgate => exec_live hlive rfl
        ((doCorrSettingsWrite_granted (f := .jxCode) hgate hright).trans (corrSetting_jxCode v))⟩
  case stall =>
    exact fun t hsince htold hms hstalled => exec_live hlive rfl (stallTimeout_due hsince htold hms hstalled)
  case evict =>
    intro hproctor hfree hev hgb
    have hmarks := (doEvict_proctor hlive hproctor).trans (evict_marks hfree hev hgb)
    exact ⟨fun hready hnone =>
        exec_live hlive rfl (hmarks.trans (evictGo_ready (evicting_marked s c.val) hready hnone)),
      fun hbusy => exec_live hlive rfl (hmarks.trans (evictGo_busy hbusy))⟩
  case idle => exact fun h => exec_live hlive rfl (doEvict_idle h)
  case all =>
    exact fun s hlive => ⟨fun _ _ => exec_live hlive rfl rfl, fun _ _ _ _ => exec_live hlive rfl rfl,
      fun _ => exec_live hlive rfl rfl, fun _ _ => exec_live hlive rfl rfl⟩

end Sys2Proof.Machine
end

