-- ==== Sys2Proof/Proofs/Journal.lean ====
section
-- Proofs are elaborated one by one, and none waits for the kernel's checks of the tests: this bounds the memory.
set_option deprecated.oldSectionVars true
/-! SUPPORT. The journal: appends, the log, checkpoints and the end of replay (R88 to R95, R105, R123). -/
namespace Sys2Proof.Machine

variable {s : State}

/-! ### Appends and the log (R88, R89, R91) -/

section Append

variable {b : JBody} {rest : List JBody} (hack : s.ackFlush = s) (hreq : s.jnl.requests = b :: rest)
include hack hreq

theorem append_full (h : stagingSize ≤ s.jnl.staging.length) : s.append = s := by
  simp only [State.append, hack, hreq, if_pos h]

theorem append_room (h : s.jnl.staging.length < stagingSize) :
    s.append =
      let u := s.reach (s.jnl.lastAppend + 64)
      (State.stage { u with jnl := { u.jnl with requests := rest } } (u.lateBody b)).durable (u.lateBody b) := by
  simp only [State.append, hack, hreq, if_neg (Nat.not_le.mpr h)]

end Append

/-- The oldest staged entry goes to the tail of the log; the entry that makes half the log written is a cause (R94). -/
theorem writeback_cons {e : JEntry} {rest : List JEntry} (h : s.jnl.staging = e :: rest) :
    s.writeback =
      let t : State := { s with jnl := { s.jnl with staging := rest, log := kvPut s.jnl.log s.jnl.tail { entry := e },
                                                      tail := (s.jnl.tail + 1) % logSize } }
      let half := s.ckptHeld && decide (2 * s.logFill < logSize) && decide (logSize ≤ 2 * t.logFill)
      let u : State := { t with jnl := { t.jnl with ckptDue := t.jnl.ckptDue || half } }
      (u.wr Rg.jnlStaged rest.length).wr Rg.jnlFill (u.logFill * 100 / logSize) := by
  simp only [State.writeback, h]

/-! ### Checkpoints (R94, R95) -/

theorem checkpointStart_wanted (h : s.ckptWanted = true) (hbusy : s.rd Rg.jnlCkptBusy = 0) (hreplay : s.rd Rg.jnlReplay = 0) :
    s.checkpointStart = s.ckptStart := by
  simp [State.checkpointStart, h, on_of_zero hbusy, on_of_zero hreplay]

/-- With slot A in force, a checkpoint that ends fills slot B, and becomes the one in force. -/
theorem checkpointDone_slotB (hwriting : s.jnl.writing = true) (hslot : s.appendTurn.rd Rg.jnlCkptSlot = 0) :
    s.checkpointDone =
      let ck := s.appendTurn.snapshot
      let t := s.appendTurn.stage (.checkpoint 1 ck.ordinal ck.period)
      let ck' : Ckpt := { ck with serial := t.rd Rg.jnlSerial, next := (t.jnl.tail + t.jnl.staging.length) % logSize }
      let j : JournalSt := { t.jnl with slotB := some ck', ckptSerial := ck'.serial, ckptNext := ck'.next,
                                         writing := false, bellsSince := 0 }
      let u := (((State.wr { t with jnl := j } Rg.jnlCkptSlot 1).wr Rg.jnlCkptBusy 0).wr Rg.jnlFill 0).writeHeader
      if u.jnl.ckptDue then u.ckptStart else u := by
  simp only [State.checkpointDone, hwriting, hslot, Bool.not_true, Bool.false_eq_true, if_false, Nat.sub_zero, if_true,
    if_neg Nat.one_ne_zero]

theorem doForceCkpt_granted {m : MasterId} (h : s.granted m.val 0x20000 .run) : doForceCkpt m s = s.ckptCause :=
  withRight_granted h _

/-! ### Replay (R105) -/

theorem replayEnd_phase7 {prods : List (Nat × Nat)} (hphase : s.rd Rg.bootPhase = 7) (hheld : s.boot.held = false) :
    s.replayEnd prods =
      let t := if s.boot.warm then s.replayWarm else s.replayCold prods
      { t.wr Rg.bootPhase 8 with boot := { t.boot with erased := false } } := by
  simp only [State.replayEnd, hphase, hheld, bne_self_eq_false, Bool.or_self, Bool.false_eq_true, if_false]

/-- Settles O26: each command, where it is heard, has the effect that the lemmas above give for it. -/
theorem journal : Obligations.Journal := by
  refine ⟨fun b rest s hlit hseal hack hreq => ⟨?full, ?room⟩,
    fun s hlive => ⟨?writeback, ?start, ?done, ?force⟩, ?replay, fun s => ⟨?awake, ?lit⟩⟩
  case full => exact fun h => exec_lit hlit hseal rfl (append_full hack hreq h)
  case room => exact fun h => exec_lit hlit hseal rfl (append_room hack hreq h)
  case writeback =>
    exact fun e rest h => exec_lit (lit_of_live hlive) (not_sealed_of_live hlive) rfl (writeback_cons h)
  case start =>
    exact fun h hbusy hreplay => exec_awake (awake_of_live hlive) rfl (checkpointStart_wanted h hbusy hreplay)
  case done =>
    exact fun hwriting hslot => exec_awake (awake_of_live hlive) rfl (checkpointDone_slotB hwriting hslot)
  case force => exact fun m hgrant => exec_awake (awake_of_live hlive) rfl (doForceCkpt_granted hgrant)
  case replay => exact fun ps s hawake hphase hheld => exec_awake hawake rfl (replayEnd_phase7 hphase hheld)
  case awake =>
    exact fun hawake => ⟨exec_awake hawake rfl rfl, exec_awake hawake rfl rfl, fun _ => exec_awake hawake rfl rfl,
      fun _ => exec_awake hawake rfl rfl⟩
  case lit => exact fun hlit hseal => ⟨exec_lit hlit hseal rfl rfl, exec_lit hlit hseal rfl rfl⟩

end Sys2Proof.Machine
end

