-- ==== Sys2Proof/Proofs/PipeStripes.lean ====
section
-- Proofs are elaborated one by one, and none waits for the kernel's checks of the tests: this bounds the memory.
set_option deprecated.oldSectionVars true
/-! SUPPORT. The Pipe's stripes and the missing partner (R189, R192, R228 to R230). -/
namespace Sys2Proof.Machine

variable {s : State}

/-! ### A stripe starts (R189, R233) -/

section Start

variable {b : Billet} (hidle : s.pipe.running = none) (hwork : s.working = true) (hserves : s.domainServes 0 = true)
  (hpick : s.pickJob .pipe (fun b => b.pipe.done) (s.billets.filter s.stripeReady) = some b)
  (hparity : s.takeArmed 453 b.lane = (s, false)) (hlost : s.takeArmed 454 b.lane = (s, false))
include hidle hwork hserves hpick hparity hlost

/-- Without an injection the stripe that the order picks runs, or, where its reads meet a lost line, its frame ends. -/
theorem pipeStart_picks (lost : Bool) :
    s.pipeStart false lost =
      let sw := (s.pipeSwitch b.ordinal).wr Rg.pipeLane b.lane
      if lost then State.pipeDataLost { sw with pipe := { sw.pipe with lastBillet := some b.ordinal } } b.ordinal b.lane
      else (State.modBillet { sw.wr Rg.pipeIdle 0 with
          pipe := { running := some (b.ordinal, b.pipe.done), lastBillet := some b.ordinal } } b.ordinal
        (fun x => { x with pipe := { x.pipe with busy := true } })).jobStage .pipe b.ordinal b.pipe.done .running := by
  simp only [State.pipeStart, hidle, hwork, hserves, hpick, hparity, hlost, Option.isSome_none, Bool.not_true, Bool.or_self,
    Bool.or_false, Bool.false_eq_true, if_false]

end Start

/-- The Pipe starts no stripe while one runs. -/
theorem pipeStart_busy (h : s.pipe.running.isSome = true) (parity lost : Bool) : s.pipeStart parity lost = s := by
  simp [State.pipeStart, h]

/-! ### A stripe ends (R192) -/

theorem pipeDone_idle (h : s.pipe.running = none) : s.pipeDone = s := by simp only [State.pipeDone, h]

/-- The Pipe is idle again, and the job of the stripe is done. -/
def State.stripeLeft (s : State) (o j : Nat) : State :=
  (State.wr { s with pipe := { s.pipe with running := none } } Rg.pipeIdle 1).jobStage .pipe o j .done

/-- A stripe whose Billet has ended gives nothing more. -/
theorem pipeDone_gone {o j : Nat} (hrun : s.pipe.running = some (o, j)) (hgone : (s.stripeLeft o j).billet? o = none) :
    s.pipeDone = s.stripeLeft o j := by
  simp only [State.stripeLeft] at hgone ⊢
  simp only [State.pipeDone, hrun, hgone]

/-- A stripe that is not the last of its open capture: its rows go into the decode view, the compare sums, the statistics and
the output lines. -/
theorem pipeDone_more {o j : Nat} {b : Billet} (hrun : s.pipe.running = some (o, j))
    (hb : (s.stripeLeft o j).billet? o = some b) (hopen : b.captureOpen = true) (hmore : j + 1 < stripeCount b.bind) :
    s.pipeDone =
      let s0 := s.stripeLeft o j
      let y := b.stripeRows j
      let r := s0.runRows b j y.1 y.2
      let s1 := s0.modBillet o (fun x =>
        { x with stat := { r.stat with stripes := r.stat.stripes + 1 },
                 pipe := { x.pipe with busy := false, done := j + 1, view := x.pipe.view ++ r.view,
                                       plane := x.pipe.plane ++ r.plane, dynCount := x.pipe.dynCount + r.dyn, ob := r.ob } })
      let whole := decide (min ((j + 1) * stripeHeight b.bind) (cpGet b.bind Rg.lnHeight) ≤ y.2)
      (((s1.refStripe o j r.view whole).obUpdate b y.1 y.2 r.ob).streamsRun o b.lane y.2 false).tryEnd o := by
  have hlast : decide (stripeCount b.bind ≤ j + 1) = false := decide_eq_false (Nat.not_le.mpr hmore)
  simp only [State.stripeLeft] at hb ⊢
  simp only [State.pipeDone, hrun, hb, hopen, hlast, Bool.not_true, Bool.false_and, Bool.or_self, Bool.false_eq_true, if_false]

/-! ### A partner that has not come (R229) -/

/-- A partner exposure of which nothing has come is missing for the oldest Billet that waits for it. -/
theorem partnerMissing_waits {n e : Nat} {b : Billet}
    (hwaits : s.billets.find? (fun b => b.lane == n && decide (e ≤ cpGet b.bind Rg.lnExposures) && orderL b.bind &&
      !(b.pipe.missFrom.any (fun m => m.1 == e)) && decide (s.partnerStripe b e < stripeCount b.bind)) = some b)
    (hnone : s.partnerOf b e = none) :
    s.partnerMissing n e =
      ((s.reach (b.stamp + min (stripeHeight b.bind * b.tMax) (2 * s.frameTime n))).miss b.ordinal e
        (s.partnerStripe b e)).partnerExpire n := by
  simp only [State.partnerMissing, hwaits, hnone]

/-- Settles O27: each command, where it is heard, has the effect that the lemmas above give for it. -/
theorem pipe : Obligations.Pipe := by
  refine ⟨fun s hlive => ⟨?start, ?busy, ?done, ?idle⟩, ?missing, ?all⟩
  case start =>
    intro b hidle hwork hserves hpick hparity hlost
    have hstart := pipeStart_picks hidle hwork hserves hpick hparity hlost
    exact ⟨exec_live hlive rfl (hstart false), exec_live hlive rfl (hstart true)⟩
  case busy => exact fun h x y => exec_live hlive rfl (pipeStart_busy h x y)
  case done =>
    exact fun o j hrun => ⟨fun hgone => exec_live hlive rfl (pipeDone_gone hrun hgone),
      fun b hb hopen hmore => exec_live hlive rfl (pipeDone_more hrun hb hopen hmore)⟩
  case idle => exact fun h => exec_live hlive rfl (pipeDone_idle h)
  case missing => exact fun n second b s hlive hwaits hnone => exec_live hlive rfl (partnerMissing_waits hwaits hnone)
  case all =>
    exact fun s hlive => ⟨fun _ _ => exec_live hlive rfl rfl, exec_live hlive rfl rfl, fun _ _ => exec_live hlive rfl rfl⟩

end Sys2Proof.Machine
end

