-- ==== Sys2Proof/Proofs/PipeTables.lean ====
section
-- Proofs are elaborated one by one, and none waits for the kernel's checks of the tests: this bounds the memory.
set_option deprecated.oldSectionVars true
/-! SUPPORT. Profile tables, reference cells, output streams and their coefficients (R220, R224, R225, R239, R257, R258,
R272). -/
namespace Sys2Proof.Machine

variable {s : State} {m : MasterId}

/-! ### Profile tables (R224, R225, R239) -/

theorem tblWrite_free {bank t i : Nat} (v : Nat) (huse : s.bankInUse bank = false) (hi : i < tblWords t) :
    s.tblWrite bank t i v =
      { s with profiles := kvSet (tblDefault t i) s.profiles (tblKey bank t i) (v % 2 ^ tblBits t),
               badBanks := if s.badBanks.contains bank then s.badBanks else bank :: s.badBanks } := by
  simp only [State.tblWrite, huse, Bool.false_eq_true, if_false, if_pos hi]

theorem tblWrite_inUse {bank : Nat} (t i v : Nat) (huse : s.bankInUse bank = true) :
    s.tblWrite bank t i v = (s.wr Rg.pipeTblBusy 1).raise 451 0 0 := if_pos huse

theorem doTblDataAccess_write (h : s.granted m.val 0x140108 .set) (v : Word) :
    doTblDataAccess m (some v) s =
      (s.tblWrite (s.tblSel m.val) (s.rd Rg.pipeTblTable m.val) (s.rd Rg.pipeTblAddr m.val) v.toNat).bump Rg.pipeTblAddr m.val :=
  withRight_granted h _

theorem doTblDataAccess_read (h : s.granted m.val 0x140108 .look)
    (ha : s.rd Rg.pipeTblAddr m.val < tblWords (s.rd Rg.pipeTblTable m.val)) :
    doTblDataAccess m none s =
      (s.bump Rg.pipeTblAddr m.val).answer m.val
        (s.tbl (s.tblSel m.val) (s.rd Rg.pipeTblTable m.val) (s.rd Rg.pipeTblAddr m.val)) := by
  have hread : doTblDataAccess m none s = (s.tblDataRead m.val).1.answer m.val (s.tblDataRead m.val).2 :=
    guardRead_granted h (fun st => st.tblDataRead m.val)
  rw [hread]
  simp only [State.tblDataRead, State.tblRead, if_pos ha, State.tblStep]

theorem doTableCommit_granted (h : s.granted m.val 0x14010C .run) : doTableCommit m s = s.tblCommit (s.tblSel m.val) :=
  withRight_granted h _

theorem tblCommit_good {bank : Nat} (h : s.bankPasses bank = true) :
    s.tblCommit bank = { s.wr Rg.pipeTblError 0 with badBanks := s.badBanks.filter (fun b => b != bank) } := if_pos h

theorem tblCommit_bad {bank : Nat} (h : s.bankPasses bank = false) : s.tblCommit bank = s.wr Rg.pipeTblError 1 := by
  simp only [State.tblCommit, h, Bool.false_eq_true, if_false]

/-- REF_CLEAR needs both rights. -/
theorem doRefClear_granted {k : Fin 32} (hrun : s.granted m.val 0x140280 .run) (hset : s.granted m.val 0x140280 .set) :
    doRefClear m k s = s.refClear k.val := by
  obtain ⟨hgate, hrun⟩ := hrun
  obtain ⟨-, hset⟩ := hset
  simp [doRefClear, State.guardWrite, hgate, hrun, hset]

/-! ### Output streams (R257, R258) -/

theorem doStreamEnable_granted {n : LaneId} {k : Fin 4} (h : s.granted m.val (0x100A00 + 0x1000 * n.val + 0x40 * k.val) .set)
    (v : Bool) : doStreamEnable m n k v s = s.streamEnable n.val k.val v := withRight_granted h _

theorem streamEnable_tooMany {n k : Nat} (hoff : s.rd Rg.osEn n k = 0) (hfull : 16 ≤ s.rd Rg.outLive) :
    s.streamEnable n k true = s.raise 736 n (s.rd Rg.outLive) := by
  simp [State.streamEnable, on_of_zero hoff, hfull]

theorem streamEnable_fits {n k : Nat} (hoff : s.rd Rg.osEn n k = 0) (hroom : s.rd Rg.outLive < 16)
    (hfit : s.streamFit n k = true) :
    s.streamEnable n k true =
      ((s.wr Rg.osEn 1 n k).wr Rg.outLive (s.rd Rg.outLive + 1)).modStream n k (fun x => { x with start := true }) := by
  simp [State.streamEnable, on_of_zero hoff, Nat.not_le.mpr hroom, hfit]

theorem streamEnable_off {n k : Nat} (hon : s.rd Rg.osEn n k = 1) :
    s.streamEnable n k false = (s.wr Rg.osEn 0 n k).wr Rg.outLive (s.rd Rg.outLive - 1) := by
  simp [State.streamEnable, on_of_one hon]

/-! ### Scaler coefficients (R272) -/

theorem doCoefDataWrite_granted {k : Fin 4} {v : Word} (hgate : s.gateAt (0x1C0014 + 4 * k.val) = .pass)
    (h : s.coefRight m.val .set = true) : doCoefDataWrite m k v s = s.coefDataWrite m.val k.val v.toNat := by
  simp [doCoefDataWrite, State.guardWrite, hgate, h]

/-- The coefficients of a stream that is off are written. -/
theorem coefWrite_off {n k : Nat} (ph tap v : Nat) (hoff : s.rd Rg.osEn n k = 0) :
    s.coefWrite n k ph tap v =
      { s with coefs := kvSet (bilinear ph tap) s.coefs (coefKey n k ph tap) (toSigned 12 v) } := by
  simp only [State.coefWrite, on_of_zero hoff, Bool.false_eq_true, if_false]

theorem coefWrite_on {n k : Nat} (ph tap v : Nat) (hon : s.rd Rg.osEn n k = 1) :
    s.coefWrite n k ph tap v = s.wr Rg.outCoefBusy 1 := if_pos (on_of_one hon)

/-- A word holds two taps. -/
theorem coefDataWrite_off {m : Nat} (i v : Nat) (hoff : s.rd Rg.osEn (s.rd Rg.outCoefLane m) (s.rd Rg.outCoefStream m) = 0) :
    s.coefDataWrite m i v =
      let ph := s.rd Rg.outCoefPhase m
      let key (tap : Nat) := coefKey (s.rd Rg.outCoefLane m) (s.rd Rg.outCoefStream m) ph tap
      let even := kvSet (bilinear ph (2 * i)) s.coefs (key (2 * i)) (toSigned 12 (bits v 0 12))
      { s with coefs := kvSet (bilinear ph (2 * i + 1)) even (key (2 * i + 1)) (toSigned 12 (bits v 16 12)) } := by
  rw [State.coefDataWrite, coefWrite_off _ _ _ hoff]
  exact coefWrite_off _ _ _ hoff

theorem coefDataWrite_on {m : Nat} (i v : Nat) (hon : s.rd Rg.osEn (s.rd Rg.outCoefLane m) (s.rd Rg.outCoefStream m) = 1)
    (hstill : (s.wr Rg.outCoefBusy 1).rd Rg.osEn (s.rd Rg.outCoefLane m) (s.rd Rg.outCoefStream m) = 1) :
    s.coefDataWrite m i v = (s.wr Rg.outCoefBusy 1).wr Rg.outCoefBusy 1 := by
  rw [State.coefDataWrite, coefWrite_on _ _ _ hon]
  exact coefWrite_on _ _ _ hstill

/-- Settles O28: each command, where it is heard and may act, has the effect that the lemmas above give for it. -/
theorem pipeTables : Obligations.PipeTables := by
  refine ⟨fun m s hlive => ⟨?write, ?read, ?commit, ?fill, ?clear⟩, fun m s hlive => ⟨?stream, ?coef⟩, ?all⟩
  case write =>
    intro hgrant v
    have hdo := doTblDataAccess_write hgrant v
    exact ⟨fun huse ha => exec_live hlive rfl (hdo.trans (congrArg (State.bump · _ _) (tblWrite_free _ huse ha))),
      fun huse => exec_live hlive rfl (hdo.trans (congrArg (State.bump · _ _) (tblWrite_inUse _ _ _ huse)))⟩
  case read => exact fun hgrant ha => exec_live hlive rfl (doTblDataAccess_read hgrant ha)
  case commit =>
    exact fun hgrant => ⟨fun h => exec_live hlive rfl ((doTableCommit_granted hgrant).trans (tblCommit_good h)),
      fun h => exec_live hlive rfl ((doTableCommit_granted hgrant).trans (tblCommit_bad h))⟩
  case fill => exact fun n hgrant => exec_live hlive rfl (withRight_granted hgrant _)
  case clear => exact fun k hrun hset => exec_live hlive rfl (doRefClear_granted hrun hset)
  case stream =>
    intro n k hgrant
    have hdo := doStreamEnable_granted hgrant
    exact ⟨fun hoff hfull => exec_live hlive rfl ((hdo true).trans (streamEnable_tooMany hoff hfull)),
      fun hoff hroom hfit => exec_live hlive rfl ((hdo true).trans (streamEnable_fits hoff hroom hfit)),
      fun hon => exec_live hlive rfl ((hdo false).trans (streamEnable_off hon))⟩
  case coef =>
    intro k v hgate hright
    have hdo := doCoefDataWrite_granted (v := v) hgate hright
    exact ⟨fun hoff => exec_live hlive rfl (hdo.trans (coefDataWrite_off _ _ hoff)),
      fun hon hstill => exec_live hlive rfl (hdo.trans (coefDataWrite_on _ _ hon hstill))⟩
  case all =>
    exact fun s hlive => ⟨fun _ _ => exec_live hlive rfl rfl, fun _ => exec_live hlive rfl rfl,
      fun _ _ => exec_live hlive rfl rfl, fun _ _ => exec_live hlive rfl rfl, fun _ _ _ _ => exec_live hlive rfl rfl,
      fun _ _ _ => exec_live hlive rfl rfl⟩

end Sys2Proof.Machine
end

