-- ==== Sys2Proof/Proofs/Decoding.lean ====
section
-- Proofs are elaborated one by one, and none waits for the kernel's checks of the tests: this bounds the memory.
set_option deprecated.oldSectionVars true
/-! SUPPORT. Finder jobs, dispatch and decode attempts (R278 to R280, R286 to R290, R308, R727). -/
namespace Sys2Proof.Machine

variable {s : State}

/-! ### Finder jobs (R278, R289) -/

/-- A free Anvil takes the stripe that the order picks. -/
theorem finderStart_picks {a : Nat} {b : Billet} (hfree : (s.anvil a).job = none) (hwork : s.working = true)
    (husable : s.anvilUsable a = true)
    (hpick : s.pickJob .finder Billet.finderNext (s.billets.filter (s.finderReady a)) = some b) :
    s.finderStart a =
      (((s.sramRead a).modAnvil a (fun x => { x with job := some (b.ordinal, b.finderNext) })).modBillet b.ordinal
        (fun x => { x with finderBusy := some b.finderNext })).jobStage .finder b.ordinal b.finderNext .running := by
  simp [State.finderStart, hfree, hwork, husable, hpick]

theorem finderDone_stale {a e : Nat} (h : e ≠ s.rd Rg.anvEpoch a) (cycles left refused : Nat) (found : List Found) :
    s.finderDone a e cycles left refused found = s.staleReply a := if_pos (bne_iff_ne.mpr h)

@[simp] theorem dedupe_nil (old : List Found) : dedupe old [] = [] := by simp [dedupe]

/-- A job that saw no candidate and leaves no track open counts its cycles and the tracks that it could not open (R289). -/
theorem finderDone_nothing {a o j cycles refused : Nat} {b : Billet} (hjob : (s.anvil a).job = some (o, j))
    (hb : (s.modAnvil a (fun x => { x with job := none })).billet? o = some b) :
    s.finderDone a (s.rd Rg.anvEpoch a) cycles 0 refused [] =
      let s0 := s.modAnvil a (fun x => { x with job := none })
      let s1 := (s0.wr Rg.anvFinderCycles (s0.rd Rg.anvFinderCycles a + min cycles (finderCost b.bind j)) a).jobStage
        .finder o j .done
      let s2 := (s1.modBillet o (fun x => { x with finderBusy := none, finderNext := j + 1, openCands := 0 })).openLimit a o refused
      (s2.wr Rg.anvOpen (s2.openHeld a) a).tryEnd o := by
  simp only [State.finderDone, bne_self_eq_false, Bool.false_eq_true, if_false, hjob, hb, List.filter_nil, dedupe_nil,
    List.mergeSort_nil, each_nil, List.length_nil, Nat.add_zero, ite_self, Nat.zero_min, Nat.sub_zero, Nat.zero_add]

theorem doSramCorrected_serving {a : Fin 8} (h : s.domainServes (anvilDomain a.val) = true) :
    doSramCorrected a s = s.sramCorrected a.val := if_pos h

/-! ### Dispatch (R279) -/

/-- The head of the queue goes to the first idle core. -/
theorem dispatch_picks {w : Waiting} {a c : Nat} (hwork : s.working = true) (hhead : s.headWaiting = some w)
    (hcore : s.idleCore = some (a, c)) :
    s.dispatch =
      ((((s.sramRead a).modAnvil a (fun x => { x with cores := kvPut x.cores c (w.ordinal, w.num) })).modCand w.ordinal w.num
        (fun x => { x with stage := .decoding a c s.now, front := false })).jobStage .decode w.ordinal 0 .running).coresSync a := by
  simp only [State.dispatch, hwork, hhead, hcore, Bool.not_true, Bool.false_eq_true, if_false]

/-- Without a candidate that waits, or without an idle core, nothing is dispatched. -/
theorem dispatch_nothing (h : s.headWaiting = none ∨ s.idleCore = none) : s.dispatch = s := by
  unfold State.dispatch
  split
  case isTrue => rfl
  case isFalse => rcases h with h | h <;> simp [h]

/-! ### The end of an attempt (R280, R290) -/

section Attempt

variable {a k o n : Nat} {b : Billet} {c : Cand}
  (hcore : (s.anvil a).cores.find? (fun e => e.1 == k) = some (k, o, n)) (hb : s.billet? o = some b)
  (hcand : b.cands.find? (fun c => c.num == n) = some c)
include hcore hb hcand

theorem onCore_decodes : s.onCore a k = some (b, c) := by simp only [State.onCore, hcore, hb, hcand, Option.map_some]

/-- An attempt frees its core; its candidate resolves by the outcome; the Billet's correspondents follow, and it ends if nothing
else of it is open. -/
theorem decodeDone_fails {out : DecodeOut} {r : Nat} (hout : b.judgeOut c.found out = .error r) (g : GradeOut) :
    s.decodeDone a k out g = (((s.freeCore a k).candFail b c r).each b.corrs State.gbSync).tryEnd o := by
  have hb' : (s.freeCore a k).billet? o = some b := hb
  simp only [State.decodeDone, hcore, hb', hcand, hout]

theorem decodeDone_succeeds {out : DecodeOut} {f : Formed} (hout : b.judgeOut c.found out = .ok f) (g : GradeOut) :
    s.decodeDone a k out g = (((s.freeCore a k).candOk b c f g).each b.corrs State.gbSync).tryEnd o := by
  have hb' : (s.freeCore a k).billet? o = some b := hb
  simp only [State.decodeDone, hcore, hb', hcand, hout]

/-- An attempt that reaches its cost fails with reason 5. -/
theorem decodeTimeout_decoding {i j t : Nat} (hstage : c.stage = .decoding i j t) :
    s.decodeTimeout a k =
      ((((s.reach (t + ceilDiv (attemptCost b c * 250) (anvilMHz (s.rd Rg.pwActive)))).freeCore a k).candFail b c 5).each b.corrs
        State.gbSync).tryEnd o := by
  simp only [State.decodeTimeout, onCore_decodes hcore hb hcand, hstage]
  exact decodeDone_fails (s := s.reach _) (out := .failed 4) hcore hb hcand rfl {}

end Attempt

theorem doDecodeDone_stale {a : Fin 8} {e : Nat} (h : e ≠ s.rd Rg.anvEpoch a.val) (k : Fin 4) (out : DecodeOut) (g : GradeOut) :
    doDecodeDone a k e out g s = s.staleReply a.val := if_pos (bne_iff_ne.mpr h)

theorem doDecodeDone_fits {a : Fin 8} {k : Fin 4} {out : DecodeOut} {b : Billet} {c : Cand}
    (hcore : s.onCore a.val k.val = some (b, c)) (hfits : out.fits c.found.family = true) (g : GradeOut) :
    doDecodeDone a k (s.rd Rg.anvEpoch a.val) out g s = s.decodeDone a.val k.val out g := by
  simp [doDecodeDone, hcore, hfits]

/-- Settles O29: each command, where it is heard, has the effect that the lemmas above give for it. -/
theorem decoding : Obligations.Decoding := by
  refine ⟨fun a s hlive => ⟨?start, ?stale, ?nothing, ?sram⟩, fun s hlive hwork => ⟨?idle, ?dispatch⟩,
    fun a k o n b c g s hlive hcore hb hcand => ⟨?fails, ?succeeds, ?staleCore, ?late⟩, fun s => ⟨?live, ?awake⟩⟩
  case start =>
    exact fun b hfree hwork husable hpick => exec_live hlive rfl (finderStart_picks hfree hwork husable hpick)
  case stale => exact fun e cy l r fs h => exec_live hlive rfl (finderDone_stale h cy l r fs)
  case nothing =>
    exact fun o j cy r b hjob hb _ _ _ _ => exec_live hlive rfl (finderDone_nothing hjob hb)
  case sram => exact fun h => exec_awake (awake_of_live hlive) rfl (doSramCorrected_serving h)
  case idle => exact fun h => exec_live hlive rfl (dispatch_nothing h)
  case dispatch => exact fun w a c hhead hidle => exec_live hlive rfl (dispatch_picks hwork hhead hidle)
  case fails =>
    exact fun out r hfits hout => exec_live hlive rfl
      ((doDecodeDone_fits (onCore_decodes hcore hb hcand) hfits g).trans (decodeDone_fails hcore hb hcand hout g))
  case succeeds =>
    exact fun out f hfits hout => exec_live hlive rfl
      ((doDecodeDone_fits (onCore_decodes hcore hb hcand) hfits g).trans (decodeDone_succeeds hcore hb hcand hout g))
  case staleCore => exact fun e out h => exec_live hlive rfl (doDecodeDone_stale h k out g)
  case late => exact fun i j t hstage => exec_live hlive rfl (decodeTimeout_decoding hcore hb hcand hstage)
  case live =>
    exact fun hlive => ⟨fun _ => exec_live hlive rfl rfl, fun _ _ _ _ _ => exec_live hlive rfl rfl, exec_live hlive rfl rfl,
      fun _ _ _ _ _ => exec_live hlive rfl rfl, fun _ _ => exec_live hlive rfl rfl⟩
  case awake => exact fun hawake _ => exec_awake hawake rfl rfl

end Sys2Proof.Machine
end

