-- ==== Sys2Proof/Proofs/Latency.lean ====
section
-- Proofs are elaborated one by one, and none waits for the kernel's checks of the tests: this bounds the memory.
set_option deprecated.oldSectionVars true
/-! SUPPORT. Latency units and the restart of a continuity check (R340 to R347, R351). -/
namespace Sys2Proof.Machine

variable {s : State} {m : MasterId}

/-- The oldest mark of a unit expires once its window has passed, and counts as unpaired (R343). -/
theorem latExpire_cons {u t x : Nat} {ms : List (Nat × Nat)} (h : (s.lat u).marks = (t, x) :: ms) :
    s.latExpire u =
      ((s.reach ((t : Int) + s.rd Rg.latWindow u + s.rdI Rg.latOffset u + 1).toNat).modLat u
        (fun y => { y with marks := ms })).unpaired u Rg.latUnpairedMark 1 := by
  simp only [State.latExpire, h]

theorem doLatencyClear_granted {u : Fin 4} (h : s.granted m.val (latAddr u.val 0) .run) :
    doLatencyClear m u s = s.latClear u.val := withRight_granted h _

theorem doLatencyUnitWrite_granted {u : Fin 4} {w : Fin 3} {v : Fin 64} (h : s.granted m.val (latAddr u.val 0) .set)
    (hname : s.latMayName m.val w.val v.val = true) : doLatencyUnitWrite m u w v s = s.latWrite u.val w.val v.val := by
  obtain ⟨hgate, hset⟩ := h
  simp [doLatencyUnitWrite, State.guardWrite, hgate, hset, hname]

/-- A write empties the unit first; another channel or enable begins without an earlier sample (R341, R347). -/
theorem latWrite_field {u w v : Nat} {f : Fld} (h : latFields[w]? = some f) :
    s.latWrite u w v =
      let t := (s.latFlush u).wr f v u
      if w ≠ 1 ∧ s.rd f u ≠ v then t.modLat u (fun x => { x with prev := none, armed := true }) else t := by
  simp only [State.latWrite, h, Bool.and_eq_true, bne_iff_ne]

theorem doContinuityReset_granted {n : LaneId} (h : s.granted m.val (0x100D00 + 0x1000 * n.val) .set) (win : Bool) (v : Fin 64) :
    doContinuityReset m n win v s = s.contWrite n.val win v.val := withRight_granted h _

/-- Settles O30: each command, where it is heard and may act, has the effect that the lemmas above give for it. -/
theorem latencyAndContinuity : Obligations.LatencyAndContinuity := by
  refine ⟨fun u s hlive => ⟨?expiry, ?clear, ?write⟩, ?continuity, ?all⟩
  case expiry => exact fun t x ms h => exec_live hlive rfl (latExpire_cons h)
  case clear => exact fun m hgrant => exec_live hlive rfl (doLatencyClear_granted hgrant)
  case write =>
    exact fun m w v f hgrant hname hf =>
      exec_live hlive rfl ((doLatencyUnitWrite_granted hgrant hname).trans (latWrite_field hf))
  case continuity =>
    exact fun m n v s hlive hgrant => ⟨exec_live hlive rfl (doContinuityReset_granted hgrant true v),
      exec_live hlive rfl (doContinuityReset_granted hgrant false v)⟩
  case all =>
    exact fun s hlive => ⟨fun _ => exec_live hlive rfl rfl, fun _ _ => exec_live hlive rfl rfl,
      fun _ _ _ _ => exec_live hlive rfl rfl, fun _ _ _ _ => exec_live hlive rfl rfl⟩

end Sys2Proof.Machine
end

