-- ==== Sys2Proof/Proofs/FieldSide.lean ====
section
-- Proofs are elaborated one by one, and none waits for the kernel's checks of the tests: this bounds the memory.
set_option deprecated.oldSectionVars true
/-! SUPPORT. The field side of Bellows: field outputs, their supply, their samples and the tie probe, encoders and field inputs
(R354, R355, R366 to R374, R381, R626). -/
namespace Sys2Proof.Machine

variable {s : State} {n : Nat}

/-! ### High-side outputs (R366, R379) -/

/-- A pulse that is due leaves the queue at its start. -/
def State.doutDue (s : State) (n : Nat) (p : Sched) (rest : List Sched) : State :=
  (s.reach p.start).modDout n (fun d => { d with pend := rest })

section PulseStart

variable {p : Sched} {rest : List Sched} (hpend : (s.dout n).pend = p :: rest) (hserves : s.bellowsServes = true)
include hpend hserves

theorem doutPulseStart_may (h : (s.doutDue n p rest).doutMay n = true) :
    s.doutPulseStart n = ((s.doutDue n p rest).modDout n (fun d =>
      { d with active := some { start := (s.doutDue n p rest).now, width := p.width } })).doutRefresh n := by
  simp only [State.doutDue] at h ⊢
  simp only [State.doutPulseStart, hpend, hserves, h, Bool.not_true, Bool.false_eq_true, if_false, if_true]

theorem doutPulseStart_skips (h : (s.doutDue n p rest).doutMay n = false) :
    s.doutPulseStart n = (s.doutDue n p rest).bumpSat Rg.doutSkips n := by
  simp only [State.doutDue] at h ⊢
  simp only [State.doutPulseStart, hpend, hserves, h, Bool.not_true, Bool.false_eq_true, if_false]

end PulseStart

theorem doutPulseEnd_active {p : Sched} (h : (s.dout n).active = some p) :
    s.doutPulseEnd n = ((s.reach (p.start + p.width)).modDout n (fun d => { d with active := none })).doutRefresh n := by
  simp only [State.doutPulseEnd, h]

/-- An output that conducts, serves and is not held turns off, and latches OVERLOAD. -/
theorem doutOverload_conducting (hon : (s.dout n).on = true) (hserves : s.bellowsServes = true) (hfree : s.padHeld 4 = false) :
    s.doutOverload n =
      let r := offAfterFault s.now (s.rd Rg.doutRetry n) (s.rd Rg.doutRetries n) (s.dout n).retrying
      ((((s.modDout n (fun d => { d with off := r.1, retrying := false, active := none })).wr Rg.doutRetries r.2 n).wr
        Rg.doutOverload 1 n).doutRefresh n).raise (944 + n) n 2 := by
  simp only [State.doutOverload, hon, hserves, hfree, Bool.not_true, Bool.or_self, Bool.false_eq_true, if_false]

theorem doutWaitEnd_waiting {t : Nat} (h : (s.dout n).off = .waiting t) :
    s.doutWaitEnd n = ((s.reach t).modDout n (fun d => { d with off := .retryDue })).doutRefresh n := by
  simp only [State.doutWaitEnd, h]

/-! ### The field supply (R354, R355) -/

section Field

variable {v : Nat}

theorem fieldLost_low (hv : v < 850) (h : s.rd Rg.blwField ≠ 1) :
    s.fieldLost v = (((s.wr Rg.blwVfieldMv v).wr Rg.blwField 1).fieldOff).raise 960 0 v := if_pos ⟨hv, h⟩

theorem fieldLost_notLow (hv : 850 ≤ v) : s.fieldLost v = s := if_neg (fun h => absurd h.1 (Nat.not_lt.mpr hv))

theorem fieldOv_high (hv : 3800 < v) (hfits : v < 65536) (h : s.rd Rg.blwField ≠ 2) :
    s.fieldOv v = (((s.wr Rg.blwVfieldMv v).wr Rg.blwField 2).fieldOff).raise 962 0 v := by
  have hmin : min v 65535 = v := by omega
  simp only [State.fieldOv, hv, h, hmin, ne_eq, not_false_eq_true, and_self, if_true]

theorem fieldOv_notHigh (hv : v ≤ 3800) : s.fieldOv v = s := if_neg (fun h => absurd h.1 (Nat.not_lt.mpr hv))

/-- The field is good again: outputs without RESTORE have OUT cleared. -/
theorem fieldOkAgain_good (hlo : 950 < v) (hhi : v < 3700) (h : s.rd Rg.blwField ≠ 0) :
    s.fieldOkAgain v = ((((s.wr Rg.blwVfieldMv v).wr Rg.blwField 0).each (upto 8) (fun st n =>
      if st.rd Rg.doutRestore n = 1 then st else st.wr Rg.doutOut 0 n)).doutRefreshAll).raise 961 0 v := by
  have hcond : s.rd Rg.blwField ≠ 0 ∧ 950 < v ∧ v ≤ 3800 ∧ (s.rd Rg.blwField = 2 → v < 3700) :=
    ⟨h, hlo, by omega, fun _ => hhi⟩
  simp only [State.fieldOkAgain, if_pos hcond, State.on, beq_iff_eq]

end Field

/-! ### Samples and the tie probe (R368, R381) -/

/-- The state after the samples of all outputs, 2,500 ticks after the last. -/
def State.doutScanned (s : State) (readback reverse : Nat) (mA : List Nat) : State :=
  let s0 := s.reach (s.blw.lastDoutSample + 2500)
  State.doutScan { s0 with blw := { s0.blw with lastDoutSample := s0.now } } readback reverse mA

theorem doutSample_away (h : s.bellowsServes = false) (a b : Nat) (mA : List Nat) : s.doutSample a b mA = s := by
  simp [State.doutSample, h]

section Sample

variable {a b : Nat} {mA : List Nat} (hserves : s.bellowsServes = true)
include hserves

/-- While a probe runs, and without an output that asks for one, none begins. -/
theorem doutSample_plain (h : (s.doutScanned a b mA).blw.probe.isSome = true ∨ (s.doutScanned a b mA).tieSuspects = []) :
    s.doutSample a b mA = s.doutScanned a b mA := by
  cases hprobe : (s.doutScanned a b mA).blw.probe with
  | some p =>
    simp only [State.doutScanned] at hprobe ⊢
    simp only [State.doutSample, hserves, hprobe, Bool.not_true, Bool.false_eq_true, if_false]
  | none =>
    have hsuspects := h.resolve_left (by simp [hprobe])
    simp only [State.doutScanned] at hprobe hsuspects ⊢
    simp only [State.doutSample, hserves, hprobe, hsuspects, Bool.not_true, Bool.false_eq_true, if_false]

/-- The first output that asks for a probe gets it. -/
theorem doutSample_probes {n : Nat} {ns : List Nat} (hprobe : (s.doutScanned a b mA).blw.probe = none)
    (hsuspects : (s.doutScanned a b mA).tieSuspects = n :: ns) :
    s.doutSample a b mA = (s.doutScanned a b mA).probeNext n (upto 8) := by
  simp only [State.doutScanned] at hprobe hsuspects ⊢
  simp only [State.doutSample, hserves, hprobe, hsuspects, Bool.not_true, Bool.false_eq_true, if_false]

end Sample

theorem tieProbeStep_none (h : s.blw.probe = none) (x y : Bool) : s.tieProbeStep x y = s := by
  simp only [State.tieProbeStep, h]

/-- A reading that is low ties the two outputs. -/
theorem tieProbeStep_low {p : TieProbe} {x y : Bool} (hprobe : s.blw.probe = some p) (hlow : (x && y) = false) :
    s.tieProbeStep x y =
      let s1 := s.reach (p.start + 1250)
      (((((State.wr { s1 with blw := { s1.blw with probe := none } } Rg.doutTied 1 p.a).wr Rg.doutTied 1 p.b).modDout p.b
        (fun d => { d with probed := false })).raise (944 + min p.a p.b) (min p.a p.b) 4).raise (944 + max p.a p.b)
          (max p.a p.b) 4) := by
  have hany : (!x || !y) = true := by rw [← Bool.not_and, hlow]; rfl
  simp only [State.tieProbeStep, hprobe, hany, if_true]

/-- Settles O31: each command, where it is heard and may act, has the effect that the lemmas above give for it. -/
theorem fieldOutputs : Obligations.FieldOutputs := by
  refine ⟨fun n s hlive => ⟨?write, ?clear, ?start, ?done, ?overload, ?retry⟩, fun v s hlive => ⟨?lost, ?ov, ?ok, ?notLow, ?notHigh⟩,
    fun s hlive => ⟨?sample, ?away, ?tie, ?noProbe⟩, fun s => ⟨?live, ?awake⟩⟩
  case write => exact fun m v hgrant => exec_live hlive rfl (withRight_granted hgrant _)
  case clear => exact fun m hgrant => exec_live hlive rfl (withRight_granted hgrant _)
  case start =>
    exact fun p rest hpend hserves => ⟨fun h => exec_live hlive rfl (doutPulseStart_may hpend hserves h),
      fun h => exec_live hlive rfl (doutPulseStart_skips hpend hserves h)⟩
  case done => exact fun p h => exec_live hlive rfl (doutPulseEnd_active h)
  case overload =>
    exact fun hon hserves hfree => exec_live hlive rfl (doutOverload_conducting hon hserves hfree)
  case retry => exact fun t h => exec_live hlive rfl (doutWaitEnd_waiting h)
  case lost => exact fun hv h => exec_awake (awake_of_live hlive) rfl (fieldLost_low hv h)
  case ov => exact fun hv hfits h => exec_awake (awake_of_live hlive) rfl (fieldOv_high hv hfits h)
  case ok => exact fun hlo hhi h => exec_awake (awake_of_live hlive) rfl (fieldOkAgain_good hlo hhi h)
  case notLow => exact fun hv => exec_awake (awake_of_live hlive) rfl (fieldLost_notLow hv)
  case notHigh => exact fun hv => exec_awake (awake_of_live hlive) rfl (fieldOv_notHigh hv)
  case sample =>
    intro a b mA hserves s0 s1
    have hs1 : s.doutScanned a.toNat b.toNat mA = s1 := rfl
    rw [← hs1]
    exact ⟨fun h => exec_live hlive rfl (doutSample_plain hserves h),
      fun n ns hprobe hsuspects => exec_live hlive rfl (doutSample_probes hserves hprobe hsuspects)⟩
  case away => exact fun a b mA h => exec_live hlive rfl (doutSample_away h _ _ _)
  case tie => exact fun p x y hprobe hlow => exec_live hlive rfl (tieProbeStep_low hprobe hlow)
  case noProbe => exact fun h x y => exec_live hlive rfl (tieProbeStep_none h x y)
  case live =>
    exact fun hlive => ⟨fun _ _ _ => exec_live hlive rfl rfl, fun _ _ => exec_live hlive rfl rfl,
      fun _ => exec_live hlive rfl rfl, fun _ => exec_live hlive rfl rfl, fun _ => exec_live hlive rfl rfl,
      fun _ _ => exec_live hlive rfl rfl, fun _ _ _ => exec_live hlive rfl rfl, fun _ _ => exec_live hlive rfl rfl⟩
  case awake =>
    exact fun hawake => ⟨fun _ => exec_awake hawake rfl rfl, fun _ => exec_awake hawake rfl rfl,
      fun _ => exec_awake hawake rfl rfl⟩

/-! ### Encoders (R374, R626) -/

/-- A position is loaded and valid. -/
theorem encLoad_position (e pos : Nat) : s.encLoad e pos none none = (s.wr Rg.encPos pos e).wr Rg.encValid 1 e := rfl

/-- A position may bring the next line and a pitch with it. -/
theorem encLoad_pitch {e p : Nat} (pos v : Nat) (hp : p ≠ 0) :
    s.encLoad e pos (some v) (some p) =
      (((s.wr Rg.encPos pos e).wr Rg.encValid 1 e).wr Rg.encNext v e).wr Rg.encPitch p e := by
  obtain ⟨k, rfl⟩ := Nat.exists_eq_succ_of_ne_zero hp
  rfl

/-- A pitch of 0 is no write. -/
theorem encLoad_pitchZero (e pos : Nat) (v : Option Nat) : s.encLoad e pos v (some 0) = s := rfl

theorem doEncPosWrite_granted {m : MasterId} {e : Fin 4} (h : s.granted m.val (0x400700 + 0x20 * e.val) .set) (pos : Word)
    (next : Option Word) (pitch : Option (BitVec 24)) :
    doEncPosWrite m e pos next pitch s =
      s.encLoad e.val pos.toNat (next.map BitVec.toNat) (pitch.map BitVec.toNat) := withRight_granted h _

/-! ### Digital inputs (R370, R371) -/

/-- The inputs whose level changes. -/
def State.dinChanged (s : State) (levels : Nat) : List Nat := (upto 8).filter (fun n => s.on Rg.dinLevel n != levels.testBit n)

/-- LEVEL follows the pins, and each changed input takes its edge. -/
def State.dinTaken (s : State) (levels : Nat) : State :=
  (s.each (s.dinChanged levels) (fun st n => st.wr Rg.dinLevel (b2n (levels.testBit n)) n)).each (s.dinChanged levels)
    (fun st n => st.dinEdge n (levels.testBit n))

/-- While BELLOWS is away no encoder steps. -/
theorem dinLevels_away {levels : Nat} (h : s.bellowsServes = false) : s.dinLevels levels = s.dinTaken levels :=
  if_neg (by simp [h])

theorem dinLevels_serving {levels : Nat} (h : s.bellowsServes = true) :
    s.dinLevels levels = (s.dinTaken levels).each (upto 4) (fun st e =>
      st.encStep e (s.now - s.dinDelay (if (s.dinChanged levels).contains (2 * e) then 2 * e else 2 * e + 1))
        (s.on Rg.dinLevel (2 * e)) (s.on Rg.dinLevel (2 * e + 1)) (levels.testBit (2 * e)) (levels.testBit (2 * e + 1))) :=
  if_pos h

/-- Settles O32: each command, where it is heard and may act, has the effect that the lemmas above give for it. -/
theorem fieldInputs : Obligations.FieldInputs := by
  refine ⟨fun m e pos s hlive hgrant => ⟨?position, ?pitch, ?pitchZero⟩, fun l s hlive => ⟨?away, ?serving⟩, fun s => ⟨?live, ?awake⟩⟩
  case position =>
    exact exec_live hlive rfl ((doEncPosWrite_granted hgrant pos none none).trans (encLoad_position _ _))
  case pitch =>
    exact fun v p hp =>
      exec_live hlive rfl ((doEncPosWrite_granted hgrant pos (some v) (some p)).trans (encLoad_pitch _ _ hp))
  case pitchZero =>
    exact fun v => exec_live hlive rfl ((doEncPosWrite_granted hgrant pos v (some 0)).trans (encLoad_pitchZero _ _ _))
  case away => exact fun h => exec_awake (awake_of_live hlive) rfl (dinLevels_away h)
  case serving => exact fun h => exec_awake (awake_of_live hlive) rfl (dinLevels_serving h)
  case live => exact fun hlive _ _ _ _ _ => exec_live hlive rfl rfl
  case awake => exact fun hawake _ => exec_awake hawake rfl rfl

end Sys2Proof.Machine
end

