-- ==== Sys2Proof/Proofs/QuenchAndTrim.lean ====
section
-- Proofs are elaborated one by one, and none waits for the kernel's checks of the tests: this bounds the memory.
set_option deprecated.oldSectionVars true
/-! SUPPORT. Quench and trim (R377, R495 to R498). -/
namespace Sys2Proof.Machine

variable {s : State} {n : Nat}

theorem quenchTimeout_due (hen : s.rd Rg.ledQen n = 1) (hserves : s.bellowsServes = true) :
    s.quenchTimeout n = (s.reach ((s.led n).lastSample + msTicks (max 1 (s.rd Rg.ledQTimeout n)))).quenchFault n := by
  simp only [State.quenchTimeout, on_of_one hen, hserves, Bool.and_self, if_true]

theorem doTrimFlashStart_serving {n : LedId} (hserves : s.bellowsServes = true) : doTrimFlashStart n s = s.flashStart n.val :=
  if_pos hserves

/-- A flash that is due fires at its instant, at I_T (R495, R496). -/
theorem flashStart_at {t k : Nat} (h : s.flashAt n = some (t, k)) :
    s.flashStart n =
      let u := (s.reach t).bump Rg.ledTrimFlashes n
      (u.modLed n (fun l =>
        { l with flash := some { start := t, current := s.ledIT n, slot := k },
                 flashDue := some (u.period + max 1 (u.rd Rg.ledTrimEvery n)) })).litAdd t (t + 10000) := by
  simp only [State.flashStart, h]

section FlashEnd

variable {f : Flash} (hflash : (s.led n).flash = some f)
include hflash

/-- A flash whose channel is off cannot be measured. -/
theorem flashEnd_off (hoff : s.rd Rg.saEn (s.rd Rg.ledTrimChan n) = 0) :
    s.flashEnd n = ((s.reach (f.start + 10000)).modLed n (fun l => { l with flash := none })).trimBad n := by
  simp only [State.flashEnd, hflash, hoff, true_or, if_true]

/-- A flash whose channel can measure it waits for its measurement (R497). -/
theorem flashEnd_measures (hon : s.rd Rg.saEn (s.rd Rg.ledTrimChan n) = 1) (hpreset : s.rd Rg.saPreset (s.rd Rg.ledTrimChan n) ≠ 3)
    (hblank : s.rd Rg.saBlank (s.rd Rg.ledTrimChan n) < 2) :
    s.flashEnd n =
      ((s.reach (f.start + 10000)).modLed n (fun l => { l with flash := none })).modLed n (fun l => { l with measure := some f }) := by
  have hcan : ¬(s.rd Rg.saEn (s.rd Rg.ledTrimChan n) = 0 ∨ s.rd Rg.saPreset (s.rd Rg.ledTrimChan n) = 3 ∨
      2 ≤ s.rd Rg.saBlank (s.rd Rg.ledTrimChan n)) := by omega
  simp only [State.flashEnd, hflash, if_neg hcan]

end FlashEnd

/-- Settles O34: each command, where it is heard and may act, has the effect that the lemmas above give for it. -/
theorem quenchAndTrim : Obligations.QuenchAndTrim := by
  refine ⟨fun n s hlive => ⟨?quench, ?start, fun f hflash => ⟨?bad, ?measure⟩, ?capture⟩, ?all⟩
  case quench => exact fun hen hserves => exec_live hlive rfl (quenchTimeout_due hen hserves)
  case start =>
    exact fun t k hserves h => exec_live hlive rfl ((doTrimFlashStart_serving hserves).trans (flashStart_at h))
  case bad => exact fun hoff => exec_live hlive rfl (flashEnd_off hflash hoff)
  case measure =>
    exact fun hon hpreset hblank => exec_live hlive rfl (flashEnd_measures hflash hon hpreset hblank)
  case capture => exact fun m hgrant => exec_live hlive rfl (withRight_granted hgrant _)
  case all =>
    exact fun s hlive => ⟨fun _ => exec_live hlive rfl rfl, fun _ => exec_live hlive rfl rfl,
      fun _ => exec_live hlive rfl rfl, fun _ _ => exec_live hlive rfl rfl⟩

end Sys2Proof.Machine
end

