-- ==== Sys2Proof/Proofs/Rotation.lean ====
section
-- Proofs are elaborated one by one, and none waits for the kernel's checks of the tests: this bounds the memory.
set_option deprecated.oldSectionVars true
/-! SUPPORT. The calibration rotation and its steps (R480 to R484, R506). -/
namespace Sys2Proof.Machine

variable {s : State}

/-! ### A rotation begins (R483, R506) -/

/-- In an idle SFE a rotation begins at its due instant with the next group: modulator 8 calibrates itself first. -/
theorem rotBegin_due {k t : Nat} (hup : s.domainUp 4 = true) (hidle : s.rd Rg.calPhase = 0) (hparked : s.rd Rg.calParked = 0)
    (hstopped : s.sfe.rot.stopped = false) (hnow : s.sfe.rot.now = false) (hen : s.rd Rg.calRotEn = 1)
    (hlast : s.sfe.rot.lastBegin = some t) (hgroup : s.rotGroup s.sfe.rot.nextGroup = some k) :
    s.rotBegin =
      let u := s.reach (t + msTicks s.rotInterval)
      ((u.modRot (fun r => { r with lastBegin := some u.now, now := false, late := false })).wr Rg.calGroup k).calBegin 1 8 := by
  simp only [State.rotBegin, hup, hidle, hstopped, hnow, hlast, hgroup, on_of_zero hparked, on_of_one hen, Bool.not_true,
    Bool.false_eq_true, if_false, ne_eq, not_true_eq_false, or_true, if_true]

/-- A rotation that is due while another runs is late once, with E0919. -/
theorem rotBegin_late {t : Nat} (hup : s.domainUp 4 = true) (hbusy : s.rd Rg.calPhase ≠ 0) (hen : s.rd Rg.calRotEn = 1)
    (hlate : s.sfe.rot.late = false) (hlast : s.sfe.rot.lastBegin = some t) (hdue : t + msTicks s.rotInterval ≤ s.now) :
    s.rotBegin =
      ((s.bumpSat Rg.calLate).raise 919 (s.rd Rg.calGroup) 0).modRot (fun r => { r with late := true }) := by
  simp only [State.rotBegin, hup, hbusy, hlate, hlast, hdue, on_of_one hen, Bool.not_true, Bool.false_eq_true, if_false, ne_eq,
    not_false_eq_true, and_self, if_true]

/-- CAL NOW asks for a rotation when none runs. -/
theorem doCalNow_granted {m : MasterId} (h : s.granted m.val 0x3C2000 .run) :
    doCalNow m s = if s.rd Rg.calPhase = 0 then s.modRot (fun r => { r with now := true }) else s := withRight_granted h _

/-! ### Steps (R480, R481) -/

section Step

variable {p q : Int} {c : ModCal} (hcal : s.sfe.rot.cal = some c) (hplaced : s.jobs.filter isCalJob ≠ [])
  (hrun : (s.jobs.filter isCalJob).any (fun j => decide (s.period < j.row)) = false)
include hcal hplaced hrun

/-- A placed step gives its two pairs; the calibration goes on until it has 384, and ends then. -/
theorem calStepDone_placed :
    s.calStepDone p q =
      let c1 : ModCal := { c with pairs := q :: p :: c.pairs }
      let s1 : State := { s with jobs := s.jobs.filter (fun j => !isCalJob j) }
      if 384 ≤ c1.pairs.length then s1.calEnd c1
      else (s1.wr Rg.calStep (c1.pairs.length / 2)).modRot (fun r => { r with cal := some c1 }) := by
  have hplaced' : (s.jobs.filter isCalJob).isEmpty = false := by simpa using hplaced
  simp only [State.calStepDone, hcal, hplaced', hrun, Bool.or_self, Bool.false_eq_true, if_false]

end Step

/-- Settles O35: each command, where it is heard and may act, has the effect that the lemmas above give for it. -/
theorem rotation : Obligations.Rotation := by
  refine ⟨fun s hlive hup => ⟨?due, ?late, fun m hgrant => ⟨?now, ?busy⟩⟩,
    fun p q c s hlive hcal hplaced hrun => ⟨?more, ?last⟩, ?all⟩
  case due =>
    exact fun k t hidle hparked hstopped hnow hen hlast hgroup =>
      exec_live hlive rfl (rotBegin_due hup hidle hparked hstopped hnow hen hlast hgroup)
  case late =>
    exact fun t hbusy hen hlate hlast hdue => exec_live hlive rfl (rotBegin_late hup hbusy hen hlate hlast hdue)
  case now => exact fun h => exec_live hlive rfl ((doCalNow_granted hgrant).trans (if_pos h))
  case busy => exact fun h => exec_live hlive rfl ((doCalNow_granted hgrant).trans (if_neg h))
  case more =>
    exact fun h => exec_live hlive rfl ((calStepDone_placed hcal hplaced hrun).trans (if_neg (Nat.not_le.mpr h)))
  case last => exact fun h => exec_live hlive rfl ((calStepDone_placed hcal hplaced hrun).trans (if_pos h))
  case all =>
    exact fun s hlive => ⟨exec_live hlive rfl rfl, fun _ => exec_live hlive rfl rfl, fun _ _ => exec_live hlive rfl rfl⟩

end Sys2Proof.Machine
end

