-- ==== Sys2Proof/Proofs/SfeFrontEnd.lean ====
section
-- Proofs are elaborated one by one, and none waits for the kernel's checks of the tests: this bounds the memory.
set_option deprecated.oldSectionVars true
/-! SUPPORT. SFE channels, routing, limits and the flicker lock (R395, R399 to R402, R407, R408, R419, R499). -/
namespace Sys2Proof.Machine

variable {s : State} {m : MasterId}

/-! ### Channels (R395, R471) -/

theorem doSfeChannelEnable_granted {n : ChanId} (h : s.granted m.val (sfeAddr n.val 0) .set) :
    doSfeChannelEnable m n s = s.chanEnable n.val := withRight_granted h _

theorem doSfeChannelDisable_granted {n : ChanId} (h : s.granted m.val (sfeAddr n.val 0) .set) :
    doSfeChannelDisable m n s = (s.chanDisable n.val).rotAdvance := withRight_granted h _

section Enable

variable {n : Nat} (hoff : s.chanOn n = false)
include hoff

theorem chanEnable_full (h : s.freeSlots (n % 8) (presetPositions (s.rd Rg.saPreset n)) = none) : s.chanEnable n = s := by
  simp only [State.chanEnable, hoff, h, Bool.false_eq_true, if_false]

/-- The channel takes the lowest free positions of its group, and starts if the routing that results is legal. -/
theorem chanEnable_room {w : Nat} (h : s.freeSlots (n % 8) (presetPositions (s.rd Rg.saPreset n)) = some w) :
    s.chanEnable n =
      let t := ((s.wr Rg.saEn 1 n).wr Rg.saSlots w n).wr Rg.saMod (s.groupMod (n % 8)) n
      if t.routingLegal then (t.chanStart n).pinSync else s := by
  simp only [State.chanEnable, hoff, h, Bool.false_eq_true, if_false]

end Enable

theorem chanDisable_on {n : Nat} (hon : s.chanOn n = true) :
    s.chanDisable n =
      let t := (((s.wr Rg.saEn 0 n).wr Rg.saSlots 0 n).checkAbandon n).modChan n (fun c => { last := c.last })
      State.pinSync { t with sfe := { t.sfe with rot := { t.sfe.rot with toMove := t.sfe.rot.toMove.erase n } } } :=
  if_pos hon

/-! ### Routing (R399 to R401) -/

/-- With Set on every object that it names, a write of routing fields is one routing change. -/
theorem doSfeRoutingWrite_granted {e : RouteFld × Word} {l : List (RouteFld × Word)}
    (hright : ∀ x ∈ e :: l, s.rightAt m.val x.1.addr .set = true) (hgate : s.gateAt e.1.addr = .pass) :
    doSfeRoutingWrite m (e :: l) s = s.route (((e :: l).filter (fun x => x.1.there)).map (fun x => (x.1, x.2.toNat))) := by
  have hnone : (e :: l).find? (fun x => !s.rightAt m.val x.1.addr .set) = none :=
    List.find?_eq_none.mpr (fun x hx => by simp [hright x hx])
  simp only [doSfeRoutingWrite, hnone]
  exact withRight_granted ⟨hgate, hright e List.mem_cons_self⟩ _

/-- A routing change is taken whole if each field is open and the result legal. -/
theorem route_taken {ups : List (RouteFld × Nat)} (hopen : ups.all (fun x => s.routeOpen x.1) = true)
    (hlegal : (s.routed ups).routingLegal = true) : s.route ups = (s.routed ups).pinSync := by
  simp only [State.route, State.routeMay, hopen, hlegal, Bool.and_self, if_true]

/-- It is dropped whole if not. -/
theorem route_dropped {ups : List (RouteFld × Nat)}
    (h : ups.all (fun x => s.routeOpen x.1) = false ∨ (s.routed ups).routingLegal = false) : s.route ups = s := by
  have hnot : s.routeMay ups = false := by
    rw [State.routeMay, Bool.and_eq_false_iff]; exact h
  simp only [State.route, hnot, Bool.false_eq_true, if_false]

/-! ### Limits (R402, R407, R408, R419) -/

/-- A source in voltage mode that limits faults the channels that select it. -/
theorem excLimit_voltage {x : Nat} (hup : s.domainUp 4 = true) (hmode : s.rd Rg.excMode x = 2) (hclear : s.rd Rg.excLimit x = 0) :
    s.excLimit x =
      let t := (s.wr Rg.excLimit 1 x).raise (856 + x) x 4
      t.each (t.selecting x) (fun st n => (st.chanFault Rg.saShort 1 n).checkCut n) :=
  if_pos ⟨hmode, hclear, hup⟩

theorem doBiasLimit_on {p : Fin 16} (hup : s.domainUp 4 = true) (h : s.rd Rg.xpBias p.val ≠ 0) :
    doBiasLimit p s = s.wr Rg.xpBiasLimit 1 p.val := if_pos ⟨h, hup⟩

theorem doGuardLimit_on {g : Fin 4} (hup : s.domainUp 4 = true) (h : s.rd Rg.grdEn g.val = 1) :
    doGuardLimit g s = (s.wr Rg.grdLimit 1 g.val).raise (884 + g.val) g.val 1 := by
  simp only [doGuardLimit, on_of_one h, hup, Bool.and_self, if_true]

/-! ### The flicker lock (R499) -/

theorem doFlkEnWrite_granted (h : s.granted m.val 0x3C2100 .set) (v : Bool) : doFlkEnWrite m v s = s.flkEnWrite (b2n v) :=
  withRight_granted h _

theorem flkEnWrite_starts (hmay : s.flkMayRun = true) (hoff : s.rd Rg.flkEn = 0) :
    s.flkEnWrite 1 = (s.wr Rg.flkEn 1).flkStart := by
  simp [State.flkEnWrite, State.flkEnSet, hmay, on_of_zero hoff]

theorem flkEnWrite_refused (hmay : s.flkMayRun = false) : s.flkEnWrite 1 = s := by simp [State.flkEnWrite, hmay]

theorem flkEnWrite_ends : s.flkEnWrite 0 = ((s.wr Rg.flkEn 0).wr Rg.flkLocked 0).flkSteps := rfl

/-- Settles O37: each command, where it is heard and may act, has the effect that the lemmas above give for it. -/
theorem sfeFrontEnd : Obligations.SfeFrontEnd := by
  refine ⟨fun m n s hlive hgrant => ⟨?full, ?room, ?disable⟩, fun m e l s hlive hright hgate => ⟨?taken, ?dropped⟩,
    fun s hlive hup => ⟨?exc, ?excClear, ?bias, ?guard⟩, fun m s hlive hgrant => ⟨?flkOn, ?flkNo, ?flkOff⟩, ?all⟩
  case full =>
    exact fun hoff h => exec_live hlive rfl ((doSfeChannelEnable_granted hgrant).trans (chanEnable_full hoff h))
  case room =>
    intro w hoff h
    have hdo := (doSfeChannelEnable_granted hgrant).trans (chanEnable_room hoff h)
    exact ⟨fun hlegal => exec_live hlive rfl (hdo.trans (if_pos hlegal)),
      fun hlegal => exec_live hlive rfl (hdo.trans (if_neg (by simp [hlegal])))⟩
  case disable =>
    exact fun hon =>
      exec_live hlive rfl ((doSfeChannelDisable_granted hgrant).trans (congrArg State.rotAdvance (chanDisable_on hon)))
  case taken =>
    exact fun h => exec_live hlive rfl ((doSfeRoutingWrite_granted hright hgate).trans (route_taken h.1 h.2))
  case dropped =>
    exact fun h => exec_live hlive rfl ((doSfeRoutingWrite_granted hright hgate).trans (route_dropped h))
  case exc => exact fun x hmode hclear => exec_live hlive rfl (excLimit_voltage hup hmode hclear)
  case excClear => exact fun m x hgrant => exec_live hlive rfl (withRight_granted hgrant _)
  case bias => exact fun p h => exec_live hlive rfl (doBiasLimit_on hup h)
  case guard => exact fun g h => exec_live hlive rfl (doGuardLimit_on hup h)
  case flkOn =>
    exact fun hmay hoff => exec_live hlive rfl ((doFlkEnWrite_granted hgrant true).trans (flkEnWrite_starts hmay hoff))
  case flkNo => exact fun hmay => exec_live hlive rfl ((doFlkEnWrite_granted hgrant true).trans (flkEnWrite_refused hmay))
  case flkOff => exact exec_live hlive rfl ((doFlkEnWrite_granted hgrant false).trans flkEnWrite_ends)
  case all =>
    exact fun s hlive => ⟨fun _ _ => exec_live hlive rfl rfl, fun _ _ => exec_live hlive rfl rfl,
      fun _ _ => exec_live hlive rfl rfl, fun _ => exec_live hlive rfl rfl, fun _ _ => exec_live hlive rfl rfl,
      fun _ => exec_live hlive rfl rfl, fun _ => exec_live hlive rfl rfl, fun _ _ => exec_live hlive rfl rfl⟩

end Sys2Proof.Machine
end

