-- ==== Sys2Proof/Proofs/SfeBanks.lean ====
section
-- Proofs are elaborated one by one, and none waits for the kernel's checks of the tests: this bounds the memory.
set_option deprecated.oldSectionVars true
/-! SUPPORT. FIR banks and linearisation banks of the SFE (R448, R449, R458 to R460). -/
namespace Sys2Proof.Machine

variable {s : State} {m : MasterId}

/-- A write that may act acts, whatever its test is. -/
theorem guardWrite_pass {m a : Nat} {ok : Bool} (hgate : s.gateAt a = .pass) (hok : ok = true) (k : State → State) :
    s.guardWrite m a ok k = k s := by simp [State.guardWrite, hgate, hok]

/-- The same for a command that needs RUN and SET. -/
theorem guardWrite_runSet {a : Nat} (hrun : s.granted m.val a .run) (hset : s.granted m.val a .set) (k : State → State) :
    s.guardWrite m.val a (s.rightAt m.val a .run && s.rightAt m.val a .set) k = k s := by
  obtain ⟨hgate, hrun⟩ := hrun
  obtain ⟨-, hset⟩ := hset
  exact guardWrite_pass hgate (by simp only [hrun, hset, Bool.and_self]) k

/-! ### FIR banks -/

section FirBank

variable {n b : Nat} (huse : s.firInUse n b = false)
include huse

theorem firWrite_free (k : Nat) (v : Int) :
    s.firWrite n b k v =
      let t := s.setTap n b k v
      ({ t with sfe := { t.sfe with badFir := (2 * n + b) :: t.sfe.badFir.erase (2 * n + b) } } : State) := by
  simp only [State.firWrite, huse, Bool.false_eq_true, if_false]

theorem firCommit_good {len : Nat} (hn : n < 24) (h1 : 1 ≤ len) (h128 : len ≤ 128) :
    s.firCommit n b len =
      let t := (s.wr (if b = 0 then Rg.sdFirLen0 else Rg.sdFirLen1) len n).wr Rg.bankError 0
      ({ t with sfe := { t.sfe with badFir := t.sfe.badFir.erase (2 * n + b) } } : State) := by
  simp only [State.firCommit, huse, Nat.not_le.mpr hn, Bool.false_eq_true, or_self, if_false, h1, h128, and_self, if_true]

theorem firCommit_badLength {len : Nat} (hn : n < 24) (hlen : len = 0 ∨ 128 < len) : s.firCommit n b len = s.wr Rg.bankError 1 := by
  have hnot : ¬(1 ≤ len ∧ len ≤ 128) := by omega
  simp only [State.firCommit, huse, Nat.not_le.mpr hn, Bool.false_eq_true, or_self, if_false, if_neg hnot]

end FirBank

theorem firWrite_inUse {n b : Nat} (k : Nat) (v : Int) (huse : s.firInUse n b = true) : s.firWrite n b k v = s.bankBusy :=
  if_pos huse

theorem firCommit_dropped {n b : Nat} (len : Nat) (h : 24 ≤ n ∨ s.firInUse n b = true) : s.firCommit n b len = s.bankBusy :=
  if_pos h

theorem doFirDataAccess_write (hgate : s.gateAt 0x3C1008 = .pass) (hright : s.firRight m.val .set = true)
    (hn : s.rd Rg.firSelChan m.val < 24) (v : BitVec 24) :
    doFirDataAccess m (some v) s =
      (s.firWrite (s.rd Rg.firSelChan m.val) (s.rd Rg.firSelBank m.val) (s.rd Rg.firAddr m.val) (toSigned 24 v.toNat)).bump
        Rg.firAddr m.val := by
  have hdo : doFirDataAccess m (some v) s = s.firDataWrite m.val v.toNat :=
    guardWrite_pass hgate hright (fun st => st.firDataWrite m.val v.toNat)
  simp only [hdo, State.firDataWrite, if_pos hn]

theorem doFirDataAccess_read (hgate : s.gateAt 0x3C1008 = .pass) (hright : s.firRight m.val .look = true)
    (hn : s.rd Rg.firSelChan m.val < 24) :
    doFirDataAccess m none s =
      (s.bump Rg.firAddr m.val).answer m.val
        (ofSigned 24 (s.tap (s.rd Rg.firSelChan m.val) (s.rd Rg.firSelBank m.val) (s.rd Rg.firAddr m.val))) := by
  simp only [doFirDataAccess, State.guardRead, hgate, hright, Bool.true_or, if_true, State.firDataRead, if_pos hn]

theorem doFirCommit_granted (hrun : s.granted m.val 0x3C100C .run) (hset : s.granted m.val 0x3C100C .set) (len : BitVec 8) :
    doFirCommit m len s = s.firCommit (s.rd Rg.firSelChan m.val) (s.rd Rg.firSelBank m.val) len.toNat :=
  guardWrite_runSet hrun hset _

/-! ### The exchange of FIR banks (R449) -/

theorem firRequest_invalid {n : Nat} (v : Nat) (h : s.firValid n (1 - s.rd Rg.sdFirActive n) = false) :
    s.firRequest n 0 v = s := by
  simp only [State.firRequest, if_true, h, Bool.false_eq_true, if_false]

theorem firRequest_runs {n : Nat} (v : Nat) (h : s.firValid n (1 - s.rd Rg.sdFirActive n) = true) (hon : s.chanOn n = true) :
    s.firRequest n 0 v = s.modChan n (fun x => { x with firSwapAt := x.firSwapAt.orElse (fun _ => some s.now) }) := by
  simp only [State.firRequest, if_true, h, hon]

theorem firRequest_off {n : Nat} (v : Nat) (h : s.firValid n (1 - s.rd Rg.sdFirActive n) = true) (hoff : s.chanOn n = false) :
    s.firRequest n 0 v = s.wr Rg.sdFirActive (1 - s.rd Rg.sdFirActive n) n := by
  simp only [State.firRequest, if_true, h, hoff, Bool.false_eq_true, if_false]

theorem doFirSwap_exchange {n : ChanId} (h : s.granted m.val (sfeDigAddr n.val 0x14) .run) (v : Bool) :
    doFirSwap m n 0 v s = s.firRequest n.val 0 (b2n v) := withRight_granted h _

theorem doFirSwap_source {n : ChanId} (h : s.granted m.val (sfeDigAddr n.val 0x14) .set) (v : Bool) :
    doFirSwap m n 1 v s = s.firRequest n.val 1 (b2n v) := withRight_granted h _

theorem doFirSwap_minph {n : ChanId} (h : s.granted m.val (sfeDigAddr n.val 0x14) .set) (v : Bool) :
    doFirSwap m n 2 v s = s.firRequest n.val 2 (b2n v) := withRight_granted h _

/-! ### Linearisation banks (R458 to R460) -/

theorem doLinDataAccess_write (h : s.granted m.val 0x3C1018 .set) (v : Word) :
    doLinDataAccess m (some v) s = s.linDataWrite m.val v.toNat := withRight_granted h _

theorem doLinDataAccess_read (h : s.granted m.val 0x3C1018 .look)
    (ha : s.rd Rg.linAddr m.val < linWords (s.rd Rg.linSelKind m.val)) :
    doLinDataAccess m none s =
      (s.bump Rg.linAddr m.val).answer m.val
        (s.linWord (s.rd Rg.linSelBank m.val) (s.rd Rg.linSelKind m.val) (s.rd Rg.linSelTable m.val % 16)
          (s.rd Rg.linAddr m.val)) := by
  refine (guardRead_granted h (fun st => st.linDataRead m.val)).trans ?_
  simp only [State.linDataRead, State.linRead, if_pos ha]

theorem linWrite_free {bank kind i : Nat} (table : Nat) (v : Word) (huse : s.linInUse bank = false) (hi : i < linWords kind) :
    s.linWrite bank kind table i v.toNat =
      ({ s with sfe := { s.sfe with lin := kvSet (linReset kind i) s.sfe.lin (linKey bank kind table i) v.toNat,
                                    badLin := bank :: s.sfe.badLin.erase bank } } : State) := by
  simp only [State.linWrite, huse, Bool.false_eq_true, if_false, if_pos hi, Nat.mod_eq_of_lt v.isLt]

theorem linWrite_inUse {bank : Nat} (kind table i v : Nat) (huse : s.linInUse bank = true) :
    s.linWrite bank kind table i v = s.bankBusy := if_pos huse

theorem doLinCommit_granted (hrun : s.granted m.val 0x3C101C .run) (hset : s.granted m.val 0x3C101C .set) (np : BitVec 7) :
    doLinCommit m np s = s.linCmd m.val np.toNat := guardWrite_runSet hrun hset _

/-- Setting a table's point count puts no bank in use. -/
theorem linInUse_linSetPoints (bank table np b : Nat) : (s.linSetPoints bank table np).linInUse b = s.linInUse b := rfl

/-- The state that LIN_COMMIT tests: a table's point count is set, a set has none. -/
theorem linCmd_free {m : Nat} (np : Nat) (huse : s.linInUse (s.rd Rg.linSelBank m) = false) :
    s.linCmd m np =
      (if s.rd Rg.linSelKind m = 0 then s.linSetPoints (s.rd Rg.linSelBank m) (s.rd Rg.linSelTable m % 16) np else s).linCommit
        (s.rd Rg.linSelBank m) := by
  simp only [State.linCmd, huse, Bool.false_eq_true, if_false]

theorem linCommit_good {bank : Nat} (huse : s.linInUse bank = false) (h : s.linPasses bank = true) :
    s.linCommit bank =
      ({ s.wr Rg.bankError 0 with sfe := { s.sfe with badLin := s.sfe.badLin.erase bank } } : State) := by
  simp only [State.linCommit, huse, h, Bool.false_eq_true, if_false, if_true]; rfl

theorem linCommit_bad {bank : Nat} (huse : s.linInUse bank = false) (h : s.linPasses bank = false) :
    s.linCommit bank = s.wr Rg.bankError 1 := by
  simp only [State.linCommit, huse, h, Bool.false_eq_true, if_false]

theorem linSwap_invalid {n : Nat} (h : s.linValid (1 - s.rd Rg.sdLinBank n) = false) : s.linSwap n = s := by
  simp only [State.linSwap, h, Bool.false_eq_true, if_false]

theorem linSwap_runs {n : Nat} (h : s.linValid (1 - s.rd Rg.sdLinBank n) = true) (hon : s.chanOn n = true) :
    s.linSwap n = s.modChan n (fun x => { x with linSwapAt := x.linSwapAt.orElse (fun _ => some s.now) }) := by
  simp only [State.linSwap, h, hon, if_true]

theorem linSwap_off {n : Nat} (h : s.linValid (1 - s.rd Rg.sdLinBank n) = true) (hoff : s.chanOn n = false) :
    s.linSwap n = s.wr Rg.sdLinBank (1 - s.rd Rg.sdLinBank n) n := by
  simp only [State.linSwap, h, hoff, Bool.false_eq_true, if_false, if_true]

theorem doLinSwap_granted {n : ChanId} (h : s.granted m.val (sfeDigAddr n.val 0x1C) .run) : doLinSwap m n s = s.linSwap n.val :=
  withRight_granted h _

/-- Settles O38: each command, where it is heard and may act, has the effect that the lemmas above give for it. -/
theorem sfeBanks : Obligations.SfeBanks := by
  refine ⟨fun m s hlive => ⟨?firData, ?firCommit, ?firDropped, ?firInvalid, ?firSetting, ?firSwap⟩,
    fun m s hlive => ⟨?linWrite, ?linRead, ?linCommit, ?linInvalid, ?linSwap⟩, ?all⟩
  case firData =>
    intro hgate hn
    refine ⟨fun v hright huse => ?_, fun v hright huse => ?_,
      fun hright => exec_live hlive rfl (doFirDataAccess_read hgate hright hn)⟩ <;>
      refine exec_live hlive rfl ((doFirDataAccess_write hgate hright hn v).trans (congrArg (State.bump · _ _) ?_))
    · exact firWrite_free huse _ _
    · exact firWrite_inUse _ _ huse
  case firCommit =>
    intro len hrun hset hn huse
    have hdo := doFirCommit_granted hrun hset len
    exact ⟨fun h1 h128 => exec_live hlive rfl (hdo.trans (firCommit_good huse hn h1 h128)),
      fun hlen => exec_live hlive rfl (hdo.trans (firCommit_badLength huse hn hlen))⟩
  case firDropped =>
    exact fun len hrun hset h =>
      exec_live hlive rfl ((doFirCommit_granted hrun hset len).trans (firCommit_dropped _ h))
  case firInvalid =>
    exact fun c v hgrant h => exec_live hlive rfl ((doFirSwap_exchange hgrant v).trans (firRequest_invalid _ h))
  case firSetting =>
    intro c v hgrant
    refine ⟨exec_live hlive rfl ((doFirSwap_minph hgrant v).trans rfl), ?_⟩
    rintro rfl
    exact exec_live hlive rfl ((doFirSwap_source hgrant false).trans rfl)
  case firSwap =>
    intro c v hgrant h
    have hdo := doFirSwap_exchange hgrant v
    exact ⟨fun hon => exec_live hlive rfl (hdo.trans (firRequest_runs _ h hon)),
      fun hoff => exec_live hlive rfl (hdo.trans (firRequest_off _ h hoff))⟩
  case linWrite =>
    intro v hgrant
    have hdo := doLinDataAccess_write hgrant v
    exact ⟨fun huse ha => exec_live hlive rfl (hdo.trans (congrArg (State.bump · _ _) (linWrite_free _ v huse ha))),
      fun huse => exec_live hlive rfl (hdo.trans (congrArg (State.bump · _ _) (linWrite_inUse _ _ _ _ huse)))⟩
  case linRead => exact fun hgrant ha => exec_live hlive rfl (doLinDataAccess_read hgrant ha)
  case linCommit =>
    intro np hrun hset
    have hdo := doLinCommit_granted hrun hset np
    refine ⟨fun huse => exec_live hlive rfl (hdo.trans (if_pos huse)), fun huse => ?_⟩
    have hcmd := hdo.trans (linCmd_free np.toNat huse)
    have hfree : (if s.rd Rg.linSelKind m.val = 0 then
        s.linSetPoints (s.rd Rg.linSelBank m.val) (s.rd Rg.linSelTable m.val % 16) np.toNat else s).linInUse
        (s.rd Rg.linSelBank m.val) = false := by
      split
      · exact huse
      · exact huse
    exact ⟨fun h => exec_live hlive rfl (hcmd.trans (linCommit_good hfree h)),
      fun h => exec_live hlive rfl (hcmd.trans (linCommit_bad hfree h))⟩
  case linInvalid =>
    exact fun n hgrant h => exec_live hlive rfl ((doLinSwap_granted hgrant).trans (linSwap_invalid h))
  case linSwap =>
    intro n hgrant h
    have hdo := doLinSwap_granted hgrant
    exact ⟨fun hon => exec_live hlive rfl (hdo.trans (linSwap_runs h hon)),
      fun hoff => exec_live hlive rfl (hdo.trans (linSwap_off h hoff))⟩
  case all =>
    exact fun s hlive => ⟨fun _ _ => exec_live hlive rfl rfl, fun _ _ => exec_live hlive rfl rfl,
      fun _ _ _ _ => exec_live hlive rfl rfl, fun _ _ => exec_live hlive rfl rfl, fun _ _ => exec_live hlive rfl rfl,
      fun _ _ => exec_live hlive rfl rfl⟩

end Sys2Proof.Machine
end

