-- ==== Sys2Proof/Proofs/SfeResults.lean ====
section
-- Proofs are elaborated one by one, and none waits for the kernel's checks of the tests: this bounds the memory.
set_option deprecated.oldSectionVars true
/-! SUPPORT. SFE samples, slot halves and result words (R461 to R467). -/
namespace Sys2Proof.Machine

variable {s : State} {m : MasterId}

/-! ### Samples and halves -/

theorem samplePost_due {n : Nat} {d : SampleDue} (h : (s.chan n).due = some d) :
    s.samplePost n = ((s.reach d.stamp).modChan n (fun c => { c with due := none })).postSample n d := by
  simp only [State.samplePost, h]

theorem slotHalf_down (xs : List HalfIn) (beyond failing : Nat) (h : s.domainUp 4 = false) : s.slotHalf xs beyond failing = s := by
  simp only [State.slotHalf, h, Bool.not_false, if_true]

theorem slotHalf_up (xs : List HalfIn) (beyond failing : Nat) (h : s.domainUp 4 = true) :
    s.slotHalf xs beyond failing =
      (let u0 := (s.each (upto 24) State.samplePost).reach (15625 * (s.nextHalf + 1))
       let u : State := if s.nextHalf % 2 = 0 then { u0 with sfe := { u0.sfe with half0 := [] } } else u0
       let w := (u.each ((upto 24).filter beyond.testBit) State.overvolt).each xs (fun st x => st.halfOf s.nextHalf x)
       let z := (w.each (upto 4) (fun st x => st.complyHalf failing x)).excReverse (s.nextHalf + 1)
       { z with sfe := { z.sfe with lastHalf := some s.nextHalf } }) := by
  simp only [State.slotHalf, h, Bool.not_true, Bool.false_eq_true, if_false]

/-! ### The fields of a posted sample (R461, R462) -/

/-- Fields that repeat at the same distance and do not begin at the same bit never meet at one index. -/
theorem key_ne_of_stride {f g : Fld} (hstride : f.s1 = g.s1) (hbegin : f.base * 8 + f.lsb ≠ g.base * 8 + g.lsb) (n : Nat) :
    f.key n 0 ≠ g.key n 0 := by
  simp only [Fld.key, hstride]
  omega

theorem rd_wr_stride {f g : Fld} (hstride : g.s1 = f.s1) (hbegin : g.base * 8 + g.lsb ≠ f.base * 8 + f.lsb) (v n : Nat) :
    (s.wr f v n).rd g n = s.rd g n := rd_wr_ne _ _ _ _ _ _ _ _ (key_ne_of_stride hstride hbegin n)

theorem rd_modChan (n : Nat) (f : ChanSt → ChanSt) (g : Fld) (i j : Nat) : (s.modChan n f).rd g i j = s.rd g i j := rfl

/-- What a field reads after a sample is posted, read back through the six writes. -/
theorem rd_postResult (n tag flags stamp : Nat) (y : Int) :
    let t := s.postResult n y tag flags stamp
    t.rd Rg.sdTag n = tag % 2 ^ Rg.sdTag.width ∧ t.rd Rg.sdFlags n = flags % 2 ^ Rg.sdFlags.width ∧
    t.rd Rg.sdStamp n = stamp % 2 ^ 63 ∧ t.rd Rg.sdSeq n = (s.rd Rg.sdSeq n + 1) % 2 ^ Rg.sdSeq.width := by
  simp only [State.postResult, State.bump, State.wrI]
  simp (disch := decide) only [rd_wr_stride, rd_wr_same, rd_modChan, true_and, and_true]
  exact Nat.mod_mod _ _

/-! ### Reads of the result words (R464, R465, R467) -/

theorem wordsSeen_earlier {n : Nat} (h : ∀ w, (s.chan n).before = some w → w.postedAt ≠ s.now) : s.wordsSeen n = s.wordsNow n := by
  unfold State.wordsSeen
  split
  case h_1 w hw => exact if_neg (h w hw)
  case h_2 => rfl

theorem wordsSeen_samePost {n : Nat} {w : WordsBefore} (hw : (s.chan n).before = some w) (hnow : w.postedAt = s.now) :
    s.wordsSeen n = w := by
  simp only [State.wordsSeen, hw, if_pos hnow]

theorem doResult0Read_granted {n : ChanId} (h : s.granted m.val (sfeDigAddr n.val 0) .look) :
    doResult0Read m n s =
      (s.modHold m.val (fun _ =>
        { held := some (n.val, (s.wordsSeen n.val).word1, (s.wordsSeen n.val).word2, (s.wordsSeen n.val).word3) })).answer m.val
        (s.wordsSeen n.val).word0 :=
  guardRead_granted h (fun st => st.result0 m.val n.val)

theorem doResultWordRead_granted {n : ChanId} {w : Fin 3} (h : s.granted m.val (sfeDigAddr n.val (4 * (w.val + 1))) .look) :
    doResultWordRead m n w s =
      (s.resultRead m.val n.val (w.val + 1)).1.answer m.val (s.resultRead m.val n.val (w.val + 1)).2 :=
  guardRead_granted h (fun st => st.resultRead m.val n.val (w.val + 1))

/-- What a read of RESULT_1 + w answers and leaves in the holding register, with a word that is stale or not. -/
def State.resultReply (s : State) (m : MasterId) (w : Fin 3) (word : Nat) (stale : Bool) : State :=
  (s.modHold m.val (fun x => { x with stale := stale, seen := (w.val + 1) :: x.seen.erase (w.val + 1) })).answer m.val
    (if w.val = 1 then word else word % 2 ^ 31 + (if stale then 2 ^ 31 else 0))

/-- STALE stands in bit 31. -/
theorem bit31_stale (b : Bool) : 2 ^ 31 * b2n b = if b then 2 ^ 31 else 0 := by cases b <;> rfl

theorem resultRead_held {n : ChanId} (w : Fin 3) {a b c : Nat}
    (h : (kvGet {} s.acc.sfeHolding m.val).held = some (n.val, a, b, c)) :
    (s.resultRead m.val n.val (w.val + 1)).1.answer m.val (s.resultRead m.val n.val (w.val + 1)).2 =
      s.resultReply m w (if w.val = 0 then a else if w.val = 1 then b else c)
        ((kvGet {} s.acc.sfeHolding m.val).stale || (kvGet {} s.acc.sfeHolding m.val).seen.contains (w.val + 1)) := by
  simp only [State.resultRead, h, if_true, Option.isNone_some, Bool.or_false, Option.getD_some, State.resultReply, bit31_stale,
    Nat.add_eq_right, Nat.reduceEqDiff]

theorem resultRead_other {n : ChanId} (w : Fin 3)
    (h : (kvGet {} s.acc.sfeHolding m.val).held = none ∨
      ∃ c x, (kvGet {} s.acc.sfeHolding m.val).held = some (c, x) ∧ c ≠ n.val) :
    (s.resultRead m.val n.val (w.val + 1)).1.answer m.val (s.resultRead m.val n.val (w.val + 1)).2 =
      s.resultReply m w (s.resultWord n.val (w.val + 1)) true := by
  obtain h | ⟨c, x, h, hc⟩ := h
  · simp only [State.resultRead, h, Option.isNone_none, Bool.or_true, Bool.true_or, Option.getD_none, State.resultReply,
      bit31_stale, if_true, Nat.reduceEqDiff]
  · simp only [State.resultRead, h, if_neg hc, Option.isNone_none, Bool.or_true, Bool.true_or, Option.getD_none,
      State.resultReply, bit31_stale, if_true, Nat.reduceEqDiff]

/-- Settles O39: each command, where it is heard and may act, has the effect that the lemmas above give for it; what a posted
sample's fields read is `rd_postResult`. -/
theorem sfeResults : Obligations.SfeResults := by
  refine ⟨⟨?sample, ?fields, ?half⟩, fun m n s hlive => ⟨rfl, rfl, rfl, ?first, ?words⟩, ?all⟩
  case sample => exact fun n d s hlive h => exec_live hlive rfl (samplePost_due h)
  case fields =>
    intro n tag flags stamp y s _ htag hflags t
    obtain ⟨h1, h2, h3, h4⟩ := rd_postResult (s := s) n tag flags stamp y
    exact ⟨h1.trans (Nat.mod_eq_of_lt htag), h2.trans (Nat.mod_eq_of_lt hflags), h3, h4, rfl⟩
  case half =>
    exact fun xs v f s hlive => ⟨fun h => exec_live hlive rfl (slotHalf_down xs _ _ h),
      fun h => exec_live hlive rfl (slotHalf_up xs _ _ h)⟩
  case first =>
    intro hgrant
    have hdo := doResult0Read_granted hgrant
    refine ⟨fun h => exec_live hlive rfl (hdo.trans ?_), fun w hw hnow => exec_live hlive rfl (hdo.trans ?_)⟩
    · rw [wordsSeen_earlier h]; rfl
    · rw [wordsSeen_samePost hw hnow]
  case words =>
    intro w hgrant
    have hdo := doResultWordRead_granted hgrant
    exact ⟨fun a b c h => exec_live hlive rfl (hdo.trans (resultRead_held w h)),
      fun h => exec_live hlive rfl (hdo.trans (resultRead_other w h))⟩
  case all =>
    exact fun s hlive => ⟨fun _ => exec_live hlive rfl rfl, fun _ _ _ => exec_live hlive rfl rfl,
      fun _ _ => exec_live hlive rfl rfl, fun _ _ _ => exec_live hlive rfl rfl⟩

end Sys2Proof.Machine
end

