-- ==== Sys2Proof/Proofs/Rings.lean ====
section
-- Proofs are elaborated one by one, and none waits for the kernel's checks of the tests: this bounds the memory.
set_option deprecated.oldSectionVars true
/-! SUPPORT. Rings: arm and disarm, batches, the flushing read, coalescing and the consumer index (R102, R529 to R531, R552). -/
namespace Sys2Proof.Machine

variable {s : State} {m : MasterId} {r : RingId}

/-! ### Arm and disarm (R530) -/

theorem doRingArm_granted (h : s.granted m.val (0x340000 + 0x40 * r.val) .set) (pages : List Nat) :
    doRingArm m r pages s = s.ringArm r.val pages := withRight_granted h _

theorem ringArm_unarmed {i : Nat} (pages : List Nat) (hoff : s.rd Rg.ringArm i = 0) (hok : s.armOk i = true) :
    s.ringArm i pages = s.ringRebuild i pages := by
  simp only [State.ringArm, on_of_zero hoff, hok, Bool.not_true, Bool.or_self, Bool.false_eq_true, if_false]

theorem ringArm_unfit {i : Nat} (pages : List Nat) (hok : s.armOk i = false) : s.ringArm i pages = s := by
  simp only [State.ringArm, hok, Bool.not_false, Bool.or_true, if_true]

theorem doRingDisarm_granted (h : s.granted m.val (0x340000 + 0x40 * r.val) .set) : doRingDisarm m r s = s.ringDisarm r.val :=
  withRight_granted h _

/-- ARM is cleared and an arming under way is given up, whatever the ring does. -/
def State.armCleared (s : State) (i : Nat) : State :=
  (s.wr Rg.ringArm 0 i).modRing i (fun x => { x with arming := none, armLogged := false })

theorem ringDisarm_idle {i : Nat} (harmed : s.rd Rg.ringArmed i = 1) (hnone : s.batch? i = none) :
    s.ringDisarm i = (s.armCleared i).wr Rg.ringArmed 0 i := by
  simp only [State.ringDisarm, on_of_one harmed, hnone, Bool.not_true, Bool.false_eq_true, if_false, Option.isNone_none, if_true,
    State.armCleared]

theorem ringDisarm_batchOpen {i : Nat} (harmed : s.rd Rg.ringArmed i = 1) (hsome : (s.batch? i).isSome = true) :
    s.ringDisarm i = (s.armCleared i).modRing i (fun x => { x with disarmWanted := true }) := by
  have hnot : (s.batch? i).isNone = false := by rw [← Option.not_isSome, hsome]; rfl
  simp only [State.ringDisarm, on_of_one harmed, hnot, Bool.not_true, Bool.false_eq_true, if_false, State.armCleared]

theorem ringDisarm_unarmed {i : Nat} (harmed : s.rd Rg.ringArmed i = 0) : s.ringDisarm i = s.armCleared i := by
  simp only [State.ringDisarm, on_of_zero harmed, Bool.not_false, if_true, State.armCleared]

/-! ### Batches (R102, R552) -/

theorem batchFree_noWriteNow {i : Nat} (h : ∀ x, (s.ring i).consBefore = some x → x.1 ≠ s.now) : s.batchFree i = s.ringFree i := by
  unfold State.batchFree
  split
  case h_1 t v hcons => exact if_neg (h (t, v) hcons)
  case h_2 => rfl

/-- A CONS write of the same tick does not count. -/
theorem batchFree_writeNow {i v : Nat} (h : (s.ring i).consBefore = some (s.now, v)) :
    s.batchFree i = s.slotsOf i - sub32 (s.rd Rg.ringProd i) v := by
  simp only [State.batchFree, h, if_true]

theorem deliverBatch_ready {i c : Nat} (hready : s.ringReady i = true)
    (hpick : roundRobin (s.ring i).lastCorr (s.ringCands i) = some c) :
    s.deliverBatch i =
      let t := s.takeRecs c (min 64 (s.batchFree i))
      let n0 := s.rd Rg.ringProd i
      let n1 := (n0 + t.2.length) % 2 ^ 32
      let b : Batch := { ring := i, epoch := s.rd Rg.ringEpoch i, corr := c, s0 := max 1 (s.rd Rg.gbNextSeq c),
                         n0 := n0, n1 := n1, recs := t.2 }
      (((({ t.1 with batches := kvPut t.1.batches i b } : State).modRing i (fun x =>
        { x with lastCorr := some c })).wr Rg.ringBatchOpen 1 i).jreq
          (.intent i (s.rd Rg.ringEpoch i) c (max 1 (s.rd Rg.gbNextSeq c)) t.2.length n0 n1)).gbSync c := by
  simp only [State.deliverBatch, hready, hpick, Bool.not_true, Bool.false_eq_true, if_false]

theorem deliverBatch_notReady {i : Nat} (h : s.ringReady i = false) : s.deliverBatch i = s := by
  simp only [State.deliverBatch, h, Bool.not_false, if_true]

/-- The flushing read of a batch whose last write is out and whose ring is armed and reached asks for COMPLETE. -/
theorem flushRead_completes {i : Nat} {b : Batch} (pages : List Nat) (hb : s.batch? i = some b) (hwritten : b.written = true)
    (hflushed : b.flushed = false) (hopen : b.open_ = false) (hepoch : b.epoch = s.rd Rg.ringEpoch i)
    (harmed : s.rd Rg.ringArmed i = 1) (hlink : s.rd Rg.pcieLink = 1) :
    s.flushRead i pages =
      ((s.modBatch i (fun x => { x with flushed := true })).modRing i
        (fun x => { x with fetched := pagesOf b.recs.length pages })).jreq (s.completeBody i b) := by
  simp only [State.flushRead, hb, hwritten, hflushed, hopen, hepoch, on_of_one harmed, on_of_one hlink, Bool.not_true,
    bne_self_eq_false, Bool.or_self, Bool.false_eq_true, if_false]

theorem coalesce_due {i t : Nat} (hfrom : (s.ring i).coalFrom = some t) (hcount : s.rd Rg.ringCoalCount i ≠ 0) :
    s.coalesce i = (s.reach (t + usTicks (s.rd Rg.ringCoalUs i))).ringMessage i := by
  simp only [State.coalesce, hfrom, if_neg hcount]

/-! ### The consumer index (R529) -/

theorem doRingConsWrite_granted (h : s.granted m.val (0x340018 + 0x40 * r.val) .set) (v : Word) :
    doRingConsWrite m r v s = s.consWrite r.val v.toNat := withRight_granted h _

theorem consWrite_within {i v : Nat} (h : sub32 v (s.rd Rg.ringCons i) ≤ sub32 (s.rd Rg.ringProd i) (s.rd Rg.ringCons i)) :
    s.consWrite i v = (s.consNote i).wr Rg.ringCons v i := if_pos h

theorem consWrite_beyond {i v : Nat} (h : sub32 (s.rd Rg.ringProd i) (s.rd Rg.ringCons i) < sub32 v (s.rd Rg.ringCons i)) :
    s.consWrite i v = (s.bumpSat Rg.ringConsBad i).raise 645 i 0 := if_neg (Nat.not_le.mpr h)

/-- Settles O40: each command, where it is heard and may act, has the effect that the lemmas above give for it. -/
theorem rings : Obligations.Rings := by
  refine ⟨fun m r pages s hlive hgrant => ⟨?arm, ?unfit, ?disarm⟩,
    fun r s hlive => ⟨batchFree_noWriteNow, fun v => batchFree_writeNow, ?batch, ?idle, ?flush, ?coalesce, ?cons⟩, ?all⟩
  case arm =>
    exact fun hoff hok => exec_live hlive rfl ((doRingArm_granted hgrant pages).trans (ringArm_unarmed pages hoff hok))
  case unfit => exact fun hok => exec_live hlive rfl ((doRingArm_granted hgrant pages).trans (ringArm_unfit pages hok))
  case disarm =>
    have hdo := doRingDisarm_granted hgrant
    exact ⟨fun harmed hnone => exec_live hlive rfl (hdo.trans (ringDisarm_idle harmed hnone)),
      fun harmed hsome => exec_live hlive rfl (hdo.trans (ringDisarm_batchOpen harmed hsome)),
      fun harmed => exec_live hlive rfl (hdo.trans (ringDisarm_unarmed harmed))⟩
  case batch => exact fun c hready hpick => exec_live hlive rfl (deliverBatch_ready hready hpick)
  case idle => exact fun h => exec_live hlive rfl (deliverBatch_notReady h)
  case flush =>
    exact fun b pages hb hwritten hflushed hopen hepoch harmed hlink =>
      exec_lit (lit_of_live hlive) (not_sealed_of_live hlive) rfl
        (flushRead_completes pages hb hwritten hflushed hopen hepoch harmed hlink)
  case coalesce => exact fun t hfrom hcount => exec_live hlive rfl (coalesce_due hfrom hcount)
  case cons =>
    intro m v hgrant
    have hdo := doRingConsWrite_granted hgrant v
    exact ⟨fun h => exec_live hlive rfl (hdo.trans (consWrite_within h)),
      fun h => exec_live hlive rfl (hdo.trans (consWrite_beyond h))⟩
  case all =>
    exact fun s => ⟨fun hlive => ⟨fun _ _ _ => exec_live hlive rfl rfl, fun _ _ => exec_live hlive rfl rfl,
      fun _ => exec_live hlive rfl rfl, fun _ => exec_live hlive rfl rfl, fun _ _ _ => exec_live hlive rfl rfl⟩,
      fun hlit hseal _ _ => exec_lit hlit hseal rfl rfl⟩

end Sys2Proof.Machine
end

