-- ==== Sys2Proof/Proofs/Jexnus.lean ====
section
-- Proofs are elaborated one by one, and none waits for the kernel's checks of the tests: this bounds the memory.
set_option deprecated.oldSectionVars true
/-! SUPPORT. Jexnus datagrams from outside and sessions (R535 to R548, R559). -/
namespace Sys2Proof.Machine

variable {s : State} {m : MasterId}

/-! ### Datagrams from outside -/

section Datagram

variable {p : Fin 2} {bs : List Byte} (ip udp : Nat) (hlink : s.ethLive p.val = true)
include hlink

theorem doBadDgram_bad (h : jxClassify bs = .bad) : doBadDgram p ip udp bs s = s.bumpSat Rg.ethBadDgram p.val := by
  simp only [doBadDgram, hlink, Bool.not_true, Bool.false_eq_true, if_false, State.jxUnfit, h]

theorem doBadDgram_otherVersion (h : jxClassify bs = .otherVersion) :
    doBadDgram p ip udp bs s = s.jxReject p.val ip udp (beAt bs 10 2) 5 := by
  simp only [doBadDgram, hlink, Bool.not_true, Bool.false_eq_true, if_false, State.jxUnfit, h]

theorem doJxBye_session {x : Nat} (h : jxClassify bs = .bye) (htoken : s.tokenCtx (beAt bs 4 4) = some x) :
    doJxBye p ip udp bs s = s.jxFree x (beAt bs 16 1) := by
  simp only [doJxBye, hlink, Bool.not_true, Bool.false_eq_true, if_false, h, bne_self_eq_false, htoken]

theorem doJxAck_session {x : Nat} (h : jxClassify bs = .ack) (htoken : s.tokenCtx (beAt bs 4 4) = some x) :
    doJxAck p ip udp bs s = s.jxAck x bs := by
  simp only [doJxAck, hlink, Bool.not_true, Bool.false_eq_true, if_false, h, bne_self_eq_false, htoken]

theorem doJxHello_up (h : jxClassify bs = .hello) (hup : s.domainUp 3 = true) :
    doJxHello p ip udp bs s = s.jxHello p.val ip udp bs := by
  simp only [doJxHello, hlink, Bool.not_true, Bool.false_eq_true, if_false, h, bne_self_eq_false, hup]

end Datagram

/-- An ACK beyond what was sent, or whose end lies behind its beginning, only counts. -/
theorem jxAck_bad {x : Nat} {bs : List Byte}
    (h : (seqAhead (s.hiSent (s.rd Rg.jxsCorr x)) (beAt bs 22 6) || !seqNotBehind (beAt bs 16 6) (beAt bs 22 6)) = true) :
    s.jxAck x bs = s.bumpSat Rg.jxsBadAck x := if_pos h

theorem jxHello_wrongCode {p ip udp : Nat} {bs : List Byte} (h : s.rd Rg.corrJxCode (beAt bs 10 2) ≠ beAt bs 16 4) :
    s.jxHello p ip udp bs = s.jxReject p ip udp (beAt bs 10 2) 1 :=
  if_pos (by simp only [bne_iff_ne.mpr h, Bool.or_true])

/-! ### Data -/

/-- The records of the window that are neither sent nor kept by the peer go out. -/
def State.jxWindowSent (s : State) (x : Nat) : State :=
  s.jxTransmit x ((s.jxWindowed x (s.outstanding x)).filter (fun r => !(s.jx x).has r.seq && !(s.jx x).keeps r.seq)) false

/-- What is then taken of the correspondent's records, as many as the window has room for. -/
def State.jxTaken (s : State) (x : Nat) : State × List Rec :=
  (s.jxWindowSent x).takeRecs (s.rd Rg.jxsCorr x)
    (min 64 ((s.jx x).window - seqDist (s.rd Rg.jxsAcked x) (s.hiSent (s.rd Rg.jxsCorr x))))

theorem jxData_closed {x : Nat} (h : s.jxLive x = false) : s.jxData x = s := by
  simp only [State.jxData, h, Bool.not_false, if_true]

section Data

variable {x : Nat} (hsession : s.jxLive x = true)
include hsession

/-- While records wait for their SENT entry, no more are taken. -/
theorem jxData_sending (h : (s.corr (s.rd Rg.jxsCorr x)).sending ≠ []) : s.jxData x = s.jxWindowSent x := by
  have hsome : (s.corr (s.rd Rg.jxsCorr x)).sending.isEmpty = false := by
    rw [← Bool.not_eq_true, List.isEmpty_iff]; exact h
  simp only [State.jxData, hsession, hsome, Bool.not_true, Bool.not_false, Bool.true_or, Bool.false_eq_true, if_false, if_true,
    State.jxWindowSent]

theorem jxData_takes {r : Rec} {rs : List Rec} (hsending : (s.corr (s.rd Rg.jxsCorr x)).sending = [])
    (hevict : (s.corr (s.rd Rg.jxsCorr x)).evicting = false) (hmay : s.mayTake (jxMaster x) (s.rd Rg.jxsCorr x) = true)
    (htaken : (s.jxTaken x).2 = r :: rs) :
    s.jxData x =
      (((s.jxTaken x).1.modCorr (s.rd Rg.jxsCorr x) (fun z => { z with sending := (s.jxTaken x).2 })).jreq
        (.sent (lastOf (s.jxTaken x).2).1 (s.rd Rg.jxsPort x) x (s.rd Rg.jxsCorr x) r.seq (s.jxTaken x).2.length
          (lastOf (s.jxTaken x).2).2)).gbSync (s.rd Rg.jxsCorr x) := by
  simp only [State.jxTaken, State.jxWindowSent] at htaken ⊢
  simp only [State.jxData, hsession, hsending, hevict, hmay, htaken, List.isEmpty_nil, Bool.not_true, Bool.or_self,
    Bool.false_eq_true, if_false]

end Data

/-! ### The life of a session -/

theorem jxOpen_of_state {x : Nat} (h : s.rd Rg.jxsState x = 1) : s.jxOpen x = true := by simp only [State.jxOpen, h, beq_self_eq_true]

theorem jxExpire_open {x t : Nat} (hopen : s.jxOpen x = true) (hfrom : (s.jx x).timerFrom = some t) :
    s.jxExpire x =
      let s0 := s.reach (t + (s.jx x).rto.ceil.toNat)
      let s1 := s0.jxTransmit x (s0.jxWindowed x (s0.unanswered x)) true
      (s1.modJx x (fun y => { y with rto := s1.rtoClamp (2 * y.rto), timerFrom := some s0.now })).jxShowRtt x := by
  simp only [State.jxExpire, hfrom, hopen, Bool.not_true, Bool.false_eq_true, if_false]

theorem jxBye_open {x : Nat} (reason : Nat) (hopen : s.jxOpen x = true) :
    s.jxBye x reason = (s.jxSend x 5 (beBytes 1 reason)).jxFree x reason := if_pos hopen

theorem doJxClose_granted {x : CtxId} (h : s.granted m.val (0x369000 + 0x40 * x.val) .run) : doJxClose m x s = s.jxBye x.val 2 :=
  withRight_granted h _

theorem doJxKeepalive_open {x : CtxId} (hopen : s.jxOpen x.val = true) :
    doJxKeepalive x s =
      let s0 := s.reach (max (s.jx x.val).lastRx (s.jx x.val).lastProbe + msTicks (s.rd Rg.jxKeepalive))
      (s0.jxSend x.val 6 []).modJx x.val (fun z => { z with lastProbe := s0.now }) := by
  simp only [doJxKeepalive, hopen, Bool.not_true, Bool.false_eq_true, if_false]

theorem doJxSessionTimeout_open {x : CtxId} (hopen : s.jxOpen x.val = true) :
    doJxSessionTimeout x s = (s.reach ((s.jx x.val).lastRx + msTicks (1000 * s.rd Rg.jxSessTimeout))).jxBye x.val 4 := by
  simp only [doJxSessionTimeout, hopen, Bool.not_true, Bool.false_eq_true, if_false]

/-- Settles O43: each command, where it is heard and may act, has the effect that the lemmas above give for it. -/
theorem jexnus : Obligations.Jexnus := by
  refine ⟨fun p ip udp bs s hlive hlink => ⟨?bad, ?version, ?bye, ?ack, ?hello⟩,
    fun x s hlive => ⟨?data, ?closed, fun hstate => ⟨?retransmit, ?close, ?keepalive, ?timeout⟩⟩, ?all⟩
  case bad => exact fun h => exec_live hlive rfl (doBadDgram_bad ip udp hlink h)
  case version => exact fun h => exec_live hlive rfl (doBadDgram_otherVersion ip udp hlink h)
  case bye => exact fun x h htoken => exec_live hlive rfl (doJxBye_session ip udp hlink h htoken)
  case ack =>
    intro x h htoken
    have hdo := doJxAck_session ip udp hlink h htoken
    exact ⟨exec_live hlive rfl hdo, fun hbad => exec_live hlive rfl (hdo.trans (jxAck_bad hbad))⟩
  case hello =>
    intro h hup
    have hdo := doJxHello_up ip udp hlink h hup
    exact ⟨exec_live hlive rfl hdo, fun hcode => exec_live hlive rfl (hdo.trans (jxHello_wrongCode hcode))⟩
  case data =>
    exact fun hsession => ⟨fun h => exec_live hlive rfl (jxData_sending hsession h),
      fun r rs hsending hevict hmay htaken => exec_live hlive rfl (jxData_takes hsession hsending hevict hmay htaken)⟩
  case closed => exact fun h => exec_live hlive rfl (jxData_closed h)
  case retransmit => exact fun t hfrom => exec_live hlive rfl (jxExpire_open (jxOpen_of_state hstate) hfrom)
  case close =>
    exact fun m hgrant =>
      exec_live hlive rfl ((doJxClose_granted hgrant).trans (jxBye_open 2 (jxOpen_of_state hstate)))
  case keepalive => exact exec_live hlive rfl (doJxKeepalive_open (jxOpen_of_state hstate))
  case timeout =>
    -- the timebase moves on and leaves the session's state as it was
    exact exec_live hlive rfl ((doJxSessionTimeout_open (jxOpen_of_state hstate)).trans (jxBye_open 4 (jxOpen_of_state hstate)))
  case all =>
    exact fun s hlive => ⟨fun _ _ _ _ => exec_live hlive rfl rfl, fun _ _ _ _ => exec_live hlive rfl rfl,
      fun _ _ _ _ => exec_live hlive rfl rfl, fun _ _ _ _ => exec_live hlive rfl rfl, fun _ => exec_live hlive rfl rfl,
      fun _ => exec_live hlive rfl rfl, fun _ _ => exec_live hlive rfl rfl, fun _ => exec_live hlive rfl rfl,
      fun _ => exec_live hlive rfl rfl⟩

end Sys2Proof.Machine
end

