-- ==== Sys2Proof/Proofs/StartUp.lean ====
section
-- Proofs are elaborated one by one, and none waits for the kernel's checks of the tests: this bounds the memory.
set_option deprecated.oldSectionVars true
/-! SUPPORT. Power on, the phases of the start, READY and RESET_N (R751 to R777). -/
namespace Sys2Proof.Machine

variable {s : State} {m : MasterId}

/-! ### Power -/

theorem vinValid_unpowered (h : s.boot.vin = false) : s.vinValid = s.coldBegin 0 true false := by
  simp only [State.vinValid, h, Bool.not_false, if_true]

theorem porEnd_powered (n : Nat) (hvin : s.boot.vin = true) (hpor : s.boot.por = true) (hheld : s.boot.held = false) :
    s.porEnd n =
      let t := ((s.domainsDown.wr Rg.bootMode n).wr Rg.bootPhase 1).wr Rg.pwPadHeld 31
      ({ t with now := 0, boot := { t.boot with por := false, since := 0 } } : State) := by
  simp only [State.porEnd, hvin, hpor, hheld, Bool.not_true, Bool.or_self, Bool.false_eq_true, if_false]

/-! ### The phases -/

/-- In a phase of the start, time runs. -/
theorem awake_of_inPhase {n : Nat} (h : s.inPhase n = true) : s.awake = true := by
  simp only [State.inPhase, Bool.and_eq_true] at h
  obtain ⟨⟨⟨hlit, -⟩, -⟩, hpower⟩ := h
  simp only [State.awake, hlit, hpower, Bool.and_self]

theorem dramReady_cold (hphase : s.inPhase 2 = true) (hself : s.boot.selfRefresh = false) :
    s.dramReady = { s.wr Rg.bootPhase 3 with boot := { s.boot with domainsRise := true, coldRise := true } } := by
  simp only [State.dramReady, hself, Bool.false_and, Bool.false_eq_true, if_false, hphase, if_true]

theorem imageLoaded_phase4 (n : Nat) (hphase : s.inPhase 4 = true) :
    s.imageLoaded n = { s.wr Rg.bootPhase 5 with
      boot := { s.boot with slot := (if s.boot.second then 1 - s.boot.slot else n), loaded := true } } := by
  simp only [State.imageLoaded, hphase, Bool.not_true, Bool.false_eq_true, if_false]

section ImageCheck

variable {x : ImageSeen} (hphase : s.inPhase 5 = true) (hpushed : s.boot.pushed = false) (hwarm : s.boot.warm = false)
include hphase hpushed hwarm

theorem imageChecked_passes (hcause : s.imageCause x = 0) :
    s.imageChecked x = (s.slotCause s.boot.slot 0).imageTaken s.boot.slot x := by
  simp only [State.imageChecked, hphase, hpushed, hwarm, hcause, Bool.not_true, Bool.false_and, Bool.false_eq_true, if_false,
    if_true]

/-- The other slot is tried once. -/
theorem imageChecked_fails (hcause : s.imageCause x ≠ 0) (hsecond : s.boot.second = false) :
    s.imageChecked x =
      let t := ((s.slotCause s.boot.slot (s.imageCause x)).wr Rg.bootFallback 1).raise 43 s.boot.slot (s.imageCause x)
      ({ t.wr Rg.bootPhase 4 with boot := { t.boot with second := true } } : State) := by
  simp only [State.imageChecked, hphase, hpushed, hwarm, if_neg hcause, hsecond, Bool.not_true, Bool.not_false, Bool.false_and,
    Bool.false_eq_true, if_false, if_true]

end ImageCheck

theorem doPushGo_granted (h : s.granted m.val 0xB0 .run) : doPushGo m s = s.pushGo := withRight_granted h _

/-- A test that finds nothing retires, condemns and invalidates nothing. -/
theorem testFailed_none (x : SelfTest) : s.testFailed x 0 = s := by
  simp only [State.testFailed, Nat.zero_testBit, Bool.or_self, Bool.false_eq_true, if_false]

theorem testFatal_none (x : SelfTest) : s.testFatal x 0 = false := by
  simp only [State.testFatal, Nat.zero_testBit, Bool.false_and, Bool.or_self]

theorem testDone_passes {x : SelfTest} (hphase : s.inPhase 6 = true) (hmbist : s.boot.mbist = none)
    (htested : s.boot.tested = false) (hdram : s.boot.dramOnly = false) (hfails : x.fails s.testMask = 0) :
    s.testDone x = { s.wr Rg.bootBistFail (s.rd Rg.bootBistFail) with boot := { s.boot with tested := true } } := by
  have hfull : ¬(s.wr Rg.bootBistFail (s.rd Rg.bootBistFail)).boot.dramOnly = true := Bool.eq_false_iff.mp hdram
  unfold State.testDone
  split
  case h_1 mask hmask => simp only [hmbist, reduceCtorEq] at hmask
  case h_2 =>
    simp only [hphase, htested, Bool.not_true, Bool.or_self, Bool.false_eq_true, if_false, hfails, Nat.or_zero,
      testFailed_none, testFatal_none, if_true]
    exact if_neg hfull

/-! ### READY -/

/-- READY is set and the pads that may be released are. -/
def State.readySet (s : State) : State :=
  let s1 := (s.wr Rg.bootReady 1).wr Rg.bootTimeUs ((s.now - s.boot.since) / 250)
  let s2 : State := { s1 with boot := { s1.boot with awaitBell := true, readyAt := some s.now }, acc := {} }
  s2.each (maskBits 5 s.boot.pads) State.releaseBank

/-- E0042 tells it. -/
def State.readyTold (s : State) : State := s.readySet.raise 42 (s.readySet.rd Rg.bootCause) (s.readySet.rd Rg.bootCount)

theorem readyNow_phase8 (hphase : s.inPhase 8 = true) (htorn : s.readyTold.thotor.storeTorn = false) :
    s.readyNow =
      ((s.readyTold.each [0, 1] (fun st i => ((st.wr Rg.sesState 1 i).unsolicited i
        ("!READY ".toList ++ dec (s.readySet.rd Rg.bootCount))).flowCheck i)).consoleLogin.msixReady).ringsReturn := by
  simp only [State.readyTold, State.readySet] at htorn ⊢
  simp only [State.readyNow, hphase, htorn, Bool.not_true, Bool.false_eq_true, if_false]

theorem bootHoldEnd_due {t : Nat} (hlive : s.live = true) (hready : s.boot.readyAt = some t) :
    s.bootHoldEnd =
      let u := (s.reach (t + s.bootHoldTicks)).each (List.range 6) (fun st d =>
        st.wr Rg.rollInternal (st.rd Rg.rollInternal d / 2 * 2) d)
      ({ u with boot := { u.boot with readyAt := none } } : State) := by
  simp only [State.bootHoldEnd, hready, ready_of_live hlive, Bool.not_true, Bool.false_eq_true, if_false]

/-! ### RESET_N -/

theorem resetN_unpowered (h : s.boot.vin = false ∨ s.rd Rg.supplyVioHOk = 0) : s.resetN = s := by
  refine if_pos ?_
  obtain h | h := h
  · simp only [h, Bool.not_false, Bool.true_or]
  · simp only [on_of_zero h, Bool.not_false, Bool.or_true]

section ResetN

variable (hvin : s.boot.vin = true) (hheld : s.boot.held = false) (hvio : s.rd Rg.supplyVioHOk = 1)
include hvin hheld hvio

theorem resetN_ready (hpower : s.powerFail = .off) (hpor : s.boot.por = false) (hready : s.rd Rg.bootReady = 1) :
    s.resetN =
      let t := s.warmEntry 1
      ({ t with boot := { t.boot with held := true } } : State) := by
  simp only [State.resetN, hvin, hheld, on_of_one hvio, hpower, hpor, on_of_one hready, Bool.not_true, Bool.or_self,
    Bool.false_eq_true, if_false, if_true]

theorem resetN_sealed (hpower : s.powerFail = .sealed) :
    s.resetN = s.coldBegin (if s.power.tripTold then 1 else 4) true true := by
  simp only [State.resetN, hvin, hheld, on_of_one hvio, hpower, Bool.not_true, Bool.or_self, Bool.false_eq_true, if_false]

theorem resetN_draining (hpower : s.powerFail = .draining) : s.resetN = s := by
  simp only [State.resetN, hvin, hheld, on_of_one hvio, hpower, Bool.not_true, Bool.or_self, Bool.false_eq_true, if_false]

end ResetN

/-- Settles O44: each command, where it is heard and may act, has the effect that the lemmas above give for it. -/
theorem startUp : Obligations.StartUp := by
  refine ⟨fun s => ⟨?vin, exec_dark rfl rfl, ?por⟩, fun s => ⟨?header, ?dram, ?load, ?check, ?push, ?test⟩,
    fun s => ⟨?ready, ?hold⟩, fun s => ⟨?resetN, ?noReset, exec_dark rfl rfl⟩, ?all⟩
  case vin => exact fun h => exec_dark rfl (vinValid_unpowered h)
  case por => exact fun n hvin hpor hheld => exec_dark rfl (porEnd_powered n.val hvin hpor hheld)
  case header => exact fun h => exec_awake (awake_of_inPhase h) rfl (if_pos h)
  case dram => exact fun h hself => exec_awake (awake_of_inPhase h) rfl (dramReady_cold h hself)
  case load => exact fun p h => exec_awake (awake_of_inPhase h) rfl (imageLoaded_phase4 p.val h)
  case check =>
    exact fun x h hpushed hwarm =>
      ⟨fun hcause => exec_awake (awake_of_inPhase h) rfl (imageChecked_passes h hpushed hwarm hcause),
        fun hcause hsecond => exec_awake (awake_of_inPhase h) rfl (imageChecked_fails h hpushed hwarm hcause hsecond)⟩
  case push =>
    exact fun m h hgrant => exec_awake (awake_of_inPhase h) rfl ((doPushGo_granted hgrant).trans (if_pos h))
  case test =>
    exact fun x h hmbist htested hdram hfails =>
      exec_awake (awake_of_inPhase h) rfl (testDone_passes h hmbist htested hdram hfails)
  case ready =>
    intro h _ s1 s2 s3 s4 htorn
    exact exec_awake (awake_of_inPhase h) rfl (readyNow_phase8 h htorn)
  case hold => exact fun t hlive hready => exec_awake (awake_of_live hlive) rfl (bootHoldEnd_due hlive hready)
  case resetN =>
    exact fun hvin hheld hvio =>
      ⟨fun hpower hpor hready => exec_dark rfl (resetN_ready hvin hheld hvio hpower hpor hready),
        fun hpower => exec_dark rfl (resetN_sealed hvin hheld hvio hpower),
        fun hpower => exec_dark rfl (resetN_draining hvin hheld hvio hpower)⟩
  case noReset => exact fun h => exec_dark rfl (resetN_unpowered h)
  case all =>
    exact fun s => ⟨fun hawake => ⟨exec_awake hawake rfl rfl, exec_awake hawake rfl rfl, fun _ => exec_awake hawake rfl rfl,
      fun _ => exec_awake hawake rfl rfl, fun _ => exec_awake hawake rfl rfl, fun _ => exec_awake hawake rfl rfl,
      exec_awake hawake rfl rfl, exec_awake hawake rfl rfl⟩,
      exec_dark rfl rfl, exec_dark rfl rfl, fun _ => exec_dark rfl rfl, exec_dark rfl rfl, exec_dark rfl rfl⟩

end Sys2Proof.Machine
end

