-- ==== Sys2Proof/Proofs/Rolls.lean ====
section
-- Proofs are elaborated one by one, and none waits for the kernel's checks of the tests: this bounds the memory.
set_option deprecated.oldSectionVars true
/-! SUPPORT. Votes, Temper requests and the rolls of domains (R673 to R677, R683 to R685, R693). -/
namespace Sys2Proof.Machine

variable {s : State} {m : MasterId}

/-! ### Votes and requests -/

section Tenant

variable {t : Nat} (htenant : s.tenantOf m.val = some t)
include htenant

theorem doVoteUp_granted (hgrant : s.granted m.val 0x50000 .run) (k : BitVec 6) : doVoteUp m k s = s.voteUp t k.toNat := by
  obtain ⟨hgate, hrun⟩ := hgrant
  refine (guardWrite_pass hgate (by rw [hrun, Bool.or_true]) (fun st => st.voteUp ((st.tenantOf m.val).getD 0) k.toNat)).trans ?_
  simp only [htenant, Option.getD_some]

theorem doVoteDown_granted (hgrant : s.granted m.val 0x50004 .run) (k : BitVec 6) :
    doVoteDown m k s = s.voteDown t k.toNat := by
  obtain ⟨hgate, hrun⟩ := hgrant
  refine (guardWrite_pass hgate (by rw [hrun, Bool.or_true]) (fun st => st.voteDown ((st.tenantOf m.val).getD 0) k.toNat)).trans ?_
  simp only [htenant, Option.getD_some]

theorem doTemperRequest_granted (hgrant : s.granted m.val 0x50008 .set) (v : Fin 16) :
    doTemperRequest m v s = s.temperRequest t v.val := by
  refine (withRight_granted hgrant (fun st => st.temperRequest ((st.tenantOf m.val).getD 0) v.val)).trans ?_
  simp only [htenant, Option.getD_some]

end Tenant

theorem temperRequest_legal {t v : Nat} (h : temperOk v = true) :
    s.temperRequest t v = (s.wr Rg.pwTemperReqT v t).temperRefresh := if_pos h

theorem temperRequest_illegal {t v : Nat} (h : temperOk v = false) : s.temperRequest t v = s :=
  if_neg (by simp only [h, Bool.false_eq_true, not_false_eq_true])

/-! ### Domains -/

theorem quiesce_dropping {d : Nat} (hstate : s.rd Rg.rollState d = 1) (hquiet : s.quiesced d = true) : s.quiesce d = s.saving d :=
  if_pos ⟨hstate, hquiet⟩

theorem quiesce_other {d : Nat} (h : s.rd Rg.rollState d ≠ 1) : s.quiesce d = s := if_neg (fun hboth => h hboth.1)

theorem resetting_false {d : Nat} (h : d ∉ s.power.resetting) : s.power.resetting.contains d = false := by
  rw [← Bool.not_eq_true, List.contains_iff_mem]; exact h

theorem saveDone_saved {d : Nat} (hstate : s.rd Rg.rollState d = 2) (hreset : d ∉ s.power.resetting) :
    s.saveDone d =
      ((s.each (unitsOf d) (fun st u => (st.bumpEpoch u).setUnit u 2)).wr Rg.rollState 3 d).raise d d 0 := by
  simp only [State.saveDone, hstate, bne_self_eq_false, resetting_false hreset, Bool.false_eq_true, if_false]

/-- Outside a domain reset and a cold start no pads are released by hardware. -/
theorem riseDone_plain {d : Nat} (ok : Bool) (hstate : s.rd Rg.rollState d = 4) (hreset : d ∉ s.power.resetting)
    (hcold : s.boot.coldRise = false) :
    s.riseDone d ok =
      let u := ((((s.restore d ok).wr Rg.rollState 0 d).raise (8 + d) d 0).each (unitsOf d) State.unitRisen).domainBegins d
      ({ u with power := { u.power with resetting := u.power.resetting.filter (fun x => x != d) } } : State) := by
  have hnone : maskBits 5 0 = [] := by decide
  simp only [State.riseDone, hstate, bne_self_eq_false, resetting_false hreset, hcold, Bool.false_and, Bool.false_eq_true, if_false,
    hnone, each_nil]

/-! ### Pads (R685) -/

theorem doPadRelease_granted (hgrant : s.granted m.val 0x50024 .run) (k : BitVec 5) :
    doPadRelease m k s = s.each (maskBits 5 k.toNat) State.releaseBank := by
  obtain ⟨hgate, hrun⟩ := hgrant
  exact guardWrite_pass hgate (by rw [hrun, Bool.or_true]) (fun st => st.each (maskBits 5 k.toNat) State.releaseBank)

/-- Settles O45: each command, where it is heard and may act, has the effect that the lemmas above give for it. -/
theorem rolls : Obligations.Rolls := by
  refine ⟨fun m t s hlive htenant => ⟨?up, ?down, ?temper⟩, fun d s hlive => ⟨?quiet, ?other, ?saved, ?rise, ?pads⟩, ?all⟩
  case up => exact fun k hgrant => exec_awake (awake_of_live hlive) rfl (doVoteUp_granted htenant hgrant k)
  case down => exact fun k hgrant => exec_awake (awake_of_live hlive) rfl (doVoteDown_granted htenant hgrant k)
  case temper =>
    intro v hgrant
    have hdo := doTemperRequest_granted htenant hgrant v
    exact ⟨fun h => exec_awake (awake_of_live hlive) rfl (hdo.trans (temperRequest_legal h)),
      fun h => exec_awake (awake_of_live hlive) rfl (hdo.trans (temperRequest_illegal h))⟩
  case quiet => exact fun hstate hquiet => exec_awake (awake_of_live hlive) rfl (quiesce_dropping hstate hquiet)
  case other => exact fun h => exec_awake (awake_of_live hlive) rfl (quiesce_other h)
  case saved => exact fun hstate hreset => exec_awake (awake_of_live hlive) rfl (saveDone_saved hstate hreset)
  case rise =>
    exact fun ok hstate hreset hcold => exec_awake (awake_of_live hlive) rfl (riseDone_plain ok hstate hreset hcold)
  case pads => exact fun m k hgrant => exec_awake (awake_of_live hlive) rfl (doPadRelease_granted hgrant k)
  case all =>
    exact fun s hawake => ⟨fun _ _ => exec_awake hawake rfl rfl, fun _ _ => exec_awake hawake rfl rfl,
      fun _ _ => exec_awake hawake rfl rfl, fun _ => exec_awake hawake rfl rfl, fun _ => exec_awake hawake rfl rfl,
      fun _ _ => exec_awake hawake rfl rfl, fun _ _ => exec_awake hawake rfl rfl⟩

end Sys2Proof.Machine
end

