-- ==== Sys2Proof/Proofs/Resets.lean ====
section
-- Proofs are elaborated one by one, and none waits for the kernel's checks of the tests: this bounds the memory.
set_option deprecated.oldSectionVars true
/-! SUPPORT. Domain, block and unit resets, memory errors, and faults of an Anvil (R729 to R734, R743). -/
namespace Sys2Proof.Machine

variable {s : State} {m : MasterId}

/-! ### Domain resets (R733) -/

theorem doDomainReset_owned {d : DomainId} (hgate : s.gateAt 0x47004 = .pass) (howns : s.ownsPower m.val = true) :
    doDomainReset m d s = s.domainReset d.val := guardWrite_pass hgate howns (fun st => st.domainReset d.val)

theorem domainReset_up {d : Nat} (hup : s.domainUp d = true) :
    s.domainReset d =
      let t := ((s.raise 32 d 0).each (unitsOf d) State.resetFence).domainRetry d
      State.saving { t with power := { t.power with
        resetting := d :: t.power.resetting.filter (fun x => x != d),
        release := (t.power.release &&& (31 - banksOf d)) ||| (banksOf d - (t.rd Rg.pwPadHeld &&& banksOf d)) } } d := by
  simp only [State.domainReset, hup, Bool.not_true, Bool.false_and, Bool.false_eq_true, if_false]

theorem domainReset_notUp {d : Nat} (hup : s.domainUp d = false) (hdropped : s.droppedNow d = false) : s.domainReset d = s := by
  simp only [State.domainReset, hup, hdropped, Bool.not_false, Bool.and_self, if_true]

theorem doPerst_up (hup : s.domainUp 3 = true) : doPerst s = (s.domainReset 3).raise 46 3 0 := by
  simp only [doPerst, hup, Bool.true_or, if_true]

theorem doPerst_notUp (hup : s.domainUp 3 = false) (hdropped : s.droppedNow 3 = false) : doPerst s = s := by
  simp only [doPerst, hup, hdropped, Bool.or_self, Bool.false_eq_true, if_false]

/-! ### Block resets and watchdogs (R730, R734) -/

theorem doBlockReset_owned {b : Block} (hgate : s.gateAt b.addr = .pass) (howns : s.ownsBlock m.val b = true) :
    doBlockReset m b s = s.blockReset b := guardWrite_pass hgate howns (fun st => st.blockReset b)

theorem blockReset_ring (r : Fin 256) (hserves : s.domainServes 3 = true) : s.blockReset (.ring r) = s.ringReset r.val :=
  if_pos hserves

theorem unitWatchdog_serves {u d : Nat} (hu : 8 ≤ u) (hdomain : domainOfUnit u = some d) (hserves : s.domainServes d = true) :
    s.unitWatchdog u = ((s.bumpSat Rg.unitFaults u).raise 34 u 0).unitReset u := by
  simp only [State.unitWatchdog, hdomain, Nat.not_lt.mpr hu, decide_false, hserves, Bool.not_true, Bool.or_self,
    Bool.false_eq_true, if_false]

/-! ### Memory errors (R731) -/

/-- An error on a page that is still in use retires it. -/
theorem dramUncorrectable_retires {page : Nat} (hit : DramHit) (harmed : (s.takeArmed 40 page).1 = s)
    (hnew : s.power.retired.contains page = false) :
    s.dramUncorrectable page hit =
      let t := (s.bumpSat Rg.dramUe).raise 40 page 0
      State.dramHit { t.wr Rg.dramRetired (t.power.retired.length + 1) with power :=
        { t.power with retired := page :: t.power.retired } } hit := by
  simp only [State.dramUncorrectable, harmed, hnew, Bool.false_eq_true, if_false]

/-! ### Anvils (R729) -/

theorem anvilFault_usable {a : Nat} (cause : Nat) (h : s.anvilUsable a = true) :
    s.anvilFault a cause =
      let times := s.now :: s.recent (s.anvil a).faultTimes
      (((((s.setUnit a 1).bumpSat Rg.unitFaults a).bumpEpoch a).modAnvil a
        (fun x => { x with faultTimes := times, testing := !decide (3 ≤ times.length),
                           condemned := decide (3 ≤ times.length) })).raise (512 + a) a cause).anvilsLost [a] := by
  simp only [State.anvilFault, h, Bool.not_true, Bool.false_and, Bool.false_eq_true, if_false]

section AnvilTest

variable {a : Nat} (htest : (s.anvil a).testing = true) (hserves : s.domainServes (anvilDomain a) = true)
include htest hserves

theorem anvilTested_passes :
    s.anvilTested a true = (s.modAnvil a (fun x => { x with testing := false, condemned := false })).anvilService a := by
  simp only [State.anvilTested, htest, hserves, Bool.not_true, Bool.or_self, Bool.false_eq_true, if_false, if_true]

theorem anvilTested_fails : s.anvilTested a false = s.modAnvil a (fun x => { x with testing := false, condemned := true }) := by
  simp only [State.anvilTested, htest, hserves, Bool.not_true, Bool.not_false, Bool.or_self, Bool.false_eq_true, if_false]

end AnvilTest

/-- Settles O48: each command, where it is heard and may act, has the effect that the lemmas above give for it. -/
theorem resets : Obligations.Resets := by
  refine ⟨fun s hlive => ⟨?domain, ?perst, ?noPerst⟩, fun s hlive => ⟨?block, ?watchdog, exec_awake (awake_of_live hlive) rfl rfl,
    ?dram⟩, ?all⟩
  case domain =>
    intro m d hgate howns
    have hdo := doDomainReset_owned (d := d) hgate howns
    exact ⟨fun hup => exec_awake (awake_of_live hlive) rfl (hdo.trans (domainReset_up hup)),
      fun hup hdropped => exec_awake (awake_of_live hlive) rfl (hdo.trans (domainReset_notUp hup hdropped))⟩
  case perst => exact fun hup => exec_awake (awake_of_live hlive) rfl (doPerst_up hup)
  case noPerst => exact fun hup hdropped => exec_awake (awake_of_live hlive) rfl (doPerst_notUp hup hdropped)
  case block =>
    intro m b hgate howns
    have hdo := doBlockReset_owned hgate howns
    refine ⟨?_, ?_, ?_⟩
    · rintro u rfl
      exact exec_awake (awake_of_live hlive) rfl hdo
    · rintro r rfl hserves
      exact exec_awake (awake_of_live hlive) rfl (hdo.trans (blockReset_ring r hserves))
    · rintro n rfl
      exact exec_awake (awake_of_live hlive) rfl hdo
  case watchdog =>
    exact fun u d hu hdomain hserves => exec_awake (awake_of_live hlive) rfl (unitWatchdog_serves hu hdomain hserves)
  case dram => exact fun p hit harmed hnew => exec_awake (awake_of_live hlive) rfl (dramUncorrectable_retires hit harmed hnew)
  case all =>
    exact fun s hawake => ⟨fun _ _ => exec_awake hawake rfl rfl, exec_awake hawake rfl rfl,
      fun _ _ => exec_awake hawake rfl rfl, fun _ => exec_awake hawake rfl rfl, exec_awake hawake rfl rfl,
      fun _ _ => exec_awake hawake rfl rfl⟩

/-- Settles O49: a fault of an Anvil in service is `anvilFault_usable`; its test ends as `anvilTested_passes` and
`anvilTested_fails` say. -/
theorem anvilFaults : Obligations.AnvilFaults := by
  refine ⟨fun a s hlive => ⟨?fault, ?test⟩, fun s hawake => ⟨fun _ _ => exec_awake hawake rfl rfl,
    fun _ _ => exec_awake hawake rfl rfl⟩⟩
  case fault => exact fun c h => exec_awake (awake_of_live hlive) rfl (anvilFault_usable (c.val + 1) h)
  case test =>
    exact fun htest hserves => ⟨exec_awake (awake_of_live hlive) rfl (anvilTested_passes htest hserves),
      exec_awake (awake_of_live hlive) rfl (anvilTested_fails htest hserves)⟩

end Sys2Proof.Machine
end

