-- ==== Sys2Proof/Proofs/Update.lean ====
section
-- Proofs are elaborated one by one, and none waits for the kernel's checks of the tests: this bounds the memory.
set_option deprecated.oldSectionVars true
/-! SUPPORT. The Registrar update (R732, R737 to R739). -/
namespace Sys2Proof.Machine

variable {s : State} {m : MasterId}

/-! ### The check of an image -/

theorem doFwStart_proctor (hgate : s.gateAt 0x80 = .pass) (hproctor : s.isProctor m.val = true) : doFwStart m s = s.fwStart :=
  guardWrite_proctor ⟨hgate, hproctor⟩ _

theorem fwStart_idle (hcheck : s.fw.checking = false) (hstate : s.rd Rg.fwState = 0) :
    s.fwStart = { s with fw := { s.fw with checking := true } } :=
  if_neg (by simp only [hcheck, hstate, bne_self_eq_false, Bool.or_self, Bool.false_eq_true, not_false_eq_true])

/-- The check has ended, and the version of the image is noted. -/
def State.fwSeen (s : State) (x : ImageSeen) : State := { s with fw := { s.fw with checking := false, next := x.version.toNat } }

theorem fwChecked_passes {x : ImageSeen} (hcheck : s.fw.checking = true) (hcause : s.imageCause x = 0) :
    s.fwChecked x = (s.fwSeen x).wr Rg.fwState 1 := by
  unfold State.fwChecked
  rw [if_neg (by rw [hcheck]; decide), if_pos hcause, State.fwSeen]

theorem fwChecked_fails {x : ImageSeen} (hcheck : s.fw.checking = true) (hcause : s.imageCause x ≠ 0) :
    s.fwChecked x = ((s.fwSeen x).wr Rg.fwResult 2).raise 38 24 2 := by
  unfold State.fwChecked
  rw [if_neg (by rw [hcheck]; decide), if_neg hcause, State.fwSeen]

/-! ### The restart -/

theorem fwBegin_quietBell (hstate : s.rd Rg.fwState = 1) (hbell : s.now = s.lastBell) (hquiet : s.fwQuiet = true) :
    s.fwBegin = (s.raise 36 24 0).registrarRestart .update := if_pos ⟨hstate, hbell, hquiet⟩

section Running

variable (hrun : s.fw.running = true) (hcause : s.fw.cause = .update)
include hrun hcause

/-- The new firmware takes over: RESULT is 0, and the version that ran before is kept for a while. -/
theorem fwReady_update :
    s.fwReady =
      let f : FwSt := { s.fw with running := false, resumeNext := true, prev := some (s.rd Rg.bootVersion),
                                  readyAt := some s.now }
      (State.setUnit { (({ s with fw := { s.fw with running := false, resumeNext := true } } : State).wr
        Rg.fwResult 0).wr Rg.bootVersion s.fw.next with fw := f } 24 0).fitness := by
  have hupdate : (s.fw.cause == .update) = true := by rw [hcause]; rfl
  simp only [State.fwReady, hrun, hupdate, Bool.not_true, Bool.false_eq_true, if_false, if_true]

theorem fwTimeout_update : s.fwTimeout = (s.reach (s.fw.since + msTicks 50)).fwRevert :=
  if_pos (by rw [hrun, hcause]; rfl)

end Running

/-! ### The Registrar's watchdog -/

section Watchdog

variable (hidle : s.fw.running = false)
include hidle

theorem registrarWatchdog_fresh (hfresh : (s.raise 39 24 0).fwFresh = true) :
    s.registrarWatchdog = (s.raise 39 24 0).fwRevert := by
  simp only [State.registrarWatchdog, hidle, Bool.false_eq_true, if_false, hfresh, if_true]

theorem registrarWatchdog_older (hfresh : (s.raise 39 24 0).fwFresh = false) :
    s.registrarWatchdog = ((s.raise 39 24 0).raise 36 24 0).registrarRestart .watchdog := by
  simp only [State.registrarWatchdog, hidle, Bool.false_eq_true, if_false, hfresh]

end Watchdog

/-- Settles O50: each command, where it is heard and may act, has the effect that the lemmas above give for it. -/
theorem update : Obligations.Update := by
  refine ⟨fun s hlive => ⟨?start, ?check, ?begin, ?running, ?watchdog⟩, ?all⟩
  case start =>
    exact fun m hgate hproctor hcheck hstate =>
      exec_awake (awake_of_live hlive) rfl ((doFwStart_proctor hgate hproctor).trans (fwStart_idle hcheck hstate))
  case check =>
    exact fun x hcheck => ⟨fun hcause => exec_awake (awake_of_live hlive) rfl (fwChecked_passes hcheck hcause),
      fun hcause => exec_awake (awake_of_live hlive) rfl (fwChecked_fails hcheck hcause)⟩
  case begin =>
    exact fun hstate hbell hquiet => exec_awake (awake_of_live hlive) rfl (fwBegin_quietBell hstate hbell hquiet)
  case running =>
    exact fun hrun hcause => ⟨exec_awake (awake_of_live hlive) rfl (fwReady_update hrun hcause),
      exec_awake (awake_of_live hlive) rfl (fwTimeout_update hrun hcause)⟩
  case watchdog =>
    exact fun hidle => ⟨fun hfresh => exec_awake (awake_of_live hlive) rfl (registrarWatchdog_fresh hidle hfresh),
      fun hfresh => exec_awake (awake_of_live hlive) rfl (registrarWatchdog_older hidle hfresh)⟩
  case all =>
    exact fun s hawake => ⟨fun _ => exec_awake hawake rfl rfl, fun _ => exec_awake hawake rfl rfl, exec_awake hawake rfl rfl,
      exec_awake hawake rfl rfl, exec_awake hawake rfl rfl, exec_awake hawake rfl rfl⟩

end Sys2Proof.Machine
end

