-- ==== Sys2Proof/Proofs/TestAndInjection.lean ====
section
-- Proofs are elaborated and checked one by one: this bounds the memory.
set_option Elab.async false
/-! SUPPORT. Test holds, JTAG and injection (R722 to R725, R773 to R777). -/
namespace Sys2Proof.Machine

variable {s : State} {m : MasterId}

/-! ### Test -/

theorem doTestHold_proctor (hgate : s.gateAt 0x420100 = .pass) (hproctor : s.isProctor m.val = true) (v : Bool) :
    doTestHold m v s = s.testHoldWrite (b2n v) := guardWrite_proctor ⟨hgate, hproctor⟩ _

theorem testHoldWrite_changes {v : Nat} (h : s.rd Rg.testHold ≠ v) :
    s.testHoldWrite v = ((s.wr Rg.testHold v).raise 996 v 0).testVote := if_neg h

theorem testHoldWrite_same {v : Nat} (h : s.rd Rg.testHold = v) : s.testHoldWrite v = s := if_pos h

theorem mbistBegin_idle (mask : Nat) (h : s.boot.mbist = none) :
    s.mbistBegin mask = { s with boot := { s.boot with mbist := some mask } } :=
  if_neg (by rw [h]; decide)

theorem doMbistRun_enabled (hgate : s.gateAt 0x420110 = .pass) (hproctor : s.isProctor m.val = true) (hen : s.rd Rg.injEn = 1) :
    doMbistRun m s = s.mbistBegin s.mbistMask :=
  (guardWrite_proctor ⟨hgate, hproctor⟩ _).trans (if_pos (on_of_one hen))

theorem doConsoleAutoWrite_granted (h : s.granted m.val Rg.thConsoleAuto.base .set) (v : Bool) :
    doConsoleAutoWrite m v s = s.consoleAutoWrite (b2n v) := withRight_granted h _

/-! ### JTAG -/

/-- Outside the test mode its instructions are refused. -/
theorem jtagLoad_refused {code : Nat} (honly : jtagTestOnly code = true) (hmode : s.testMode = false) :
    s.jtagLoad code = (State.wr { s with jtag := { s.jtag with ir := 0xFF } } Rg.testJtagRefused 1).raise 995 code 0 :=
  if_pos (by rw [honly, hmode]; rfl)

theorem jtagLoad_open {code : Nat} (honly : jtagTestOnly code = false) :
    s.jtagLoad code = { s with jtag := { s.jtag with ir := if jtagKnown code then code else 0xFF } } :=
  if_neg (by rw [honly, Bool.false_and]; exact Bool.false_ne_true)

theorem doJtagMbist_testMode (hir : s.jtag.ir = 0x21) (hmode : s.testMode = true) : doJtagMbist s = s.mbistBegin 0x3F :=
  if_pos ⟨hir, hmode⟩

/-! ### Injection -/

theorem doInject_granted {src : Fin 1024} (h : s.granted m.val 0x420000 .run) (x y : Word) :
    doInject m src x y s = (s.inject src.val x.toNat y.toNat).1 := withRight_granted h _

theorem inject_closed {src : Nat} (a0 a1 : Nat) (h : s.injectOpen src = false) : (s.inject src a0 a1).1 = s := by
  simp only [State.inject, h, Bool.not_false, if_true]

/-- In event mode the event is raised as it is given. -/
theorem inject_eventMode {src a0 : Nat} (a1 : Nat) (hopen : s.injectOpen src = true) (hdomain : detectorDomain src a0 = none)
    (hfull : s.rd Rg.injFull = 0) :
    (s.inject src a0 a1).1 =
      (((((s.wr Rg.injLastMode 0).wr Rg.injLastEvent src).bump Rg.injCount).raise 1008 src 0).markInjected src).raiseAsIs src
        a0 a1 := by
  simp only [State.inject, hopen, hdomain, on_of_zero hfull, Bool.not_true, Bool.not_false, Bool.false_eq_true, if_false, if_true,
    b2n]

/-- Settles O52: each command, where it is heard and may act, has the effect that the lemmas above give for it. -/
theorem testAndInjection : Obligations.TestAndInjection := by
  refine ⟨fun m s hlive => ⟨?hold, ?mbist, ?prbs, exec_dark rfl rfl, exec_dark rfl rfl,
      fun hi => ⟨exec_dark rfl rfl, exec_dark rfl rfl⟩, ?console⟩,
    fun s => ⟨fun c => ⟨?refused, ?loaded⟩, exec_dark rfl rfl, ?jtagMbist⟩,
    fun m src x y s hlive hgrant => ⟨?closed, ?injected⟩, ?all⟩
  case hold =>
    intro v hgate hproctor
    have hdo := doTestHold_proctor hgate hproctor v
    exact ⟨fun h => exec_awake (awake_of_live hlive) rfl (hdo.trans (testHoldWrite_changes h)),
      fun h => exec_awake (awake_of_live hlive) rfl (hdo.trans (testHoldWrite_same h))⟩
  case mbist =>
    exact fun hgate hproctor hen hidle =>
      exec_awake (awake_of_live hlive) rfl ((doMbistRun_enabled hgate hproctor hen).trans (mbistBegin_idle _ hidle))
  case prbs => exact fun l h => exec_live hlive rfl (if_pos h)
  case console => exact fun v hgrant => exec_awake (awake_of_live hlive) rfl (doConsoleAutoWrite_granted hgrant v)
  case refused => exact fun honly hmode => exec_dark rfl (jtagLoad_refused honly hmode)
  case loaded => exact fun honly => exec_dark rfl (jtagLoad_open honly)
  case jtagMbist =>
    exact fun hawake hir hmode hidle =>
      exec_awake hawake rfl ((doJtagMbist_testMode hir hmode).trans (mbistBegin_idle _ hidle))
  case closed =>
    exact fun h => exec_awake (awake_of_live hlive) rfl ((doInject_granted hgrant x y).trans (inject_closed _ _ h))
  case injected =>
    exact fun hopen hdomain hfull =>
      exec_awake (awake_of_live hlive) rfl ((doInject_granted hgrant x y).trans (inject_eventMode _ hopen hdomain hfull))
  case all =>
    exact fun s => ⟨fun hlive _ => exec_live hlive rfl rfl,
      fun hawake => ⟨fun _ _ => exec_awake hawake rfl rfl, fun _ => exec_awake hawake rfl rfl,
        fun _ _ => exec_awake hawake rfl rfl, exec_awake hawake rfl rfl, fun _ _ _ _ => exec_awake hawake rfl rfl⟩,
      fun _ => exec_dark rfl rfl, fun _ _ => exec_dark rfl rfl, fun _ => exec_dark rfl rfl, exec_dark rfl rfl⟩

end Sys2Proof.Machine
end

