-- ==== Sys2Proof/Proofs/SessionLinks.lean ====
section
-- Proofs are elaborated and checked one by one: this bounds the memory.
set_option Elab.async false
/-! SUPPORT. Sessions that open and close, and serial lines (R564 to R570, R594, R596, R604, R792). -/
namespace Sys2Proof.Machine

variable {s : State} {m : MasterId}

/-! ### TCP sessions (R564) -/

section Connect

variable {p : Nat} (ip port : Nat) (hready : s.on Rg.bootReady = true) (hen : (s.rd Rg.thTcpEn).testBit p = true)
  (hup : s.domainUp 3 = true) (hlink : s.ethLive p = true)
include hready hen hup hlink

theorem tcpConnect_opens {n : Nat} (hfree : s.freeSession = some n) :
    s.tcpConnect p ip port =
      (((((((s.wr Rg.sesState 1 n).wr Rg.sesMode 0 n).wr Rg.sesEcho 0 n).wr Rg.sesPeerIp ip n).wr Rg.sesPeerPortEth p n).wr
        Rg.sesPeerTcp port n).modSes n (fun y => { gone := y.gone, lockUntil := y.lockUntil, lastLine := s.now })).raise
          768 n 0 := by
  simp only [State.tcpConnect, hready, hen, hup, hlink, Bool.not_true, Bool.or_self, Bool.false_eq_true, if_false, hfree]

theorem tcpConnect_turnedAway (hfree : s.freeSession = none) :
    s.tcpConnect p ip port = { s with thotor := { s.thotor with
      turnedAway := (p, ip, port, tx "err 405 NO_SESSION" ++ crlf) :: s.thotor.turnedAway } } := by
  simp only [State.tcpConnect, hready, hen, hup, hlink, Bool.not_true, Bool.or_self, Bool.false_eq_true, if_false, hfree]

end Connect

theorem tcpFree_open {n : Nat} (htcp : isUart n = false) (hopen : s.sesOpen n = true) :
    s.tcpFree n =
      let t := (((s.logoutPlain n).cciForget n).storeLoosen n).baudApply n
      let u := (((t.wr Rg.sesState 0 n).wr Rg.sesMode 0 n).wr Rg.sesEcho 0 n).wr Rg.sesPeerIp 0 n
      (((u.wr Rg.sesPeerPortEth 0 n).wr Rg.sesPeerTcp 0 n).modSes n (fun y =>
        { gone := y.gone, lockUntil := y.lockUntil })).raise 769 n ((s.tenantOf (sesMaster n)).getD 0) := by
  simp only [State.tcpFree, htcp, hopen, Bool.not_true, Bool.or_self, Bool.false_eq_true, if_false]

theorem sesClose_tcp {n : Nat} (htcp : isUart n = false) : s.sesClose n = s.tcpFree n := by
  simp only [State.sesClose, htcp, Bool.false_eq_true, if_false]

theorem doSessionClose_granted {n : SessionId} (h : s.granted m.val (0x380000 + 0x40 * n.val) .run) :
    doSessionClose m n s = s.sesClose n.val := withRight_granted h _

theorem idleOut_due {n : Nat} (hidle : s.rd Rg.sesIdleS n ≠ 0) (hopen : s.sesOpen n = true) :
    s.idleOut n =
      let t := s.reach ((s.ses n).lastLine + msTicks (1000 * s.rd Rg.sesIdleS n))
      (t.modSes n (fun y => { y with lastLine := t.now })).sesClose n := by
  simp only [State.idleOut, hidle, decide_false, hopen, Bool.not_true, Bool.or_self, Bool.false_eq_true, if_false]

theorem loginUnlock_due {n t : Nat} (h : (s.ses n).lockUntil = some t) :
    s.loginUnlock n = (s.reach t).modSes n (fun y => { y with lockUntil := none }) := by
  simp only [State.loginUnlock, h]

/-! ### Serial lines (R570, R596, R792) -/

theorem doXonXoff_used {n : SessionId} (xon : Bool) (h : s.flowOf n.val = 2) :
    doXonXoff n xon s = s.modSes n.val (fun y => { y with stopped := !xon }) := if_pos h

theorem doXonXoff_unused {n : SessionId} (xon : Bool) (h : s.flowOf n.val ≠ 2) : doXonXoff n xon s = s := if_neg h

section Supply

variable (n : Fin 2)

theorem doBreak_supplied (h : s.rd Rg.supplyVioHOk = 1) : doBreak n s = s.serialBreak n.val := if_pos (on_of_one h)

theorem doWakePattern_supplied (h : s.rd Rg.supplyVioHOk = 1) : doWakePattern n s = s.wakePattern n.val := if_pos (on_of_one h)

theorem doBreak_outOfRange (h : s.rd Rg.supplyVioHOk = 0) : doBreak n s = s := if_neg (by rw [on_of_zero h]; decide)

theorem doWakePattern_outOfRange (h : s.rd Rg.supplyVioHOk = 0) : doWakePattern n s = s :=
  if_neg (by rw [on_of_zero h]; decide)

end Supply

/-- Settles O54: each command, where it is heard and may act, has the effect that the lemmas above give for it. -/
theorem sessionLinks : Obligations.SessionLinks := by
  refine ⟨fun s hlive => ⟨?connect, ?close, ?idle, ?lock⟩, fun s hlive => ⟨?flow, ?cts, ?wake, ?dark⟩, ?all⟩
  case connect =>
    exact fun p ip port hen hup hlink =>
      ⟨fun n hfree => exec_live hlive rfl (tcpConnect_opens _ _ (ready_of_live hlive) hen hup hlink hfree),
        fun hfree => exec_live hlive rfl (tcpConnect_turnedAway _ _ (ready_of_live hlive) hen hup hlink hfree)⟩
  case close =>
    exact fun n htcp hopen => ⟨exec_awake (awake_of_live hlive) rfl (tcpFree_open htcp hopen),
      fun m hgrant => exec_live hlive rfl
        ((doSessionClose_granted hgrant).trans ((sesClose_tcp htcp).trans (tcpFree_open htcp hopen)))⟩
  case idle => exact fun n hidle hopen => exec_live hlive rfl (idleOut_due hidle hopen)
  case lock => exact fun n t h => exec_awake (awake_of_live hlive) rfl (loginUnlock_due h)
  case flow =>
    exact fun n x => ⟨fun h => exec_awake (awake_of_live hlive) rfl (doXonXoff_used x h),
      fun h => exec_awake (awake_of_live hlive) rfl (doXonXoff_unused x h)⟩
  case cts => exact fun n x => exec_awake (awake_of_live hlive) rfl rfl
  case wake =>
    exact fun n h => ⟨exec_awake (awake_of_live hlive) rfl (doBreak_supplied n h),
      exec_awake (awake_of_live hlive) rfl (doWakePattern_supplied n h)⟩
  case dark =>
    exact fun n h => ⟨exec_awake (awake_of_live hlive) rfl (doBreak_outOfRange n h),
      exec_awake (awake_of_live hlive) rfl (doWakePattern_outOfRange n h)⟩
  case all =>
    exact fun s => ⟨fun hlive => ⟨fun _ _ _ => exec_live hlive rfl rfl, fun _ _ => exec_live hlive rfl rfl,
      fun _ => exec_live hlive rfl rfl⟩,
      fun hawake => ⟨fun _ => exec_awake hawake rfl rfl, fun _ => exec_awake hawake rfl rfl,
        fun _ _ => exec_awake hawake rfl rfl, fun _ _ => exec_awake hawake rfl rfl, fun _ => exec_awake hawake rfl rfl,
        fun _ => exec_awake hawake rfl rfl⟩⟩

end Sys2Proof.Machine
end

