-- ==== Sys2Proof/Proofs/Verbs.lean ====
section
-- Proofs are elaborated and checked one by one: this bounds the memory.
set_option Elab.async false
/-! SUPPORT. A verb of a session whose turn it is: its line is counted, its values and rights are tested, and what it answers
ends it (R577, R583, R587, R609, R610). -/
namespace Sys2Proof.Machine

variable {s : State} {n : Nat} {x : Form}

/-! ### Lines -/

/-- A command that the session does not remember, and that may come before login or after one, is counted and executes. -/
theorem command_executes {early : Bool} (hnew : s.recall n x = none) (hmay : early = true ∨ s.on Rg.sesLogged n = true)
    (query : Bool) (k : State → State × Reply) :
    s.command n x query early k =
      (k (s.bumpSat Rg.sesLines n)).1.finish n x query (k (s.bumpSat Rg.sesLines n)).2 := by
  have hrecall : (if query then none else s.recall n x) = none := by rw [hnew, ite_self]
  have hlogin : (!early && !s.on Rg.sesLogged n) = false := by
    obtain h | h := hmay
    · rw [h]; rfl
    · rw [h, Bool.not_true, Bool.and_false]
  simp only [State.command, hrecall, hlogin, Bool.false_eq_true, if_false]

/-- A command that comes as a line of a session whose turn it is answers what its verb makes of the counted line. -/
theorem exec_line {c : Instr} {query early : Bool} {k : State → State × Reply} {t : State} {r : Reply} (h : s.turn n x)
    (hmay : early = true ∨ (s.modSes n (fun y => { y with lastLine := s.now })).on Rg.sesLogged n = true)
    (hline : exec c s = .next (s.effect (fun st => st.lineOf n x query early k))) (hverb : k (s.taken n) = (t, r)) :
    exec c s = .next (t.finish n x query r).settle := by
  have ⟨hlive, _, _, _, hnew⟩ := h
  refine exec_live hlive hline ?_
  have hdo : s.lineOf n x query early k = (k (s.taken n)).1.finish n x query (k (s.taken n)).2 :=
    (lineOf_turn h query early k).trans (command_executes hnew hmay query k)
  rw [hdo, hverb]

/-- The same for a verb that needs login. -/
theorem exec_verb {c : Instr} {query : Bool} {k : State → State × Reply} {tenant : Nat} {t : State} {r : Reply}
    (h : s.turnOf n x tenant) (hline : exec c s = .next (s.effect (fun st => st.lineOf n x query false k)))
    (hverb : k (s.taken n) = (t, r)) : exec c s = .next (t.finish n x query r).settle := by
  obtain ⟨hturn, hlogged, -⟩ := h
  exact exec_line hturn (.inr hlogged) hline hverb

/-- A session whose turn it is executes under its tenant. -/
theorem tenantOf_turnOf {t : Nat} (h : s.turnOf n x t) : (s.taken n).tenantOf (sesMaster n) = some t := h.2.2

/-! ### Verbs that wait -/

/-- A verb that waits sends nothing and is not remembered yet. -/
theorem finish_later (query : Bool) : s.finish n x query .later = s := by
  cases query <;> cases x <;> rfl

/-- A verb after which the session waits changes what it changes, and no more. -/
theorem exec_verb_waits {c : Instr} {query : Bool} {k : State → State × Reply} {tenant : Nat} {t : State}
    (h : s.turnOf n x tenant) (hline : exec c s = .next (s.effect (fun st => st.lineOf n x query false k)))
    (hverb : k (s.taken n) = (t, .later)) : exec c s = .next t.settle := by
  rw [exec_verb h hline hverb, finish_later]

/-! ### Values and rights -/

section Tested

variable {t : Nat} {good : Bool} {needs : List Need} (htenant : s.tenantOf (sesMaster n) = some t) (hgood : good = true)
include htenant hgood

/-- A verb with good values whose tenant holds what it needs, in domains that serve, has its effect. -/
theorem verb_allowed (hallowed : s.allowed t needs) (k : State → Nat → State × Reply) : s.verb n good needs k = k s t := by
  obtain ⟨hheld, haway⟩ := hallowed
  have hfind : needs.find? (fun x => !s.holds t x.1 x.2.1 x.2.2) = none := by
    rw [List.find?_eq_none]
    intro y hy
    rw [List.all_eq_true.mp hheld y hy]
    decide
  simp only [State.verb, htenant, hgood, Bool.not_true, Bool.false_eq_true, if_false, hfind, haway]

/-- A verb that needs no right of a target has its effect. -/
theorem verb_free (k : State → Nat → State × Reply) : s.verb n good [] k = k s t := verb_allowed htenant hgood ⟨rfl, rfl⟩ k

/-- Without the one right that it needs, a verb answers 203 with the target's name. -/
theorem verb_refused {need : Need} (h : s.holds t need.1 need.2.1 need.2.2 = false) (k : State → Nat → State × Reply) :
    s.verb n good [need] k = (s, .err 203 need.text) := by
  simp only [State.verb, htenant, hgood, Bool.not_true, Bool.false_eq_true, if_false, List.find?_cons, h, Bool.not_false]

end Tested

/-- A verb of T00 alone has its effect for T00. -/
theorem verbT00_proctor {good : Bool} (htenant : s.tenantOf (sesMaster n) = some 0) (hgood : good = true)
    (k : State → Nat → State × Reply) : s.verbT00 n good k = k s 0 := verb_free htenant hgood _

theorem verbT00_other {t : Nat} {good : Bool} (htenant : s.tenantOf (sesMaster n) = some t) (hgood : good = true) (ht : t ≠ 0)
    (k : State → Nat → State × Reply) : s.verbT00 n good k = (s, .err 203 (tx "T00")) :=
  (verb_free htenant hgood _).trans (if_neg ht)

end Sys2Proof.Machine
end

