-- ==== Sys2Proof/Proofs/SessionVerbs.lean ====
section
-- Proofs are elaborated and checked one by one: this bounds the memory.
set_option Elab.async false
/-! SUPPORT. login, logout, mode, help, get, set and the empty command (R572, R574, R583 to R589). -/
namespace Sys2Proof.Machine

variable {s : State}

/-! ### login (R584) -/

section Login

variable {n t code : Nat} (ht : t < 64) (hcode : code < 2 ^ 32)
include ht hcode

/-- A login with a tenant and a code that there can be tests the lock, and then the code. -/
theorem verbLogin_fields :
    s.verbLogin n t code =
      if s.loginLocked n then (s, .err 204 [])
      else if s.loginFits n t code then (s.loginTo n t, .ok)
      else (s.loginFailed n t, .err 202 []) :=
  if_neg (by omega)

theorem verbLogin_locked (h : s.loginLocked n = true) : s.verbLogin n t code = (s, .err 204 []) := by
  rw [verbLogin_fields ht hcode, if_pos h]

theorem verbLogin_fits (hlock : s.loginLocked n = false) (h : s.loginFits n t code = true) :
    s.verbLogin n t code = (s.loginTo n t, .ok) := by
  simp only [verbLogin_fields ht hcode, hlock, h, Bool.false_eq_true, if_false, if_true]

theorem verbLogin_wrong (hlock : s.loginLocked n = false) (h : s.loginFits n t code = false) :
    s.verbLogin n t code = (s.loginFailed n t, .err 202 []) := by
  simp only [verbLogin_fields ht hcode, hlock, h, Bool.false_eq_true, if_false]

end Login

/-! ### The empty command -/

/-- An empty line of a session whose turn it is executes. -/
theorem doEmptyCommand_turn {n : SessionId} {x : Form} (h : s.turn n.val x) :
    doEmptyCommand n x s = (s.modSes n.val (fun y => { y with lastLine := s.now })).emptyCommand n.val x := by
  obtain ⟨-, hreads, hlines, htyped, -⟩ := h
  have hmode : ¬(x = .typed ∧ s.sesMachine n.val = true) := fun ⟨hx, hm⟩ => by simp [htyped hx] at hm
  simp only [doEmptyCommand, hreads, hlines, List.isEmpty_nil, Bool.not_true, Bool.or_self, Bool.false_eq_true, if_false,
    if_neg hmode]

theorem doEmptyCommand_typed {n : SessionId} {x : Form} (h : s.turn n.val x) (hx : x = .typed) :
    doEmptyCommand n x s = (s.taken n.val).prompt n.val := by rw [doEmptyCommand_turn h, State.emptyCommand, if_pos hx]; rfl

theorem doEmptyCommand_machine {n : SessionId} {x : Form} (h : s.turn n.val x) (hx : x ≠ .typed) :
    doEmptyCommand n x s = (s.taken n.val).finish n.val x true .ok := by
  have hdo := doEmptyCommand_turn h
  obtain ⟨-, -, -, -, hnew⟩ := h
  rw [hdo, State.emptyCommand, if_neg hx, command_executes hnew (.inl rfl)]
  rfl

/-! ### get and set (R588, R589) -/

theorem verbGet_tenant {n t : Nat} (htenant : s.tenantOf (sesMaster n) = some t) (ps : List Text) :
    s.verbGet n ps = s.getPaths (sesMaster n) t ps := by simp only [State.verbGet, htenant]

theorem verbSet_tenant {n t : Nat} (htenant : s.tenantOf (sesMaster n) = some t) (asg : List (Text × Text)) :
    s.verbSet n asg =
      let r := s.setPaths (sesMaster n) t asg
      (r.1.each [0, 1] (fun st k => st.baudLater n k (s.ses k).baud), r.2) := by simp only [State.verbSet, htenant]

/-- Settles O56: each verb answers its session whose turn it is with what the lemmas above give for it. -/
theorem sessionVerbs : Obligations.SessionVerbs := by
  refine ⟨fun n x s hturn => ⟨?login, exec_line hturn (.inl rfl) rfl rfl, exec_line hturn (.inl rfl) rfl rfl,
    exec_line hturn (.inl rfl) rfl rfl, ?typed, ?machine, fun t h => ⟨?get, ?set⟩⟩, ?all⟩
  case login =>
    exact fun t c => ⟨fun h => exec_line hturn (.inl rfl) rfl (verbLogin_locked t.isLt c.isLt h),
      fun hlock h => exec_line hturn (.inl rfl) rfl (verbLogin_fits t.isLt c.isLt hlock h),
      fun hlock h => exec_line hturn (.inl rfl) rfl (verbLogin_wrong t.isLt c.isLt hlock h)⟩
  case typed =>
    have ⟨hlive, _⟩ := hturn
    exact fun hx => exec_live hlive rfl (doEmptyCommand_typed hturn hx)
  case machine =>
    have ⟨hlive, _⟩ := hturn
    exact fun hx => exec_live hlive rfl (doEmptyCommand_machine hturn hx)
  case get => exact fun ps => exec_verb h rfl (verbGet_tenant (tenantOf_turnOf h) ps)
  case set => exact fun asg => exec_verb h rfl (verbSet_tenant (tenantOf_turnOf h) asg)
  case all =>
    exact fun s hlive => ⟨fun _ _ _ _ => exec_live hlive rfl rfl, fun _ _ => exec_live hlive rfl rfl,
      fun _ _ _ => exec_live hlive rfl rfl, fun _ _ _ => exec_live hlive rfl rfl, fun _ _ => exec_live hlive rfl rfl,
      fun _ _ _ => exec_live hlive rfl rfl, fun _ _ _ => exec_live hlive rfl rfl⟩

end Sys2Proof.Machine
end

