-- ==== Sys2Proof/Proofs/TableAndCciVerbs.lean ====
section
-- Proofs are elaborated and checked one by one: this bounds the memory.
set_option Elab.async false
/-! SUPPORT. Table, statistics, coefficient, camera control and ack verbs (R545, R549, R618 to R621). -/
namespace Sys2Proof.Machine

variable {s : State} {n t : Nat}

section Verbs

variable (htenant : s.tenantOf (sesMaster n) = some t)
include htenant

/-! ### Tables (R618) -/

section Table

variable {p b k a : Nat}

theorem verbTableRead_allowed {c : Nat} (hgood : tableArgs p b k a c = true) (hallowed : s.allowed t [(0x14, none, .look)]) :
    s.verbTableRead n p b k a c =
      (s, .data [dataLine (tableName p b k a) (spaced ((upto c).map (fun i => hexW 32 (s.tbl (2 * p + b) k (a + i)))))]) :=
  verb_allowed htenant hgood hallowed _

theorem verbTableRead_refused {c : Nat} (hgood : tableArgs p b k a c = true) (hlook : s.holds t 0x14 none .look = false) :
    s.verbTableRead n p b k a c = (s, .err 203 (tx "pipe")) :=
  verb_refused htenant hgood (need := (0x14, none, .look)) hlook _

variable {ws : List Nat} (hgood : tableArgs p b k a ws.length = true)
  (hwords : ws.all (fun w => decide (w < 2 ^ 32)) = true) (hallowed : s.allowed t [(0x14, none, .set)])
include hgood hwords hallowed

theorem verbTableWrite_free (huse : s.bankInUse (2 * p + b) = false) :
    s.verbTableWrite n p b k a ws =
      (s.each ws.zipIdx (fun st w => st.tblWrite (2 * p + b) k (a + w.2) w.1), .ok) := by
  refine (verb_allowed htenant (by rw [hgood, hwords]; rfl) hallowed _).trans ?_
  simp only [huse, Bool.false_eq_true, if_false]

theorem verbTableWrite_inUse (huse : s.bankInUse (2 * p + b) = true) :
    s.verbTableWrite n p b k a ws = ((s.wr Rg.pipeTblBusy 1).raise 451 0 0, .err 402 []) := by
  refine (verb_allowed htenant (by rw [hgood, hwords]; rfl) hallowed _).trans ?_
  simp only [huse, if_true, tblWrite_inUse]

end Table

/-! ### Statistics (R620) -/

section Statistics

variable {l : LaneId} {q c : Fin 4} (hallowed : s.allowed t [(0x10, some l.val, .look)])
include hallowed

/-- The block of statistics that stands in front of a lane's readers. -/
def State.statBlock (s : State) (l : Nat) : List Byte :=
  if s.rd Rg.lnStatCur l = 1 then (s.lane l).stat1 else (s.lane l).stat0

theorem verbStats_allowed :
    s.verbStats n l.val q.val c.val =
      if s.rd Rg.lnPosted l.val = 0 || (s.statBlock l.val).isEmpty then (s, .err 401 [])
      else (s, .data (statsLines l.val (s.statBlock l.val) q.val c.val)) :=
  verb_allowed htenant (by simp only [l.isLt, q.isLt, c.isLt, decide_true, Bool.and_self]) hallowed _

theorem verbStats_none (h : s.rd Rg.lnPosted l.val = 0) : s.verbStats n l.val q.val c.val = (s, .err 401 []) := by
  simp only [verbStats_allowed htenant hallowed, h, decide_true, Bool.true_or, if_true]

theorem verbStats_posted (h : s.rd Rg.lnPosted l.val ≠ 0) (hblock : s.statBlock l.val ≠ []) :
    s.verbStats n l.val q.val c.val = (s, .data (statsLines l.val (s.statBlock l.val) q.val c.val)) := by
  have hsome : (s.statBlock l.val).isEmpty = false := by rw [← Bool.not_eq_true, List.isEmpty_iff]; exact hblock
  simp only [verbStats_allowed htenant hallowed, h, hsome, decide_false, Bool.or_self, Bool.false_eq_true, if_false]

end Statistics

/-! ### Coefficients -/

section Coefficients

variable {l : LaneId} {k : Nat} (hk : k < 4) (haway : s.targetAway 0x1C = false)
include hk haway

theorem verbCoefRead_allowed {ph : Nat} (hph : ph < 64) (hallowed : s.allowed t [(0x10, some l.val, .look)]) :
    s.verbCoefRead n l.val k ph =
      (s, .data [dataLine (joinWith ['.'] [tx "coef", 'L' :: dec2 l.val, dec k, dec ph])
        (spaced ((upto 8).map (fun i => decI (s.coef l.val k ph i))))]) := by
  refine (verb_allowed htenant (by simp only [coefArgs, l.isLt, hk, hph, decide_true, Bool.and_self]) hallowed _).trans ?_
  simp only [haway, Bool.false_eq_true, if_false]

variable (hallowed : s.allowed t [(0x10, some l.val, .set)]) (hoff : s.rd Rg.osEn l.val k = 0)
include hallowed hoff

theorem verbCoefReset_off :
    s.verbCoefReset n l.val k = ({ s with coefs := s.coefs.filter (fun e => e.1 / 512 != l.val * 4 + k) }, .ok) := by
  refine (verb_allowed htenant (by simp only [coefArgs, l.isLt, hk, Nat.zero_lt_succ, decide_true, Bool.and_self]) hallowed
    _).trans ?_
  simp only [haway, on_of_zero hoff, Bool.false_eq_true, if_false]

theorem verbCoefWrite_off {ph : Nat} {vs : List Int} (hph : ph < 64) (hlen : vs.length = 8)
    (hrange : vs.all (fun v => decide (-2048 ≤ v) && decide (v ≤ 2047)) = true) :
    s.verbCoefWrite n l.val k ph vs = (s.each vs.zipIdx (fun st v => st.coefWrite l.val k ph v.2 (ofSigned 12 v.1)), .ok) := by
  refine (verb_allowed htenant (by
    rw [hrange, hlen]; simp only [coefArgs, l.isLt, hk, hph, decide_true, Bool.and_self, beq_self_eq_true]) hallowed _).trans ?_
  simp only [haway, on_of_zero hoff, Bool.false_eq_true, if_false]

end Coefficients

/-! ### Camera control (R621) -/

/-- The transaction that a session asks for. -/
def CciArgs.transaction (a : CciArgs) (n : Nat) (rd : Bool) : CciTx :=
  { tag := 0, lane := a.lane.getD 0, trig := a.trig, dataBytes := a.db, regBytes := a.rb, read := rd, dev := a.dev,
    reg := a.reg, data := if rd then 0 else a.data, session := some n }

section Camera

variable {c : CciId} {a : CciArgs} (hgood : a.good = true) (hallowed : s.allowed t [(8, some (6 + c.val), .run)])
include hgood hallowed

/-- The transaction is pushed, and the session waits for its result. -/
theorem verbCci_pushes (rd : Bool) (x : Form) (hen : s.rd Rg.cciEn c.val = 1) (hroom : (s.cciOf c.val).queue.length < 64) :
    s.verbCci n c.val rd a x =
      ((s.cciPush c.val (a.transaction n rd)).modSes n (fun y => { y with wait := some (.cci c.val rd a.db s.now, x) }),
        .later) := by
  refine (verb_allowed htenant (by simp only [c.isLt, hgood, decide_true, Bool.and_self]) hallowed _).trans ?_
  simp only [on_of_one hen, Nat.not_le.mpr hroom, Bool.not_true, Bool.false_eq_true, if_false, CciArgs.transaction]

theorem verbCci_disabled (rd : Bool) (x : Form) (hen : s.rd Rg.cciEn c.val = 0) :
    s.verbCci n c.val rd a x = (s, .err 401 []) := by
  refine (verb_allowed htenant (by simp only [c.isLt, hgood, decide_true, Bool.and_self]) hallowed _).trans ?_
  simp only [on_of_zero hen, Bool.not_false, if_true]

end Camera

/-! ### ack (R545, R549) -/

section Ack

variable {c : CorrId} {q : Nat} (hallowed : s.allowed t [(0x30, some c.val, .run)]) (hq : q < 2 ^ 64)
include hallowed hq

theorem verbAck_otherRoute (hkind : (s.corr c.val).kind ≠ 3) : s.verbAck n c.val q = (s, .err 401 []) := by
  refine (verb_allowed htenant (by simp only [c.isLt, hq, decide_true, Bool.and_self]) hallowed _).trans ?_
  exact if_pos (by rw [bne_iff_ne.mpr hkind]; rfl)

theorem verbAck_advances (hkind : (s.corr c.val).kind = 3) (hroute : (s.corr c.val).route = n)
    (hsent : seqAhead (s.hiSent c.val) q = false) (hahead : seqAhead (s.corr c.val).acked q = true) :
    s.verbAck n c.val q = (s.ackAdvance c.val q, .ok) := by
  refine (verb_allowed htenant (by simp only [c.isLt, hq, decide_true, Bool.and_self]) hallowed _).trans ?_
  simp only [hkind, hroute, hsent, hahead, bne_self_eq_false, Bool.or_self, Bool.false_eq_true, if_false, if_true]

end Ack

end Verbs

/-- The result of a transaction has not come in time. -/
theorem cciTimeout_waiting {m d since : Nat} {r : Bool} {x : Form} (h : (s.ses n).wait = some (.cci m r d since, x)) :
    s.cciTimeout n = ((s.reach (since + msTicks 1000)).cciForget n).waitOver n x (.err 402 (tx "PENDING")) := by
  simp only [State.cciTimeout, h]

/-- Settles O57: each verb answers its session whose turn it is with what the lemmas above give for it. -/
theorem tableAndCciVerbs : Obligations.TableAndCciVerbs := by
  refine ⟨fun n x t s h => ?lines, fun n s => ⟨?camera, ?timeout, ?ack⟩, ?all⟩
  case lines =>
    have htenant := tenantOf_turnOf h
    refine ⟨fun p b k a c hgood => ⟨?read, ?refused⟩, fun p b k a ws hgood hwords hallowed => ⟨?write, ?inUse⟩,
      fun l q c hallowed => ⟨?none, ?posted⟩, fun l k hk haway => ⟨?coefRead, ?coefWrite⟩⟩
    case read => exact fun hallowed => exec_verb h rfl (verbTableRead_allowed htenant hgood hallowed)
    case refused => exact fun hlook => exec_verb h rfl (verbTableRead_refused htenant hgood hlook)
    case write => exact fun huse => exec_verb h rfl (verbTableWrite_free htenant hgood hwords hallowed huse)
    case inUse => exact fun huse => exec_verb h rfl (verbTableWrite_inUse htenant hgood hwords hallowed huse)
    case none => exact fun hpost => exec_verb h rfl (verbStats_none htenant hallowed hpost)
    case posted => exact fun hpost hblock => exec_verb h rfl (verbStats_posted htenant hallowed hpost hblock)
    case coefRead => exact fun ph hph hallowed => exec_verb h rfl (verbCoefRead_allowed htenant hk haway hph hallowed)
    case coefWrite =>
      exact fun hallowed hoff => ⟨exec_verb h rfl (verbCoefReset_off htenant hk haway hallowed hoff),
        fun ph vs hph hlen hrange =>
          exec_verb h rfl (verbCoefWrite_off htenant hk haway hallowed hoff hph hlen hrange)⟩
  case camera =>
    intro t x c a h u answers cmd waits hgood hallowed
    have htenant := tenantOf_turnOf h
    exact ⟨fun hen hroom => ⟨exec_verb_waits h rfl (verbCci_pushes htenant hgood hallowed false x hen hroom),
        exec_verb_waits h rfl (verbCci_pushes htenant hgood hallowed true x hen hroom)⟩,
      fun hen => ⟨exec_verb h rfl (verbCci_disabled htenant hgood hallowed false x hen),
        exec_verb h rfl (verbCci_disabled htenant hgood hallowed true x hen)⟩⟩
  case timeout =>
    exact fun m d since r x hlive h => exec_live hlive rfl (congrArg State.runLines (cciTimeout_waiting h))
  case ack =>
    intro t q x c h u answers hallowed hq
    have htenant := tenantOf_turnOf h
    exact ⟨fun hkind => exec_verb h rfl (verbAck_otherRoute htenant hallowed hq hkind),
      fun hkind hroute hsent hahead =>
        exec_verb h rfl (verbAck_advances htenant hallowed hq hkind hroute hsent hahead)⟩
  case all =>
    exact fun s hlive => ⟨fun _ _ _ _ _ _ _ => exec_live hlive rfl rfl, fun _ _ _ _ _ _ _ => exec_live hlive rfl rfl,
      fun _ _ _ _ _ => exec_live hlive rfl rfl, fun _ _ _ _ _ => exec_live hlive rfl rfl,
      fun _ _ _ _ => exec_live hlive rfl rfl, fun _ _ _ _ _ _ => exec_live hlive rfl rfl,
      fun _ _ _ _ => exec_live hlive rfl rfl, fun _ _ _ _ => exec_live hlive rfl rfl, fun _ => exec_live hlive rfl rfl,
      fun _ _ _ _ => exec_live hlive rfl rfl⟩

end Sys2Proof.Machine
end

