-- ==== Sys2Proof/Proofs/SfeAndStoreVerbs.lean ====
section
-- Proofs are elaborated and checked one by one: this bounds the memory.
set_option Elab.async false
/-! SUPPORT. Verbs of the SFE and of the parameter store (R622 to R625, R634). -/
namespace Sys2Proof.Machine

variable {s : State} {n t : Nat}

section Verbs

variable (htenant : s.tenantOf (sesMaster n) = some t)
include htenant

/-! ### Results and filters -/

theorem verbSfe_allowed {c : ChanId} (hallowed : s.allowed t [(0x3C, some c.val, .look)]) :
    s.verbSfe n c.val =
      let name := fun (z : Text) => tx "sfe." ++ 'S' :: dec2 c.val ++ '.' :: z
      (s, .data
        [dataLine (name (tx "value")) (decI (s.rdI Rg.sdValue c.val)), dataLine (name (tx "tag")) (dec (s.rd Rg.sdTag c.val)),
         dataLine (name (tx "flags")) (hexW 12 (s.rd Rg.sdFlags c.val)), dataLine (name (tx "seq")) (dec (s.rd Rg.sdSeq c.val)),
         dataLine (name (tx "stamp")) (dec (s.rd Rg.sdStamp c.val))]) :=
  verb_allowed htenant (decide_eq_true c.isLt) hallowed _

theorem verbFirRead_allowed {c : ChanId} {b a k : Nat} (hgood : firArgs c.val b a k = true)
    (hallowed : s.allowed t [(0x3C, some c.val, .look)]) :
    s.verbFirRead n c.val b a k =
      (s, .data [dataLine (joinWith ['.'] [tx "fir", 'S' :: dec2 c.val, dec b, dec a])
        (spaced ((upto k).map (fun i => decI (s.tap c.val b (a + i)))))]) :=
  verb_allowed htenant hgood hallowed _

section FirWrite

variable {c : ChanId} {b a : Nat} {hs : List Int} (hgood : firArgs c.val b a hs.length = true)
  (hrange : hs.all (fun v => decide (-8388608 ≤ v) && decide (v ≤ 8388607)) = true)
  (hallowed : s.allowed t [(0x3C, some c.val, .set)])
include hgood hrange hallowed

theorem verbFirWrite_free (huse : s.firInUse c.val b = false) :
    s.verbFirWrite n c.val b a hs = (s.each hs.zipIdx (fun st h => st.firWrite c.val b (a + h.2) h.1), .ok) := by
  refine (verb_allowed htenant (by rw [hgood, hrange]; rfl) hallowed _).trans ?_
  simp only [huse, Bool.false_eq_true, if_false]

theorem verbFirWrite_inUse (huse : s.firInUse c.val b = true) : s.verbFirWrite n c.val b a hs = (s.bankBusy, .err 402 []) :=
  (verb_allowed htenant (by rw [hgood, hrange]; rfl) hallowed _).trans (if_pos huse)

end FirWrite

/-! ### Linearisation (R625) -/

theorem verbLinRead_allowed {b tb k a c : Nat} (hgood : linArgs b tb k a c = true) (hallowed : s.allowed t [(0x3C, none, .look)]) :
    s.verbLinRead n b tb k a c =
      (s, .data [dataLine (joinWith ['.'] [tx "lin", dec b, dec tb, dec a])
        (spaced ((upto c).map (fun i => if k = 0 then decI (toSigned 32 (s.linWord b k tb (a + i))) else
          hexW 32 (s.linWord b k tb (a + i)))))]) :=
  verb_allowed htenant hgood hallowed _

theorem verbLinWrite_free {b tb k a : Nat} {ws : List Int} (hgood : linArgs b tb k a ws.length = true)
    (hrange : ws.all (fun v => decide (-2147483648 ≤ v) && decide (v < 4294967296)) = true)
    (hallowed : s.allowed t [(0x3C, none, .set)]) (huse : s.linInUse b = false) :
    s.verbLinWrite n b tb k a ws =
      (s.each ws.zipIdx (fun st w => st.linWrite b k tb (a + w.2) (ofSigned 32 w.1)), .ok) := by
  refine (verb_allowed htenant (by rw [hgood, hrange]; rfl) hallowed _).trans ?_
  simp only [huse, Bool.false_eq_true, if_false]

section LinLoad

variable {b tb : Nat} {file : Text} (hb : b < 2) (htb : tb < 16) (hallowed : s.allowed t [(0x3C, none, .set)])
include hb htb hallowed

theorem verbLinLoad_missing (hfind : s.storeFind file = none) : s.verbLinLoad n b tb file = (s, .err 301 []) := by
  refine (verb_allowed htenant (by simp only [hb, htb, decide_true, Bool.and_self]) hallowed _).trans ?_
  simp only [hfind]

/-- A stored table of np points is written word by word and committed. -/
theorem verbLinLoad_table {e : StoreEntry} {np : Nat} (hfind : s.storeFind file = some e)
    (hload : storeLoad e.bytes = some (0, np)) (huse : s.linInUse b = false) :
    s.verbLinLoad n b tb file =
      let v := ((s.each (upto ((e.bytes.length - 4) / 4)) (fun st k =>
        st.linWrite b 0 tb k (leAt e.bytes (4 + 4 * k) 4))).linSetPoints b tb np).linCommit b
      (v, if v.linValid b then .ok else .err 401 []) := by
  refine (verb_allowed htenant (by simp only [hb, htb, decide_true, Bool.and_self]) hallowed _).trans ?_
  simp only [hfind, hload, huse, Bool.false_eq_true, if_false, if_true]

end LinLoad

/-! ### The parameter store (R624) -/

theorem verbStoreList_look (hlook : s.holds t 0x3C none .look = true) :
    s.verbStoreList n = (s, .data (s.thotor.store.map (fun e => dataLine (tx "store." ++ e.name) (dec e.bytes.length)))) := by
  refine (verb_free htenant rfl _).trans ?_
  simp only [hlook, Bool.not_true, Bool.false_eq_true, if_false]

end Verbs

section Proctor

variable (htenant : s.tenantOf (sesMaster n) = some 0) (name : Text)
include htenant

/-- The store as the write will leave it with those in progress. -/
def State.storeAfter (s : State) (name : Text) (off : Nat) (bs : List Byte) : List StoreEntry :=
  storePut s.storePlanned (lower name)
    (overlay (match s.storePlanned.find? (fun e => e.name == lower name) with | some e => e.bytes | none => []) off bs)

theorem verbStoreWrite_fits {off : Nat} {bs : List Byte} (x : Form) (hname : storeName name = true) (hsome : 1 ≤ bs.length)
    (hshort : bs.length ≤ 96) (hend : off + bs.length ≤ 1024) (hcount : (s.storeAfter name off bs).length ≤ 64)
    (hsize : ((s.storeAfter name off bs).map (fun e => e.bytes.length)).sum ≤ 65536) :
    s.verbStoreWrite n name off bs x =
      (s.modSes n (fun y => { y with wait := some (.store (lower name) off bs s.now, x) }), .later) := by
  refine (verbT00_proctor htenant (by simp only [hname, hsome, hshort, hend, decide_true, Bool.and_self]) _).trans ?_
  exact if_neg (not_or.mpr ⟨Nat.not_lt.mpr hcount, Nat.not_lt.mpr hsize⟩)

theorem verbStoreErase_missing (hfind : s.storeFind (lower name) = none) : s.verbStoreErase n name = (s, .err 301 []) :=
  (verbT00_proctor htenant rfl _).trans (if_pos (by rw [hfind]; rfl))

theorem verbStoreErase_found (hfind : (s.storeFind (lower name)).isSome = true) :
    s.verbStoreErase n name =
      ({ s with thotor := { s.thotor with store := s.thotor.store.filter (fun e => e.name != lower name) } }, .ok) :=
  (verbT00_proctor htenant rfl _).trans (if_neg (by rw [← Option.not_isSome, hfind]; decide))

end Proctor

theorem storeDone_waiting {name : Text} {off since : Nat} {bs : List Byte} {x : Form}
    (h : (s.ses n).wait = some (.store name off bs since, x)) :
    s.storeDone n = (s.storeApply name off bs).waitOver n x .ok := by simp only [State.storeDone, h]

/-- Settles O58: each verb answers its session whose turn it is with what the lemmas above give for it. -/
theorem sfeAndStoreVerbs : Obligations.SfeAndStoreVerbs := by
  refine ⟨fun n x t s h => ?sfe, fun n s => ⟨?store, ?done⟩, ?all⟩
  case sfe =>
    have htenant := tenantOf_turnOf h
    refine ⟨fun c hallowed => ?result, fun c b a k hgood hallowed => ?firRead,
      fun c b a hs hgood hrange hallowed => ⟨fun huse => ?firWrite, fun huse => ?firInUse⟩,
      fun b tb k a c hgood hallowed => ?linRead, fun b tb k a ws hgood hrange hallowed huse => ?linWrite,
      fun b tb file hb htb hallowed => ⟨fun hfind => ?missing, fun e np hfind hload huse => ?load⟩⟩
    case result => exact exec_verb h rfl (verbSfe_allowed htenant hallowed)
    case firRead => exact exec_verb h rfl (verbFirRead_allowed htenant hgood hallowed)
    case firWrite => exact exec_verb h rfl (verbFirWrite_free htenant hgood hrange hallowed huse)
    case firInUse => exact exec_verb h rfl (verbFirWrite_inUse htenant hgood hrange hallowed huse)
    case linRead => exact exec_verb h rfl (verbLinRead_allowed htenant hgood hallowed)
    case linWrite => exact exec_verb h rfl (verbLinWrite_free htenant hgood hrange hallowed huse)
    case missing => exact exec_verb h rfl (verbLinLoad_missing htenant hb htb hallowed hfind)
    case load => exact exec_verb h rfl (verbLinLoad_table htenant hb htb hallowed hfind hload huse)
  case store =>
    intro t x h
    have htenant := tenantOf_turnOf h
    refine ⟨fun hlook => exec_verb h rfl (verbStoreList_look htenant hlook), ?write, ?erase,
      fun name ht => exec_verb h rfl (verbT00_other htenant rfl ht _)⟩
    case write =>
      intro name off bs ht hname hsome hshort hend l hcount hsize
      subst ht
      exact exec_verb_waits h rfl (verbStoreWrite_fits htenant name x hname hsome hshort hend hcount hsize)
    case erase =>
      intro name ht
      subst ht
      exact ⟨fun hfind => exec_verb h rfl (verbStoreErase_missing htenant name hfind),
        fun hfind => exec_verb h rfl (verbStoreErase_found htenant name hfind)⟩
  case done =>
    exact fun name off since bs x hlive h =>
      exec_awake (awake_of_live hlive) rfl (congrArg State.runLines (storeDone_waiting h))
  case all =>
    exact fun s => ⟨fun hlive => ⟨fun _ _ _ => exec_live hlive rfl rfl, fun _ _ _ _ _ _ => exec_live hlive rfl rfl,
      fun _ _ _ _ _ _ => exec_live hlive rfl rfl, fun _ _ _ _ _ _ _ => exec_live hlive rfl rfl,
      fun _ _ _ _ _ _ _ => exec_live hlive rfl rfl, fun _ _ _ _ _ => exec_live hlive rfl rfl,
      fun _ _ => exec_live hlive rfl rfl, fun _ _ _ _ _ => exec_live hlive rfl rfl, fun _ _ _ => exec_live hlive rfl rfl⟩,
      fun hawake _ => exec_awake hawake rfl rfl⟩

end Sys2Proof.Machine
end

