-- ==== Sys2Proof/Proofs/EngineVerbs.lean ====
section
-- Proofs are elaborated and checked one by one: this bounds the memory.
set_option Elab.async false
/-! SUPPORT. Engine, journal, event and time verbs (R613 to R616, R628, R629, R631 to R633). -/
namespace Sys2Proof.Machine

variable {s : State} {n t : Nat}

/-! ### The Proctor's verbs (R631, R632) -/

section Proctor

variable (htenant : s.tenantOf (sesMaster n) = some 0)
include htenant

theorem verbResetEngine_proctor :
    s.verbResetEngine n = ({ s with thotor := { s.thotor with resetAsked := some n } }, .ok) :=
  verbT00_proctor htenant rfl _

theorem verbJournalErase_wrongCode {code : Nat} (hcode : s.rd Rg.thCode 0 ≠ code) :
    s.verbJournalErase n code = (s, .err 202 []) :=
  (verbT00_proctor htenant rfl _).trans (if_pos (bne_iff_ne.mpr hcode))

theorem verbJournalErase_busy {code : Nat} (hcode : s.rd Rg.thCode 0 = code) (hidle : s.eraseOk = false) :
    s.verbJournalErase n code = (s, .err 401 []) := by
  refine (verbT00_proctor htenant rfl _).trans ?_
  simp only [hcode, hidle, bne_self_eq_false, Bool.false_eq_true, if_false, Bool.not_false, if_true]

theorem verbJournalErase_idle {code : Nat} (hcode : s.rd Rg.thCode 0 = code) (hidle : s.eraseOk = true) :
    s.verbJournalErase n code =
      ({ s with thotor := { s.thotor with resetAsked := some n, eraseAsked := true } }, .ok) := by
  refine (verbT00_proctor htenant rfl _).trans ?_
  simp only [hcode, hidle, bne_self_eq_false, Bool.not_true, Bool.false_eq_true, if_false]

end Proctor

section Verbs

variable (htenant : s.tenantOf (sesMaster n) = some t)
include htenant

/-! ### Jobs (R613 to R616, R633) -/

section Job

variable {c : CorrId} {v : State} {o : Nat} (hfree : s.corrFree c.val = false) (hroute : (s.corr c.val).kind ≠ 0)
include hfree hroute

/-- A job for a correspondent with a route that the door accepts is answered with its ordinal. -/
theorem verbJob_accepted {code work : Nat} {args : List Nat} {good : Bool} {need : Need} (hgood : good = true)
    (hallowed : s.allowed t [need, (0x30, some c.val, .look)])
    (hdoor : s.doorJob n c.val code (work + 2) args = (v, .accepted o)) :
    s.verbJob n c.val code work args good need = (v, .job o) := by
  have hkind : ((s.corr c.val).kind == 0) = false := beq_false_of_ne hroute
  refine (verb_allowed htenant (by simp only [hgood, c.isLt, decide_true, Bool.and_self]) hallowed _).trans ?_
  simp only [hfree, hkind, Bool.or_self, Bool.false_eq_true, if_false, hdoor]

theorem verbJournalRead_accepted {k : Nat} (h1 : 1 ≤ k) (h48 : k ≤ 48)
    (hallowed : s.allowed t [(2, none, .look), (0x30, some c.val, .look)])
    (hdoor : s.doorJob n c.val 1 2 [0, 1, k] = (v, .accepted o)) : s.verbJournalRead n none k c.val = (v, .job o) :=
  verbJob_accepted htenant hfree hroute (by simp only [h1, h48, decide_true, Bool.and_self]) hallowed hdoor

theorem verbTestJournal_accepted (hallowed : s.allowed t [(0x42, none, .run), (0x30, some c.val, .look)])
    (hdoor : s.doorJob n c.val 2 (ceilDiv 6250000 (max 1 s.periodTicks) + 2) [] = (v, .accepted o)) :
    s.verbTestJournal n c.val = (v, .job o) :=
  verbJob_accepted htenant hfree hroute rfl hallowed hdoor

end Job

/-! ### Events (R628) -/

section Events

variable {k : Nat} (h1 : 1 ≤ k) (h16 : k ≤ 16)
include h1 h16

theorem verbEventPeek_allowed (hallowed : s.allowed t [(4, none, .look)]) :
    s.verbEventPeek n k = (s, .data (((kvGet [] s.evt.queues t).take k).map eventText)) :=
  verb_allowed htenant (by simp only [h1, h16, decide_true, Bool.and_self]) hallowed _

theorem verbEventPop_allowed (hallowed : s.allowed t [(4, none, .run)]) :
    s.verbEventPop n k =
      let l := (kvGet [] s.evt.queues t).take k
      (s.each l (fun st _ => (st.popEvent t).1), .data (l.map eventText)) :=
  verb_allowed htenant (by simp only [h1, h16, decide_true, Bool.and_self]) hallowed _

end Events

/-! ### Time (R629) -/

theorem verbTime_allowed (hallowed : s.allowed t [(0, none, .look)]) :
    s.verbTime n =
      (s, .data
        [dataLine (tx "time.now") (dec s.now), dataLine (tx "time.bell") (dec (s.rd Rg.bellCount)),
         dataLine (tx "time.period") (dec (s.rd Rg.bellPeriodAct)),
         dataLine (tx "time.alarm") (dec (s.thotor.alarm.getD 0))]) :=
  verb_allowed htenant rfl hallowed _

section Alarm

variable (hallowed : s.allowed t [(0, none, .set)])
include hallowed

theorem verbAlarm_future {k : Nat} (hnow : s.now < k) (hk : k < 2 ^ 64) :
    s.verbAlarm n (some k) = ({ s with thotor := { s.thotor with alarm := some k } }, .ok) :=
  verb_allowed htenant (by simp only [hnow, hk, decide_true, Bool.and_self]) hallowed _

theorem verbAlarm_off : s.verbAlarm n none = ({ s with thotor := { s.thotor with alarm := none } }, .ok) :=
  verb_allowed htenant rfl hallowed _

end Alarm

end Verbs

theorem alarmFire_set {k : Nat} (h : s.thotor.alarm = some k) :
    s.alarmFire =
      State.wakeEvent { s.reach k with thotor := { (s.reach k).thotor with alarm := none } } 25 := by
  simp only [State.alarmFire, h]

/-- A journal test raises E0130 for each part that fails, and its record carries the lines (R633). -/
theorem jobWork_journalTest {o : Nat} {b : Billet} {j : JobInfo} (hbillet : s.billet? o = some b) (hjob : b.job = some j)
    (hrun : s.fw.running = false) (hcode : j.code = 2) :
    s.jobWork o =
      let r := s.journalTest
      (r.2.foldl (fun st e => st.raise 130 e.1 e.2) s).jobEnd b j 1 (if r.2.isEmpty then 0 else 401) (payloadLines r.1) := by
  have hother : ¬j.code = 1 := by omega
  simp only [State.jobWork, hbillet, hjob, hrun, Bool.false_eq_true, if_false, if_neg hother, State.each]

/-- Settles O59: each verb answers its session whose turn it is with what the lemmas above give for it. -/
theorem engineVerbs : Obligations.EngineVerbs := by
  refine ⟨fun s => ⟨?engine, ?work⟩, fun s => ⟨?events, ?alarm⟩, ?all⟩
  case engine =>
    intro n x t h
    have htenant := tenantOf_turnOf h
    refine ⟨?reset, fun ht => exec_verb h rfl (verbT00_other htenant rfl ht _), ?erase,
      fun c v o hfree hroute => ⟨?read, ?test⟩⟩
    case reset =>
      intro ht
      subst ht
      exact exec_verb h rfl (verbResetEngine_proctor htenant)
    case erase =>
      intro code ht
      subst ht
      exact ⟨fun hcode => exec_verb h rfl (verbJournalErase_wrongCode htenant hcode),
        fun hcode hidle => exec_verb h rfl (verbJournalErase_busy htenant hcode hidle),
        fun hcode hidle => exec_verb h rfl (verbJournalErase_idle htenant hcode hidle)⟩
    case read =>
      exact fun k h1 h48 hallowed hdoor =>
        exec_verb h rfl (verbJournalRead_accepted htenant hfree hroute h1 h48 hallowed hdoor)
    case test =>
      exact fun hallowed hdoor => exec_verb h rfl (verbTestJournal_accepted htenant hfree hroute hallowed hdoor)
  case work =>
    exact fun o b j hlive hbillet hjob hrun hcode => exec_live hlive rfl (jobWork_journalTest hbillet hjob hrun hcode)
  case events =>
    intro n x t h
    have htenant := tenantOf_turnOf h
    exact ⟨fun k h1 h16 => ⟨fun hallowed => exec_verb h rfl (verbEventPeek_allowed htenant h1 h16 hallowed),
        fun hallowed => exec_verb h rfl (verbEventPop_allowed htenant h1 h16 hallowed)⟩,
      fun hallowed => exec_verb h rfl (verbTime_allowed htenant hallowed),
      fun hallowed => ⟨fun k hnow hk => exec_verb h rfl (verbAlarm_future htenant hallowed hnow hk),
        exec_verb h rfl (verbAlarm_off htenant hallowed)⟩⟩
  case alarm => exact fun k hlive h => exec_awake (awake_of_live hlive) rfl (alarmFire_set h)
  case all =>
    exact fun s => ⟨fun hlive => ⟨fun _ _ => exec_live hlive rfl rfl, fun _ _ _ => exec_live hlive rfl rfl,
      fun _ _ _ _ _ => exec_live hlive rfl rfl, fun _ _ _ => exec_live hlive rfl rfl, fun _ => exec_live hlive rfl rfl,
      fun _ _ _ => exec_live hlive rfl rfl, fun _ _ _ => exec_live hlive rfl rfl, fun _ _ => exec_live hlive rfl rfl,
      fun _ _ _ => exec_live hlive rfl rfl⟩,
      fun hawake => exec_awake hawake rfl rfl⟩

end Sys2Proof.Machine
end

