-- ==== Sys2Proof/Proofs/Step.lean ====
section
-- Proofs are elaborated and checked one by one: this bounds the memory.
set_option Elab.async false
/-! SUPPORT. What every step does: it runs one command or idles, it always answers, and the outputs that follow the state show
it afterwards. -/
namespace Sys2Proof.Machine

variable {s : State}

/-! ### Every command answers -/

/-- Every command answers: nine act in a stopped or unpowered engine too (`State.effectDark`), all others under the condition of
`State.effect`, `State.effectAwake` or `State.effectDrain`. -/
theorem exec_answers (c : Instr) : Answers s (exec c s) := by
  cases c
  case vinValid | vinInvalid | resetN | resetNRelease | powerOnResetEnd | jtagInstruction | vioOutOfRange | vioInRange |
      testLogicReset => exact answers_settle _
  all_goals exact answers_if _ _

/-- A step idles, or answers as the command at the front of the queue. -/
theorem step_cases (s : State) :
    (s.pending = [] ∧ step s = .next s.idle) ∨
    ∃ c rest, s.pending = c :: rest ∧ Answers { s with pending := rest } (step s) := by
  unfold step
  split
  case h_1 h => exact .inl ⟨h, rfl⟩
  case h_2 c rest h => exact .inr ⟨c, rest, h, exec_answers c⟩

/-- Settles O1: the queue's front is what `step` matches on. -/
theorem stepRunsFront : Obligations.StepRunsFront := fun _ _ _ => rfl

/-- Settles O2: with an empty queue only the idle step is left. -/
theorem idleStep : Obligations.IdleStep := by
  intro s hempty
  obtain ⟨-, hidle⟩ | ⟨c, rest, hfront, -⟩ := step_cases s
  · exact hidle
  · rw [hempty] at hfront; cases hfront

/-- Settles O6: the idle step answers, and so does every command. -/
theorem everyStepAnswers : Obligations.EveryStepAnswers := by
  intro s
  obtain ⟨-, hidle⟩ | ⟨c, rest, -, hstep | ⟨u, hstep⟩⟩ := step_cases s
  · exact ⟨_, hidle⟩
  · exact ⟨_, hstep⟩
  · exact ⟨_, hstep⟩

/-! ### The outputs that follow the state -/

/-- The outputs show neither the timebase nor the commands that wait. -/
theorem settled_frame (now : Nat) (rest : List Instr) (h : s.settled) :
    State.settled { s with now := now, pending := rest } := h

/-- Settles O4: at reset no Billet is open, the staging buffer is empty, and no source is pending. -/
theorem outputsAtReset : Obligations.OutputsAtReset := ⟨rfl, rfl, by decide⟩

/-- Settles O5: the idle step and a command that is not heard change no output and nothing that one shows; after any other
command the outputs follow the state (`settle_settled`). -/
theorem outputsFollow : Obligations.OutputsFollow := by
  intro s t hs hstep
  obtain ⟨-, hidle⟩ | ⟨c, rest, -, hunheard | ⟨u, hheard⟩⟩ := step_cases s
  case inl =>
    obtain rfl : s.idle = t := Host.Outcome.next.inj (hidle.symm.trans hstep)
    exact settled_frame _ _ hs
  case inr.inl =>
    obtain rfl : { s with pending := rest } = t := Host.Outcome.next.inj (hunheard.symm.trans hstep)
    exact settled_frame _ _ hs
  case inr.inr =>
    obtain rfl : u.settle = t := Host.Outcome.next.inj (hheard.symm.trans hstep)
    exact settle_settled u

/-! ### Reset -/

/-- Settles O3: at reset no register is listed, and every queue is empty. -/
theorem resetState : Obligations.ResetState :=
  ⟨fun _ _ _ => rfl, rfl, rfl, rfl, rfl, rfl, rfl, rfl, rfl⟩

/-- Settles O14: a cold start keeps the registers of `coldKept` and of the journal its memory, and writes CAUSE and PAD_HELD. -/
theorem coldStartKeeps : Obligations.ColdStartKeeps := by
  intro cause vin held s
  have hcause : (s.coldBegin cause vin held).rd Rg.bootCause = cause % 2 ^ Rg.bootCause.width := by
    unfold State.coldBegin
    rw [rd_wr_ne _ _ _ _ _ _ _ _ (by decide), rd_wr_same]
  exact ⟨rd_coldBegin s cause vin held, hcause, rd_wr_same _ _ _ _ _, rfl, rfl, rfl, rfl, rfl, rfl⟩

/-! ### Rights of the Proctor, and the bytes of a journal entry -/

/-- Settles O11: T00 holds all four rights by its number, on a target (R640) and on an object (R652). -/
theorem proctorHoldsAll : Obligations.ProctorHoldsAll := by
  intro s g o r
  have hall : Nat.testBit 15 r.bitOf = true := by cases r <;> decide
  cases o with
  | none => simpa [State.holds, State.trights] using hall
  | some o => simpa [State.holds, State.effRights] using hall

@[simp] theorem length_leBytes (n x : Nat) : (leBytes n x).length = n := by
  induction n generalizing x with
  | zero => rfl
  | succ n ih => simp [leBytes, ih]

@[simp] theorem length_zeros (n : Nat) : (zeros n).length = n := List.length_replicate

/-- The body of every type of entry has 20 bytes (Table Accepted.5). -/
theorem length_parts_body (b : JBody) : b.parts.2.2.length = 20 := by cases b <;> simp [JBody.parts]

/-- Settles O13: the 28 bytes before the CRC are a fixed head of 8 and the body. -/
theorem journalEntryBytes : Obligations.JournalEntryBytes := by
  intro e
  have hbody := length_parts_body e.body
  have hhead : (leBytes 1 e.body.parts.1 ++ leBytes 1 e.body.parts.2.1 ++ leBytes 6 e.serial ++ e.body.parts.2.2).length = 28 := by
    simp [hbody]
  have htake : e.bytes.take 28 = _ := List.take_left' hhead
  have hdrop : e.bytes.drop 28 = _ := List.drop_left' hhead
  refine ⟨?_, hbody, htake, ?_⟩
  · simp [JEntry.bytes, hbody]
  · rw [hdrop, htake]

end Sys2Proof.Machine
end

