-- ==== Sys2Proof/Proofs/Texts.lean ====
section
-- Proofs are elaborated and checked one by one: this bounds the memory.
set_option Elab.async false
/-! SUPPORT. Numbers and machine lines are read back as they were written (R573, R579, R580). -/
namespace Sys2Proof.Machine

/-! ### Digits -/

theorem digitVal_dec : ∀ d < 10, digitVal 10 (digitChar d) = some d := by decide

theorem digitVal_hex : ∀ d < 16, digitVal 16 (digitChar d) = some d := by decide

/-- No digit is the separator, or the mark before a check. -/
theorem digitChar_ne_mark : ∀ d < 16, digitChar d ≠ '_' ∧ digitChar d ≠ '*' := by decide

/-- No decimal digit names a base. -/
theorem digitChar_ne_base : ∀ d < 10, ¬(digitChar d = 'x' ∨ digitChar d = 'X') ∧ ¬(digitChar d = 'b' ∨ digitChar d = 'B') := by
  decide

/-- A digit is read into the value before it. -/
theorem readDigits_digit {base v : Nat} {c : Char} (hval : digitVal base c = some v) (hsep : c ≠ '_') (sep prev : Bool)
    (acc : Nat) (rest : Text) :
    readDigits base sep prev acc (c :: rest) = readDigits base sep true (acc * base + v) rest := by
  simp [readDigits, hval, hsep]

/-- The separator between two digits is passed over. -/
theorem readDigits_sep (base acc : Nat) (rest : Text) :
    readDigits base true true acc ('_' :: rest) = readDigits base true false acc rest := by
  simp [readDigits]

/-! ### Decimal -/

theorem readDigits_decDigit (x : Nat) (sep prev : Bool) (acc : Nat) (rest : Text) :
    readDigits 10 sep prev acc (digitChar (x % 10) :: rest) = readDigits 10 sep true (acc * 10 + x % 10) rest :=
  have hx : x % 10 < 10 := Nat.mod_lt _ (by decide)
  readDigits_digit (digitVal_dec _ hx) (digitChar_ne_mark _ (by omega)).1 _ _ _ _

/-- The digits of a number, as far as the fuel reaches, spell it. -/
theorem readDigits_digitsGo (n : Nat) : ∀ (x : Nat) (rest : Text) (prev : Bool), 0 < n → x < 10 ^ n →
    readDigits 10 false prev 0 (digitsGo 10 n x rest) = readDigits 10 false true x rest := by
  induction n with
  | zero => intro x rest prev h; omega
  | succ n ih =>
    intro x rest prev _ hx
    simp only [digitsGo]
    split
    case isTrue hlast =>
      rw [readDigits_decDigit]
      congr 1; omega
    case isFalse hmore =>
      have hquot : x / 10 < 10 ^ n := by rw [Nat.pow_succ] at hx; omega
      have hn : 0 < n := by
        rcases Nat.eq_zero_or_pos n with rfl | hn
        · simp at hquot; omega
        · exact hn
      rw [ih _ _ _ hn hquot, readDigits_decDigit]
      congr 1; omega

/-- Every character of a written number satisfies what every digit does. -/
theorem forall_mem_digitsGo (p : Char → Prop) (hp : ∀ d < 10, p (digitChar d)) (n : Nat) :
    ∀ (x : Nat) (acc : Text), (∀ c ∈ acc, p c) → ∀ c ∈ digitsGo 10 n x acc, p c := by
  induction n with
  | zero => exact fun _ _ h => h
  | succ n ih =>
    intro x acc hacc
    have hcons : ∀ c ∈ digitChar (x % 10) :: acc, p c :=
      List.forall_mem_cons.mpr ⟨hp _ (Nat.mod_lt _ (by decide)), hacc⟩
    simp only [digitsGo]
    split
    case isTrue => exact hcons
    case isFalse => exact ih _ _ hcons

/-- A text in which no character names a base is read as decimal. -/
theorem readNat_of_noBase {t : Text} (h : ∀ c ∈ t, ¬(c = 'x' ∨ c = 'X') ∧ ¬(c = 'b' ∨ c = 'B')) :
    readNat t = readDigits 10 false false 0 t := by
  unfold readNat
  split
  case h_1 x cs =>
    obtain ⟨hx, hb⟩ := h x (by simp)
    rw [if_neg hx, if_neg hb]
  case h_2 => rfl

/-- A decimal is read back. -/
theorem readNat_dec {x : Nat} (h : x < 10 ^ 25) : readNat (dec x) = some x := by
  rw [dec, readNat_of_noBase (forall_mem_digitsGo _ digitChar_ne_base 25 x [] (by simp)),
    readDigits_digitsGo 25 x [] false (by decide) h]
  rfl

/-! ### Hexadecimal -/

@[simp] theorem length_hexN (n x : Nat) : (hexN n x).length = n := by
  induction n generalizing x with
  | zero => rfl
  | succ n ih => simp [hexN, ih]

/-- Every character of a written hexadecimal satisfies what every digit does. -/
theorem forall_mem_hexN (p : Char → Prop) (hp : ∀ d < 16, p (digitChar d)) (n x : Nat) : ∀ c ∈ hexN n x, p c := by
  induction n generalizing x with
  | zero => simp [hexN]
  | succ n ih =>
    intro c hc
    rcases List.mem_append.mp hc with hinit | hlast
    · exact ih _ c hinit
    · rw [List.mem_singleton.mp hlast]
      exact hp _ (Nat.mod_lt _ (by decide))

/-- Hexadecimal digits spell as much of a number as they have room for. -/
theorem readDigits_hexN (n : Nat) : ∀ (x acc : Nat) (sep prev : Bool) (rest : Text),
    readDigits 16 sep prev acc (hexN n x ++ rest) =
      readDigits 16 sep (prev || decide (0 < n)) (acc * 16 ^ n + x % 16 ^ n) rest := by
  induction n with
  | zero => simp [hexN, Nat.mod_one]
  | succ n ih =>
    intro x acc sep prev rest
    have hd : x % 16 < 16 := Nat.mod_lt _ (by decide)
    have hmod : x % 16 ^ (n + 1) = x / 16 % 16 ^ n * 16 + x % 16 := by
      rw [Nat.pow_succ', Nat.mod_mul]; omega
    have hval : (acc * 16 ^ n + x / 16 % 16 ^ n) * 16 + x % 16 = acc * 16 ^ (n + 1) + x % 16 ^ (n + 1) := by
      rw [hmod, Nat.add_mul, Nat.mul_assoc, ← Nat.pow_succ, Nat.add_assoc]
    rw [hexN, List.append_assoc, ih, List.singleton_append,
      readDigits_digit (digitVal_hex _ hd) (digitChar_ne_mark _ hd).1, hval]
    simp

theorem readDigits_hexN_eq {n x : Nat} (hn : 0 < n) (hx : x < 16 ^ n) (sep prev : Bool) :
    readDigits 16 sep prev 0 (hexN n x) = some x := by
  have h := readDigits_hexN n x 0 sep prev []
  simpa [hn, Nat.mod_eq_of_lt hx, readDigits] using h

/-- A hexadecimal digit. -/
def isHexChar (c : Char) : Prop := ∃ d < 16, c = digitChar d

/-- A text of hexadecimal digits reads the same with its underscores; a digit must stand first. -/
theorem readDigits_under (t : Text) : ∀ (acc : Nat) (prev : Bool), (∀ c ∈ t, isHexChar c) → (prev = true ∨ t ≠ []) →
    readDigits 16 true prev acc (under t) = readDigits 16 true true acc t := by
  induction t with
  | nil => intro acc prev _ hprev; simp [under, hprev.resolve_right (by simp)]
  | cons c cs ih =>
    intro acc prev hhex _
    obtain ⟨⟨d, hd, rfl⟩, hcs⟩ := List.forall_mem_cons.mp hhex
    have hdigit := readDigits_digit (digitVal_hex d hd) (digitChar_ne_mark d hd).1 true
    unfold under
    split
    case isTrue hgroup =>
      have hne : cs ≠ [] := fun h => hgroup.2 (by simp [h])
      rw [hdigit, hdigit, readDigits_sep, ih _ _ hcs (.inr hne)]
    case isFalse =>
      rw [hdigit, hdigit, ih _ _ hcs (.inl rfl)]

/-- The value of a field of `w` bits fits in its digits. -/
theorem lt_hexDigits {w x : Nat} (hx : x < 2 ^ w) : x < 16 ^ ceilDiv w 4 :=
  calc x < 2 ^ w := hx
    _ ≤ 2 ^ (4 * ceilDiv w 4) := Nat.pow_le_pow_right (by decide) (by unfold ceilDiv; omega)
    _ = 16 ^ ceilDiv w 4 := Nat.pow_mul 2 4 _

/-- A hexadecimal is read back. -/
theorem readNat_hexW {w x : Nat} (hw : 0 < w) (hx : x < 2 ^ w) : readNat (hexW w x) = some x := by
  have hn : 0 < ceilDiv w 4 := by unfold ceilDiv; omega
  have hne : hexN (ceilDiv w 4) x ≠ [] := by simp [← List.length_pos_iff, hn]
  have hhex : ∀ c ∈ hexN (ceilDiv w 4) x, isHexChar c := forall_mem_hexN _ (fun d hd => ⟨d, hd, rfl⟩) _ _
  calc readNat (hexW w x) = readDigits 16 true false 0 (under (hexN (ceilDiv w 4) x)) := rfl
    _ = readDigits 16 true true 0 (hexN (ceilDiv w 4) x) := readDigits_under _ 0 false hhex (.inr hne)
    _ = some x := readDigits_hexN_eq hn (lt_hexDigits hx) true true

/-- Settles O16: decimal by its digits, hexadecimal by its digits and underscores. -/
theorem numbersRoundTrip : Obligations.NumbersRoundTrip :=
  ⟨fun _ h => readNat_dec h, fun _ _ hw hx => readNat_hexW hw hx⟩

/-! ### Machine lines -/

/-- One bit of the CRC leaves 16 bits. -/
theorem crc16Bits_succ_lt (n c : Nat) : crc16Bits (n + 1) c < 2 ^ 16 := by
  induction n generalizing c with
  | zero =>
    have hshift : c * 2 % 65536 < 2 ^ 16 := Nat.mod_lt _ (by decide)
    show (if c.testBit 15 then (c * 2 % 65536) ^^^ 0x1021 else c * 2 % 65536) < 2 ^ 16
    split
    case isTrue => exact Nat.xor_lt_two_pow hshift (by decide)
    case isFalse => exact hshift
  | succ n ih => exact ih _

theorem crc16_lt (bs : List Nat) : crc16 bs < 2 ^ 16 := by
  have hfold : ∀ c < 2 ^ 16, bs.foldl (fun c b => crc16Bits 8 (c ^^^ (b * 256))) c < 2 ^ 16 := by
    induction bs with
    | nil => exact fun _ h => h
    | cons b bs ih => exact fun c _ => ih _ (crc16Bits_succ_lt 7 _)
  exact hfold _ (by decide)

/-- A list is split at its first element that fails the test. -/
theorem spanLoop_append {α : Type} {p : α → Bool} {xs ys : List α} {y : α} (hxs : ∀ x ∈ xs, p x = true) (hy : p y = false) :
    ∀ acc, List.span.loop p (xs ++ y :: ys) acc = (acc.reverse ++ xs, y :: ys) := by
  induction xs with
  | nil => intro acc; simp [List.span.loop, hy]
  | cons x xs ih =>
    intro acc
    obtain ⟨hx, hrest⟩ := List.forall_mem_cons.mp hxs
    simp [List.span.loop, hx, ih hrest]

/-- A text is split at the "*" that no other follows. -/
theorem atLastStar_append {body chk : Text} (h : ∀ c ∈ chk, c ≠ '*') :
    atLastStar (body ++ '*' :: chk) = some (body, chk) := by
  have hrev : (body ++ '*' :: chk).reverse = chk.reverse ++ '*' :: body.reverse := by simp
  have hchk : ∀ c ∈ chk.reverse, (c != '*') = true := by simpa using h
  rw [atLastStar, hrev, List.span, spanLoop_append hchk (by simp)]
  simp

/-- A text with its check is read as the tag and the command in front of it. -/
theorem readMachine_checked (body : Text) :
    readMachine (checked body) =
      some (tagOf body, trimmed (body.drop (1 + (tagOf body).length)), hexN 4 (crc16 (textBytes body))) := by
  have hstar : ∀ c ∈ hexN 4 (crc16 (textBytes body)), c ≠ '*' :=
    forall_mem_hexN _ (fun d hd => (digitChar_ne_mark d hd).2) _ _
  have hread := readDigits_hexN_eq (n := 4) (by decide) (crc16_lt (textBytes body)) false false
  simp [readMachine, checked, atLastStar_append hstar, hread]

/-- The tag of a line ends at its first space. -/
theorem tagOf_tag {tag : Text} (h : isTag tag = true) (cmd : Text) : tagOf ('#' :: tag ++ ' ' :: cmd) = tag := by
  have hdigits : ∀ c ∈ tag, isDigit c = true := by
    simp only [isTag, Bool.and_eq_true, List.all_eq_true] at h
    exact h.2
  have hkeep : ∀ c ∈ tag, (c != ' ' && c != '*') = true := by
    intro c hc
    have hd := hdigits c hc
    have hspace : c ≠ ' ' := by rintro rfl; exact absurd hd (by decide)
    have hmark : c ≠ '*' := by rintro rfl; exact absurd hd (by decide)
    simp [hspace, hmark]
  show (tag ++ ' ' :: cmd).takeWhile _ = tag
  rw [List.takeWhile_append_of_pos hkeep]
  simp

theorem trimmed_space (cmd : Text) : trimmed (' ' :: cmd) = trimmed cmd := by simp [trimmed]

/-- Settles O15: the check is at the last "*", the tag before the first space, and the space goes with the trimming. -/
theorem machineLineRoundTrip : Obligations.MachineLineRoundTrip := by
  intro tag cmd htag htrim
  have hdrop : ('#' :: tag ++ ' ' :: cmd).drop (1 + tag.length) = ' ' :: cmd := by
    rw [Nat.add_comm, List.cons_append, List.drop_succ_cons, List.drop_left]
  rw [readMachine_checked, tagOf_tag htag, hdrop, trimmed_space, htrim]

end Sys2Proof.Machine
end
